-- ==== Sys2Proof/Word.lean ====
section
/-! DEFINITION. The words of the TK1640's links: the widths in which ch. 13 (R187 to R189) sends every field. -/

namespace Sys2Proof

/-- One byte of either link. -/
abbrev Byte := BitVec 8
/-- A two-byte field, most significant byte first on the wire. -/
abbrev Half := BitVec 16
/-- A four-byte field. -/
abbrev Long := BitVec 32
/-- A three-byte flag mask (ch. 13: the flag with code n is bit n - 1). -/
abbrev Mask := BitVec 24
/-- A pulse count of the encoder, which wraps modulo 2^32 (R35). -/
abbrev Count := BitVec 32

end Sys2Proof
end

