-- ==== Sys2Proof/Config.lean ====
section
/-! DEFINITION. What the manual leaves open of one part: the free values (nothing in Lean can evaluate them)
and the fixed figures of the part that no request changes. -/

namespace Sys2Proof.Config

/-- What a four-byte signed millimetre field of a reply carries for a position that four bytes cannot hold.
R37 computes positions in 64-bit arithmetic and ch. 13 gives the field four bytes; the spec does not say what
is sent for a position outside them. Free value (assumption 3). -/
opaque unheldPosition : Int → BitVec 32

/-- R182: the length of an ATTN pulse, in ms. -/
def pulseMs : Nat := 10

/-- R175: an error counter of the plant link stops at this value. R49: so does an ignored-edge count. -/
def byteTop : Nat := 255

/-- R76, R136: where the late counters and the stale-readback counters stop. -/
def halfTop : Nat := 65535

/-- The units table of ch. 0 and R54, R101: where a 32-bit charge account saturates, in mC. -/
def accountTop : Nat := 4294967295

/-- R55: how many carrier records can be live. -/
def tableSize : Nat := 64

/-- R55, R59: how many announcements can be queued. -/
def queueSize : Nat := 8

end Sys2Proof.Config
end

