-- ==== Sys2Proof/Syntax.lean ====
section
/-! DEFINITION. The commands of the TK1640: one constructor of `Instr` for each row of spec/opcode_table.json,
with the operands that the row's rule gives it.

A request of the plant link carries the address byte its frame was sent to and its payload fields at their wire
widths (sec. 13.2), so that every value a frame can carry can be written, those that its owner refuses included. -/

namespace Sys2Proof

/-- R35: the sense of one quadrature step: the one in which ENC_A leads ENC_B, or the other. -/
inductive QuadSense where
  | aLeads
  | bLeads
  deriving DecidableEq, Repr

/-- The two carrier sensors (ports table of ch. 0, R44). -/
inductive Sensor where
  | entry
  | exit
  deriving DecidableEq, Repr

/-- R167, R168: what makes the receiver abandon a frame, the gap apart. `breakBegins` is the stop error of a character
at which the line went to the break level, and `stopError` any stop error; a break may follow either (assumption 8). -/
inductive AbandonCause where
  | parityError
  | stopError
  | breakBegins
  | badLength
  deriving DecidableEq, Repr

/-- The input pins as they are sampled when RESET_N goes high (R35, R44, R160, R161). A Bool of a level is true
for the high level. -/
structure Pins where
  encA : Bool
  encB : Bool
  entryHigh : Bool
  exitHigh : Bool
  haltNHigh : Bool
  addr : Byte
  baud : BitVec 2
  deriving DecidableEq, Repr

/-- Payload of SET ZONE (R17, sec. 13.2). -/
structure ZoneFields where
  zone : Byte
  boundary : Half
  kind : Byte
  profile : Byte
  channelA : Byte
  channelB : Byte
  jLo : Half
  jHi : Half
  deriving DecidableEq, Repr

/-- Payload of SET LINE (R6, sec. 13.2). -/
structure LineFields where
  scale : Long
  sense : Byte
  entryEdge : Byte
  exitEdge : Byte
  holdOff : Half
  xExit : Half
  window : Half
  lMin : Half
  defaultLength : Half
  defaultAreaA : Half
  defaultAreaB : Half
  defaultSlot : Byte
  s0 : Half
  stopTime : Half
  parkTime : Half
  resumeDistance : Byte
  restartDelay : Half
  jP : Byte
  warnBand : Byte
  tripBand : Byte
  replyWindow : Byte
  group : Byte
  deriving DecidableEq, Repr

/-- Payload of SET PROFILE (R21, sec. 13.2). -/
structure ProfileFields where
  profile : Byte
  tF : Half
  tO1 : Half
  tR : Half
  tO2 : Half
  rho : Half
  phi : Half
  deriving DecidableEq, Repr

/-- Payload of ANNOUNCE (R59, sec. 13.2). -/
structure AnnounceFields where
  tag : Half
  length : Half
  areaA : Half
  areaB : Half
  slot : Byte
  deriving DecidableEq, Repr

/-- Payload of AMEND (R69): the optional parts of R188 are present or absent. -/
structure AmendFields where
  tag : Half
  length : Option Half
  areas : Option (Half × Half)
  program : Option Byte
  deriving DecidableEq, Repr

/-- Payload of PLACE (R71, sec. 13.2). -/
structure PlaceFields where
  tag : Half
  lead : Half
  length : Half
  areaA : Half
  areaB : Half
  slot : Byte
  fwdA : Long
  revA : Long
  fwdB : Long
  revB : Long
  deriving DecidableEq, Repr

/-- The requests of sec. 13.2, without the address they are sent to. -/
inductive Request where
  | setZone (f : ZoneFields)
  | setChannel (channel : Byte) (iFmax iRmax : Half)
  | setLine (f : LineFields)
  | setProfile (f : ProfileFields)
  | readMap (selector item : Byte)
  | mapAccess (operation : Byte)
  | defineProgram (slot : Byte) (qT jMin jMax : Half)
  | readProgram (slot : Byte)
  | freeze (slot : Byte)
  | withdraw (slot : Byte)
  | reinstate (slot : Byte)
  | erase (slot : Byte)
  | setSpeed (speed : Half)
  | readPosition (clear : Byte)
  | announce (f : AnnounceFields)
  | cancelAnnouncement (tag : Half)
  | lookup (selector : Byte) (key : Long)
  | amend (f : AmendFields)
  | identify (index generation : Byte) (tag : Half) (slot : Option Byte)
  | place (f : PlaceFields)
  | retire (selector : Byte) (key : Half)
  | walkFirst
  | walkNext
  | readQueue
  | enableZone (zone : Byte)
  | disableZone (zone : Byte)
  | readZone (zone : Byte)
  | readChannel (channel clear : Byte)
  | readFaults
  | halt
  | resume
  | resetLine
  | setAddress (address group : Byte)
  | readLink
  | readEvents
  | clearEvents (mask : Mask)
  | setAttention (mask : Mask) (mode : Byte) (interval : Half)
  deriving DecidableEq, Repr

/-- The commands: spec/opcode_table.json row by row. -/
inductive Instr where
  /-- POWER_ON_RESET (R160): RESET_N goes high with the pins at these levels. -/
  | powerOnReset (pins : Pins)
  /-- ENCODER_PULSE (R35): a valid quadrature step in this sense. -/
  | encoderPulse (sense : QuadSense)
  /-- STOP_TIMER_EXPIRY (R38). -/
  | stopTimerExpiry
  /-- PARK_TIMER_EXPIRY (R40). -/
  | parkTimerExpiry
  /-- SENSOR_EDGE (R44): the selected edge of a sensor input. -/
  | sensorEdge (sensor : Sensor)
  /-- HALT_N_ACTIVE (R152). -/
  | haltNActive
  /-- HALT_N_INACTIVE (R152). -/
  | haltNInactive
  /-- PERIOD_BOUNDARY (R81): the period timer of a zone expires. -/
  | periodBoundary (zone : Fin 16)
  /-- RESTART_TIMER_EXPIRY (R88, R91). -/
  | restartTimerExpiry (zone : Fin 16)
  /-- DRIVE_FRAME_SENT (R122): the last character of the TK1640's drive bus frame is sent. -/
  | driveFrameSent
  /-- REPLY_FRAME_END (R133): characters with these data and parity bits (R122) have been received. -/
  | replyFrameEnd (data : List Byte) (parity : List Bool)
  /-- REPLY_BROKEN_OFF (R132). -/
  | replyBrokenOff
  /-- REPLY_WINDOW_END (R132). -/
  | replyWindowEnd
  /-- PULSE_TIMER_EXPIRY (R182). -/
  | pulseTimerExpiry
  /-- REMINDER_TIMER_EXPIRY (R183). -/
  | reminderTimerExpiry
  /-- COMPLETE_FRAME (R169): the last character of this plant link frame arrives, start byte and CRC included. -/
  | completeFrame (frame : List Byte)
  /-- ABANDONMENT (R167). -/
  | abandonment (cause : AbandonCause)
  /-- GAP (R167): 2 ms pass inside a frame with no next character. -/
  | gap
  /-- BREAK (R168): the plant link has stood at the break level for 2 character times. -/
  | lineBreak
  /-- OVERRUN (R172): a character arrives in REPLY before the reply has begun. -/
  | overrun
  /-- TURNAROUND (R172): the turnaround ends. -/
  | turnaround
  /-- REPLY_SENT (R172): the last stop bit of the reply ends. -/
  | replySent
  /-- SET_ZONE (R17). -/
  | setZone (addr : Byte) (f : ZoneFields)
  /-- SET_CHANNEL (R5). -/
  | setChannel (addr channel : Byte) (iFmax iRmax : Half)
  /-- SET_LINE (R6). -/
  | setLine (addr : Byte) (f : LineFields)
  /-- SET_PROFILE (R21). -/
  | setProfile (addr : Byte) (f : ProfileFields)
  /-- READ_MAP (R18). -/
  | readMap (addr selector item : Byte)
  /-- MAP_ACCESS (R15). -/
  | mapAccess (addr operation : Byte)
  /-- DEFINE_PROGRAM (R26). -/
  | defineProgram (addr slot : Byte) (qT jMin jMax : Half)
  /-- READ_PROGRAM (R34); slot 0xFF is ALL. -/
  | readProgram (addr slot : Byte)
  /-- FREEZE (R27). -/
  | freeze (addr slot : Byte)
  /-- WITHDRAW (R28). -/
  | withdraw (addr slot : Byte)
  /-- REINSTATE (R29). -/
  | reinstate (addr slot : Byte)
  /-- ERASE (R30). -/
  | erase (addr slot : Byte)
  /-- SET_SPEED (R43). -/
  | setSpeed (addr : Byte) (speed : Half)
  /-- READ_POSITION (R53). -/
  | readPosition (addr clear : Byte)
  /-- ANNOUNCE (R59). -/
  | announce (addr : Byte) (f : AnnounceFields)
  /-- CANCEL_ANNOUNCEMENT (R60). -/
  | cancelAnnouncement (addr : Byte) (tag : Half)
  /-- LOOKUP (R68). -/
  | lookup (addr selector : Byte) (key : Long)
  /-- AMEND (R69). -/
  | amend (addr : Byte) (f : AmendFields)
  /-- IDENTIFY (R70). -/
  | identify (addr index generation : Byte) (tag : Half) (slot : Option Byte)
  /-- PLACE (R71). -/
  | place (addr : Byte) (f : PlaceFields)
  /-- RETIRE (R72). -/
  | retire (addr selector : Byte) (key : Half)
  /-- WALK_FIRST (R74). -/
  | walkFirst (addr : Byte)
  /-- WALK_NEXT (R74). -/
  | walkNext (addr : Byte)
  /-- READ_QUEUE (R75). -/
  | readQueue (addr : Byte)
  /-- ENABLE_ZONE (R84). -/
  | enableZone (addr zone : Byte)
  /-- DISABLE_ZONE (R85). -/
  | disableZone (addr zone : Byte)
  /-- READ_ZONE (R102). -/
  | readZone (addr zone : Byte)
  /-- READ_CHANNEL (R137). -/
  | readChannel (addr channel clear : Byte)
  /-- READ_FAULTS (R150). -/
  | readFaults (addr : Byte)
  /-- HALT (R153). -/
  | halt (addr : Byte)
  /-- RESUME (R154). -/
  | resume (addr : Byte)
  /-- RESET_LINE (R156). -/
  | resetLine (addr : Byte)
  /-- SET_ADDRESS (R176). -/
  | setAddress (addr address group : Byte)
  /-- READ_LINK (R177). -/
  | readLink (addr : Byte)
  /-- READ_EVENTS (R186). -/
  | readEvents (addr : Byte)
  /-- CLEAR_EVENTS (R179). -/
  | clearEvents (addr : Byte) (mask : Mask)
  /-- SET_ATTENTION (R184). -/
  | setAttention (addr : Byte) (mask : Mask) (mode : Byte) (interval : Half)
  /-- RESET_N_LOW (R160). -/
  | resetNLow
  /-- SKIPPED_STATE (R35): both encoder inputs change level between two samples. -/
  | skippedState
  /-- SENSOR_OTHER_EDGE (R44): a change of a sensor input that is not its selected edge. -/
  | sensorOtherEdge (sensor : Sensor)
  /-- CHARACTER_RECEIVED (R165): a plant link character, as the levels of R162 that follow its start bit, true
  at the idle level, which a one has (assumption 24). -/
  | characterReceived (data : Byte) (parity stop : Bool)
  /-- LINE_RETURNS_TO_IDLE (R168). -/
  | lineReturnsToIdle
  /-- REPLY_BEGINS (R132). -/
  | replyBegins
  deriving DecidableEq, Repr

end Sys2Proof
end

