-- ==== Sys2Proof/Machine/State.lean ====
section
/-! DEFINITION. The state of the TK1640, block by block (the block table of ch. 0), and its value after power-on
reset. Every structure is plain data. Quantities are natural numbers in the units of ch. 0; a pulse count, a
generation, a sequence number and the flag sets are bit vectors, since the manual wraps or masks them. -/

namespace Sys2Proof.Machine

/-! ### Line Map (ch. 1, sec. 2.1) -/

/-- R1, R2: how a zone is powered. -/
inductive ZoneKind where
  | paired
  | common
  | unpowered
  deriving DecidableEq, Repr

/-- The two faces of the panels, and the two sides of a zone (R2, R78). -/
inductive Face where
  | A
  | B
  deriving DecidableEq, Repr

/-- R1: a zone entry. -/
structure ZoneEntry where
  boundary : Nat
  kind : ZoneKind
  profile : Fin 8
  channelA : Option (Fin 32)
  channelB : Option (Fin 32)
  jLo : Nat
  jHi : Nat
  deriving DecidableEq, Repr

/-- R5: a channel entry, its ratings in 0.1 A. -/
structure ChannelEntry where
  iFmax : Nat
  iRmax : Nat
  deriving DecidableEq, Repr

/-- R19: a waveform profile; `isSet` is its state SET. T and N of R20 are computed from the fields. -/
structure Profile where
  isSet : Bool
  tF : Nat
  tO1 : Nat
  tR : Nat
  tO2 : Nat
  rho : Nat
  phi : Nat
  deriving DecidableEq, Repr

/-- R6, R44: the edge of a sensor input that is selected. -/
inductive Edge where
  | rising
  | falling
  deriving DecidableEq, Repr

/-- R6: the line settings record. -/
structure LineSettings where
  scale : Nat
  swapped : Bool
  entryEdge : Edge
  exitEdge : Edge
  holdOff : Nat
  xExit : Nat
  window : Nat
  lMin : Nat
  defaultLength : Nat
  defaultAreaA : Nat
  defaultAreaB : Nat
  defaultSlot : Option (Fin 16)
  s0 : Nat
  stopTime : Nat
  parkTime : Nat
  resumeDistance : Nat
  restartDelay : Nat
  jP : Nat
  warnBand : Nat
  tripBand : Nat
  replyWindow : Nat
  group : Option (Fin 15)
  deriving DecidableEq, Repr

/-- R14: the map access state. -/
inductive MapAccess where
  | closed
  | opened
  | locked
  deriving DecidableEq, Repr

/-- The Line Map. -/
structure LineMap where
  zones : Vector ZoneEntry 16
  channels : Vector ChannelEntry 32
  profiles : Vector Profile 8
  line : LineSettings
  access : MapAccess
  deriving DecidableEq, Repr

/-! ### Program Store (sec. 2.3) -/

/-- R25: the state of a program slot. -/
inductive SlotState where
  | empty
  | opened
  | frozen
  | withdrawn
  deriving DecidableEq, Repr

/-- R24: a program slot. -/
structure Slot where
  state : SlotState
  refs : Nat
  qT : Nat
  jMin : Nat
  jMax : Nat
  deriving DecidableEq, Repr

/-! ### Position Tracker (ch. 3) -/

/-- R36: the direction of travel. -/
inductive Direction where
  | forward
  | reverse
  deriving DecidableEq, Repr

/-- Sec. 3.3: the motion state. -/
inductive Motion where
  | moving
  | stopped
  | parked
  deriving DecidableEq, Repr

/-- R44, R46, R49: what is kept of one sensor: the level of its input, its hold-off mark (the count and the
distance, or none) and its ignored-edge count. -/
structure SensorState where
  high : Bool
  mark : Option (Count × Nat)
  ignored : Nat
  deriving DecidableEq, Repr

/-- The Position Tracker. `encA` and `encB` are the levels of the encoder pair at the last sample (R35);
a timer holds the length it was started with while it runs (R38). -/
structure Position where
  count : Count
  direction : Direction
  motion : Motion
  stopMark : Option Count
  stopTimer : Option Nat
  parkTimer : Option Nat
  speed : Nat
  encA : Bool
  encB : Bool
  entry : SensorState
  exit : SensorState
  deriving DecidableEq, Repr

/-! ### Carrier Table (ch. 4) -/

/-- R58: the state of a record. -/
inductive RecordState where
  | tracking
  | exited
  | lost
  deriving DecidableEq, Repr

/-- R65: a decided outcome. -/
inductive PlatingOutcome where
  | met
  | short
  | unprogrammed
  deriving DecidableEq, Repr

/-- R54: how a record was made. -/
inductive Origin where
  | announced
  | unannounced
  | placed
  deriving DecidableEq, Repr

/-- R54: the marks that accumulate on a record. -/
structure Marks where
  clipped : Bool
  estimated : Bool
  gap : Bool
  amended : Bool
  deriving DecidableEq, Repr

/-- R54: a live carrier record. -/
structure Record where
  index : Fin 64
  generation : BitVec 8
  tag : Nat
  state : RecordState
  entryMark : Count
  length : Nat
  areaA : Nat
  areaB : Nat
  slot : Option (Fin 16)
  fwdA : Nat
  revA : Nat
  fwdB : Nat
  revB : Nat
  pendingCount : Nat
  reachedA : Option Int
  reachedB : Option Int
  platingClosed : Bool
  outcome : Option PlatingOutcome
  origin : Origin
  marks : Marks
  deriving DecidableEq, Repr

/-- R59: a queued announcement. -/
structure Announcement where
  tag : Nat
  length : Nat
  areaA : Nat
  areaB : Nat
  slot : Option (Fin 16)
  deriving DecidableEq, Repr

/-- R73: the walk cursor: none (`nowhere`), at a record, or ahead at one, named by index and generation. -/
inductive Cursor where
  | nowhere
  | atRecord (index : Fin 64) (generation : BitVec 8)
  | aheadOf (index : Fin 64) (generation : BitVec 8)
  deriving DecidableEq, Repr

/-- R62: the displaced-record copy. -/
structure DisplacedCopy where
  tag : Nat
  index : Fin 64
  generation : BitVec 8
  origin : Origin
  marks : Marks
  outcome : Option PlatingOutcome
  fwdA : Nat
  revA : Nat
  fwdB : Nat
  revB : Nat
  deriving DecidableEq, Repr

/-- The Carrier Table. `live` holds the live records in line order, the leading record first (R57); an index that
no record of `live` has is free. `generations` is kept with each index whether it is free or not (R54). -/
structure CarrierTable where
  live : List Record
  generations : Vector (BitVec 8) 64
  queue : List Announcement
  cursor : Cursor
  displaced : Option DisplacedCopy
  deriving DecidableEq, Repr

/-! ### Zone Sequencers (ch. 5) -/

/-- R76: the state of a zone. -/
inductive ZoneState where
  | disabled
  | running
  | protect
  | parked
  | faulted
  | halted
  deriving DecidableEq, Repr

/-- R78: the phase of a snapshot. -/
inductive Phase where
  | unstarted
  | started
  | ended
  deriving DecidableEq, Repr

/-- R78: the mode of a snapshot; `protect` is the protect mark. -/
inductive Mode where
  | run
  | protect
  deriving DecidableEq, Repr

/-- R78: the ordered values of one side, currents in 0.1 A and times in 0.1 ms. -/
structure OrderValues where
  iF : Nat
  iR : Nat
  tF : Nat
  tO1 : Nat
  tR : Nat
  tO2 : Nat
  phi : Nat
  deriving DecidableEq, Repr

/-- R78: one entry of a side: whose charge is shared, and by what overlapped area. -/
structure Entry where
  index : Fin 64
  generation : BitVec 8
  face : Face
  area : Nat
  deriving DecidableEq, Repr

/-- R78: one side of a snapshot; a COMMON zone's one side stands as side A. `demands` has the demand of each entry that
the side was last computed with, in entry position order (R33); the PROTECT computation makes none (R99). -/
structure Side where
  face : Face
  channel : Fin 32
  order : OrderValues
  qfOrd : Nat
  qrOrd : Nat
  aZ : Nat
  jZ : Nat
  late : Bool
  closed : Bool
  entries : List Entry
  demands : List Nat
  deriving DecidableEq, Repr

/-- R78: a snapshot, its sides in the order A, B. `profile` is the profile as it was read for the snapshot's last
computation: the times, ρ and φ it was computed with (R23). -/
structure Snapshot where
  seq : BitVec 8
  phase : Phase
  mode : Mode
  profile : Profile
  sides : List Side
  deriving DecidableEq, Repr

/-- R101: the last order values of one side. -/
structure LastOrder where
  seq : BitVec 8
  mode : Mode
  order : OrderValues
  aZ : Nat
  jZ : Nat
  deriving DecidableEq, Repr

/-- R76: the Zone Sequencer of one zone. `periodTimer` holds the T it was started with, `restartTimer` the
restart delay it was started with; `pending` stands oldest first. -/
structure Sequencer where
  state : ZoneState
  periodTimer : Option Nat
  restartTimer : Option Nat
  lastSeq : BitVec 8
  pending : List Snapshot
  orphanFwd : Nat
  orphanRev : Nat
  late : Nat
  lastA : Option LastOrder
  lastB : Option LastOrder
  deriving DecidableEq, Repr

/-! ### Drive Bus Controller (ch. 7) -/

/-- R122, R127: the fields of an ORDER frame. -/
structure OrderFrame where
  channel : Fin 32
  seq : BitVec 8
  values : OrderValues
  mode : Mode
  deriving DecidableEq, Repr

/-- R127: an item of the drive queue. `flush` is the STOP's flush of R128; the poster of a MARK is its zone. -/
inductive DriveItem where
  | order (frame : OrderFrame) (flush : Bool) (poster : Fin 16)
  | stop (channel : Fin 32) (poster : Option (Fin 16))
  | mark (zone : Fin 16) (seq : BitVec 8) (channelA channelB : Option (Fin 32))
  | abort
  deriving DecidableEq, Repr

/-- R122, R132: where the transaction on the bus stands: its frame is being sent, its reply window runs with no
character begun, or a reply frame has begun. -/
inductive BusPhase where
  | sending
  | waiting
  | receiving
  deriving DecidableEq, Repr

/-- R122, R132: the transaction on the bus; `window` is the reply window as it stood when the transaction began. -/
structure Transaction where
  item : DriveItem
  window : Nat
  phase : BusPhase
  deriving DecidableEq, Repr

/-- R122: the status a REPLY carries. -/
inductive ReplyStatus where
  | ok
  | limit
  | fault
  deriving DecidableEq, Repr

/-- R133: the end of an ORDER or STOP transaction. -/
inductive TransactionEnd where
  | good
  | missing
  | garbled
  | wrongChannel
  deriving DecidableEq, Repr

/-- R134 to R137: what is kept of one channel. -/
structure ChannelState where
  misses : Nat
  stale : Nat
  lastStatus : Option ReplyStatus
  lastEnd : Option TransactionEnd
  deriving DecidableEq, Repr

/-- The Drive Bus Controller. `queue` holds the items of all places of R127, oldest first, so that an item's age
is its place in the list; `bus` is the transaction on the bus. -/
structure DriveBus where
  queue : List DriveItem
  bus : Option Transaction
  channels : Vector ChannelState 32
  deriving DecidableEq, Repr

/-! ### Regulation Monitor (ch. 8) -/

/-- R139: the cause of a case. -/
inductive Cause where
  | deviation
  | noOrder
  | statusLimit
  | statusFault
  | noReply
  deriving DecidableEq, Repr

/-- R140: the phase of a deviation. -/
inductive DevPhase where
  | forward
  | reverse
  deriving DecidableEq, Repr

/-- R139: a case: what a latest record holds. -/
structure Case where
  cause : Cause
  zone : Option (Fin 16)
  channel : Fin 32
  mode : Option Mode
  deviation : Option Nat
  phase : Option DevPhase
  deriving DecidableEq, Repr

/-- The Regulation Monitor: the two first-fault latches (zone or none, and channel; `none` when empty) and the
two latest records. -/
structure Monitor where
  firstMajor : Option (Option (Fin 16) × Fin 32)
  firstMinor : Option (Option (Fin 16) × Fin 32)
  latestMajor : Option Case
  latestMinor : Option Case
  deriving DecidableEq, Repr

/-! ### Line Supervisor (ch. 9) -/

/-- R151, R152: the HALTED flag, and the level of HALT_N (`haltNActive` is true while it is low). -/
structure Supervisor where
  halted : Bool
  haltNActive : Bool
  deriving DecidableEq, Repr

/-! ### Plant Link Interface (ch. 10) -/

/-- R173: the results a reply can carry. -/
inductive Result where
  | accepted
  | acceptedClamped
  | unknownRequest
  | badLength
  | badValue
  | noSuchTag
  | tagInUse
  | tableFull
  | queueFull
  | mapClosed
  | mapLocked
  | mapInvalid
  | slotEmpty
  | slotFrozen
  | slotNotAssignable
  | slotInUse
  | overlap
  | wrongState
  deriving DecidableEq, Repr

/-- R173: a reply frame, its start byte, length and CRC apart, which follow from these. -/
structure Reply where
  address : Byte
  code : Byte
  result : Result
  status1 : Byte
  status2 : Byte
  payload : List Byte
  deriving DecidableEq, Repr

/-- R165: the receiver state. FRAME holds the characters taken so far, the start byte first; its gap timer runs
as long as it lasts. REPLY holds the reply, whether LINK_DE is high and it is being sent, and whether this REPLY
has counted its overrun (R172). -/
inductive Receiver where
  | hunt
  | frame (got : List Byte)
  | reply (reply : Reply) (sending : Bool) (overrunCounted : Bool)
  deriving DecidableEq, Repr

/-- R167, R168: what is kept of a break on the line: `clear`, nothing; `begun`, a character whose stop bit read at
the break level has abandoned a frame, so that the break this may begin counts no further; `counted`, a break has
had its count, and none counts again until the line has returned to idle. -/
inductive LineBreak where
  | clear
  | begun
  | counted
  deriving DecidableEq, Repr

/-- The Plant Link Interface. `baud` is the speed strap (R161); the group number stands in the line settings
(R8). -/
structure PlantLink where
  receiver : Receiver
  station : Nat
  baud : BitVec 2
  crcErrors : Nat
  framingErrors : Nat
  overruns : Nat
  groupMisuse : Nat
  lineBreak : LineBreak
  deriving DecidableEq, Repr

/-! ### Attention Unit (ch. 11) -/

/-- R178, R185: the event flags, in the order of their summary cause codes 1 to 18. -/
inductive Event where
  | major
  | halt
  | missedExit
  | trackLost
  | phantomExit
  | shortfall
  | unannounced
  | entryReject
  | minor
  | limited
  | late
  | displaced
  | clipped
  | target
  | exit
  | entry
  | motion
  | link
  deriving DecidableEq, Repr

/-- R181: the ATTN mode. -/
inductive AttnMode where
  | level
  | pulse
  deriving DecidableEq, Repr

/-- The Attention Unit. The flag with summary cause code n is bit n - 1 of `flags` and of `enables`;
`pulseOn` is the pulse state, ON while the 10 ms pulse timer runs; `reminderTimer` holds the interval the
reminder timer was started with while it runs. -/
structure Attention where
  flags : BitVec 18
  enables : BitVec 18
  mode : AttnMode
  interval : Nat
  pulseOn : Bool
  reminderTimer : Option Nat
  deriving DecidableEq, Repr

/-! ### The whole part -/

/-- The TK1640. `inReset` is true while RESET_N is low (R160); `pending` is the queue of commands that wait,
first in, first out. -/
structure State where
  map : LineMap
  programs : Vector Slot 16
  pos : Position
  table : CarrierTable
  zones : Vector Sequencer 16
  drive : DriveBus
  monitor : Monitor
  sup : Supervisor
  link : PlantLink
  attn : Attention
  inReset : Bool
  pending : List Instr
  deriving DecidableEq, Repr

/-- The manual describes no event after which the part stops: no command faults. -/
inductive Fault where
  deriving DecidableEq, Repr

/-- Raised only by an arm of `exec` for a command that has no meaning yet. Safe: nothing is claimed of it. -/
inductive Refusal where
  /-- The command has no meaning yet; the dispatcher raises it. Safe. -/
  | notModelled (mnemonic : String)
  deriving DecidableEq, Repr

/-- R4: a zone entry after power-on reset. -/
def ZoneEntry.powerOn : ZoneEntry :=
  { boundary := 0, kind := .unpowered, profile := 0, channelA := none, channelB := none, jLo := 1, jHi := 2000 }

/-- R6: the line settings record after power-on reset. -/
def LineSettings.powerOn : LineSettings :=
  { scale := 1000, swapped := false, entryEdge := .rising, exitEdge := .rising, holdOff := 50, xExit := 0,
    window := 100, lMin := 500, defaultLength := 600, defaultAreaA := 1000, defaultAreaB := 1000,
    defaultSlot := none, s0 := 0, stopTime := 1000, parkTime := 300, resumeDistance := 5, restartDelay := 2000,
    jP := 20, warnBand := 10, tripBand := 25, replyWindow := 2, group := none }

/-- R4, R5, R6, R14, R19: the Line Map after power-on reset. -/
def LineMap.powerOn : LineMap :=
  { zones := Vector.replicate 16 ZoneEntry.powerOn
    channels := Vector.replicate 32 { iFmax := 0, iRmax := 0 }
    profiles := Vector.replicate 8
      { isSet := false, tF := 0, tO1 := 0, tR := 0, tO2 := 0, rho := 0, phi := 0 }
    line := LineSettings.powerOn
    access := .closed }

/-- R24: a program slot after power-on reset. -/
def Slot.powerOn : Slot := { state := .empty, refs := 0, qT := 0, jMin := 0, jMax := 0 }

/-- R36, R42, R43, R44, R46, R49: the Position Tracker after power-on reset, with these sampled levels. -/
def Position.powerOn (encA encB entryHigh exitHigh : Bool) : Position :=
  { count := 0, direction := .forward, motion := .stopped, stopMark := some 0, stopTimer := none,
    parkTimer := some LineSettings.powerOn.parkTime, speed := 1000, encA := encA, encB := encB,
    entry := { high := entryHigh, mark := none, ignored := 0 },
    exit := { high := exitHigh, mark := none, ignored := 0 } }

/-- R55: the Carrier Table after power-on reset. -/
def CarrierTable.powerOn : CarrierTable :=
  { live := [], generations := Vector.replicate 64 0, queue := [], cursor := .nowhere, displaced := none }

/-- R77: a sequencer after power-on reset. -/
def Sequencer.powerOn : Sequencer :=
  { state := .disabled, periodTimer := none, restartTimer := none, lastSeq := 0, pending := [], orphanFwd := 0,
    orphanRev := 0, late := 0, lastA := none, lastB := none }

/-- R138: a channel's counters after power-on reset and after a line reset. -/
def ChannelState.powerOn : ChannelState := { misses := 0, stale := 0, lastStatus := none, lastEnd := none }

/-- R127, R138: the Drive Bus Controller after power-on reset. -/
def DriveBus.powerOn : DriveBus :=
  { queue := [], bus := none, channels := Vector.replicate 32 ChannelState.powerOn }

/-- R139: the Regulation Monitor after power-on reset and after a line reset. -/
def Monitor.empty : Monitor :=
  { firstMajor := none, firstMinor := none, latestMajor := none, latestMinor := none }

/-- R161, R165, R175: the Plant Link Interface after power-on reset, with this station address and speed strap. -/
def PlantLink.powerOn (station : Nat) (baud : BitVec 2) : PlantLink :=
  { receiver := .hunt, station := station, baud := baud, crcErrors := 0, framingErrors := 0, overruns := 0,
    groupMisuse := 0, lineBreak := .clear }

/-- R178, R181, R183: the Attention Unit after power-on reset. -/
def Attention.powerOn : Attention :=
  { flags := 0, enables := 0, mode := .level, interval := 0, pulseOn := false, reminderTimer := none }

/-- The part right after power-on reset (the table of sec. 9.5), with the straps left open, HALT_N inactive, and
the encoder and sensor inputs low: DESIGN CHOICE, the manual gives no levels for the pins (assumption 2). Open
straps read all ones by their pull-ups, so the station address is 239 and the speed strap 3 (R161). -/
def State.reset : State :=
  { map := LineMap.powerOn
    programs := Vector.replicate 16 Slot.powerOn
    pos := Position.powerOn false false false false
    table := CarrierTable.powerOn
    zones := Vector.replicate 16 Sequencer.powerOn
    drive := DriveBus.powerOn
    monitor := Monitor.empty
    sup := { halted := false, haltNActive := false }
    link := PlantLink.powerOn 239 3
    attn := Attention.powerOn
    inReset := false
    pending := [] }

end Sys2Proof.Machine
end

