-- ==== Sys2Proof/Machine/Ops.lean ====
section
/-! DEFINITION. Shared operations: the arithmetic conventions of ch. 0, the updates of the state's blocks, and
the take and release calls of the Program Store (R31). -/

namespace Sys2Proof.Machine

/-! ### Arithmetic (ch. 0, Conventions) -/

/-- Addition that stops at the top of its range (ch. 0, Saturation). -/
def satAdd (top a b : Nat) : Nat := min top (a + b)

/-- The smallest integer not below the quotient (ch. 0). -/
def ceilDiv (a b : Nat) : Nat := (a + b - 1) / b

/-- A value brought into a range. -/
def clamp (lo hi x : Nat) : Nat := min hi (max lo x)

/-- The value stored at one place of a bank. -/
def bankSet {α : Type} {n : Nat} (v : Vector α n) (i : Fin n) (x : α) : Vector α n := v.set i x i.isLt

/-- The first member that answers the test, changed. -/
def modifyFirst {α : Type} (test : α → Bool) (f : α → α) : List α → List α
  | [] => []
  | x :: xs => if test x then f x :: xs else x :: modifyFirst test f xs

/-- The list without its first member that answers the test. -/
def removeFirst {α : Type} (test : α → Bool) : List α → List α
  | [] => []
  | x :: xs => if test x then xs else x :: removeFirst test xs

/-- The zones, lowest number first. R158 gives this order for the posts of a line reset. Where one event tells every
zone of a motion change (R41, R86) the manual gives none, and the order is the model's choice (assumption 18). -/
def zoneNumbers : List (Fin 16) := List.finRange 16

/-! ### Updates of one block of the state -/

def State.withMap (s : State) (x : LineMap) : State := { s with map := x }
def State.withPrograms (s : State) (x : Vector Slot 16) : State := { s with programs := x }
def State.withPos (s : State) (x : Position) : State := { s with pos := x }
def State.withTable (s : State) (x : CarrierTable) : State := { s with table := x }
def State.withZones (s : State) (x : Vector Sequencer 16) : State := { s with zones := x }
def State.withDrive (s : State) (x : DriveBus) : State := { s with drive := x }
def State.withMonitor (s : State) (x : Monitor) : State := { s with monitor := x }
def State.withSup (s : State) (x : Supervisor) : State := { s with sup := x }
def State.withLink (s : State) (x : PlantLink) : State := { s with link := x }
def State.withAttn (s : State) (x : Attention) : State := { s with attn := x }

/-- One sequencer changed. -/
def State.modifyZone (s : State) (z : Fin 16) (f : Sequencer → Sequencer) : State :=
  s.withZones (bankSet s.zones z (f s.zones[z]))

/-- One program slot changed. -/
def State.modifySlot (s : State) (k : Fin 16) (f : Slot → Slot) : State :=
  s.withPrograms (bankSet s.programs k (f s.programs[k]))

/-- One channel's counters changed. -/
def State.modifyChannel (s : State) (c : Fin 32) (f : ChannelState → ChannelState) : State :=
  s.withDrive { s.drive with channels := bankSet s.drive.channels c (f s.drive.channels[c]) }

/-- The live records changed. -/
def State.withLive (s : State) (live : List Record) : State := s.withTable { s.table with live := live }

/-- R160: while RESET_N is low the part takes no event, so an event then changes nothing. -/
def State.takes (s : State) (event : State → State) : Host.Outcome State Fault Refusal :=
  .next (if s.inReset then s else event s)

/-! ### The Program Store's calls (R31) -/

/-- R31, take: the slot's state decides by R25 whether a new reference is taken. -/
def takeSlot (k : Fin 16) (s : State) : Except Result State :=
  match s.programs[k].state with
  | .opened => .ok (s.modifySlot k fun p => { p with refs := p.refs + 1 })
  | .frozen => .ok (s.modifySlot k fun p => { p with refs := p.refs + 1 })
  | .empty => .error .slotEmpty
  | .withdrawn => .error .slotNotAssignable

/-- R31, release. -/
def releaseSlot (k : Fin 16) (s : State) : State :=
  s.modifySlot k fun p => { p with refs := p.refs - 1 }

/-- R32: a record or announcement with no program releases nothing. -/
def releaseProgram (slot : Option (Fin 16)) (s : State) : State :=
  match slot with
  | none => s
  | some k => releaseSlot k s

/-- R32: a record or announcement with no program takes nothing. -/
def takeProgram (slot : Option (Fin 16)) (s : State) : Except Result State :=
  match slot with
  | none => .ok s
  | some k => takeSlot k s

/-- R31: a change of program from one slot to another takes the new slot first and then releases the old one;
naming the slot already held makes neither call. -/
def moveProgram (old new : Option (Fin 16)) (s : State) : Except Result State :=
  if old = new then .ok s
  else match takeProgram new s with
    | .error e => .error e
    | .ok s' => .ok (releaseProgram old s')

/-! ### Answers of a request's owner (R173) -/

/-- What the owner of a request gives back: a result and a reply payload. -/
structure Answer where
  result : Result
  payload : List Byte
  deriving DecidableEq, Repr

/-- A taken request (R173). -/
def accept (s : State) (payload : List Byte) : State × Answer := (s, ⟨.accepted, payload⟩)

/-- A refused request leaves the part as it was and carries no payload (ch. 0, Requests and replies; R173). -/
def refuse (s : State) (result : Result) : State × Answer := (s, ⟨result, []⟩)

end Sys2Proof.Machine
end

