-- ==== Sys2Proof/Machine/Flags.lean ====
section
/-! DEFINITION. The Attention Unit (ch. 11): the event flags, the ATTN pulse, the reminder and the summary cause
code. -/

namespace Sys2Proof.Machine

/-- Sec. 13.1, R185: the place of a flag in a mask: its summary cause code less 1. -/
def Event.bit : Event → Nat
  | .major => 0
  | .halt => 1
  | .missedExit => 2
  | .trackLost => 3
  | .phantomExit => 4
  | .shortfall => 5
  | .unannounced => 6
  | .entryReject => 7
  | .minor => 8
  | .limited => 9
  | .late => 10
  | .displaced => 11
  | .clipped => 12
  | .target => 13
  | .exit => 14
  | .entry => 15
  | .motion => 16
  | .link => 17

/-- The mask that names one flag. -/
def Event.mask (e : Event) : BitVec 18 := 1#18 <<< e.bit

/-- R178: whether a flag is set. -/
def Attention.isSet (a : Attention) (e : Event) : Bool := a.flags.getLsbD e.bit

/-- R178: whether a flag is enabled. -/
def Attention.isEnabled (a : Attention) (e : Event) : Bool := a.enables.getLsbD e.bit

/-- R174, R181: attention pending: any enabled flag is set. -/
def Attention.attentionPending (a : Attention) : Bool := a.flags &&& a.enables != 0

/-- R183: the three things that hold together while the reminder timer runs. -/
def Attention.reminderHolds (a : Attention) : Bool :=
  a.mode == .pulse && a.interval != 0 && a.attentionPending

/-- R183: the reminder timer starts when the three begin to hold, and stops when any of them ceases to. -/
def Attention.syncReminder (a : Attention) : Attention :=
  if a.reminderHolds then
    match a.reminderTimer with
    | some _ => a
    | none => { a with reminderTimer := some a.interval }
  else { a with reminderTimer := none }

/-- R182: a request that finds the pulse state OFF starts a pulse, at whose start the reminder timer is started
again (R183); one that finds it ON merges. -/
def Attention.requestPulse (a : Attention) : Attention :=
  if a.pulseOn then a
  else { a with
    pulseOn := true
    reminderTimer := if a.reminderHolds then some a.interval else none }

/-- R178: raising sets the flag, and a clear-to-set change of an enabled flag in PULSE mode requests a pulse. -/
def Attention.raiseFlag (a : Attention) (e : Event) : Attention :=
  if a.isSet e then a
  else
    let b := Attention.syncReminder { a with flags := a.flags ||| e.mask }
    if a.isEnabled e && a.mode == .pulse then b.requestPulse else b

/-- R179, R183: the flags of a mask cleared. -/
def Attention.clearFlags (a : Attention) (mask : BitVec 18) : Attention :=
  Attention.syncReminder { a with flags := a.flags &&& ~~~mask }

/-- R185: the summary cause code. -/
def Attention.summaryCode (a : Attention) : Nat :=
  match (List.range 18).find? fun i => (a.flags &&& a.enables).getLsbD i with
  | some i => i + 1
  | none => 0

/-- R178: a block raises an event. -/
def raise (e : Event) (s : State) : State := s.withAttn (s.attn.raiseFlag e)

/-- R181, R160: ATTN_N is asserted (pulled low). -/
def State.attnAsserted (s : State) : Bool :=
  !s.inReset && (s.attn.pulseOn || (s.attn.mode == .level && s.attn.attentionPending))

end Sys2Proof.Machine
end

