-- ==== Sys2Proof/Machine/AttentionEvents.lean ====
section
/-! DEFINITION. The timers of the Attention Unit (R182, R183). -/

namespace Sys2Proof.Machine

/-- R182: PULSE_TIMER_EXPIRY. -/
def execPulseTimerExpiry (s : State) : Host.Outcome State Fault Refusal :=
  s.takes fun s => s.withAttn { s.attn with pulseOn := false }

/-- R183: the reminder timer has expired and requests a pulse. It runs on from there while the three conditions
hold, whether the request started a pulse or merged into one (assumption 15). -/
def Attention.reminderExpires (a : Attention) : Attention :=
  match a.reminderTimer with
  | none => a
  | some _ => Attention.syncReminder (Attention.requestPulse { a with reminderTimer := none })

/-- R183: REMINDER_TIMER_EXPIRY. -/
def execReminderTimerExpiry (s : State) : Host.Outcome State Fault Refusal :=
  s.takes fun s => s.withAttn s.attn.reminderExpires

end Sys2Proof.Machine
end

