-- ==== Sys2Proof/Machine/Geometry.lean ====
section
/-! DEFINITION. What the other blocks derive from the Line Map (ch. 1, R20) and positions from counts (R37, R57). -/

namespace Sys2Proof.Machine

/-! ### Zones -/

/-- R1: the zone start of zone i: the boundary before it, or S0 for zone 0. -/
def LineMap.zoneStart (m : LineMap) (z : Fin 16) : Nat :=
  if z.val = 0 then m.line.s0
  else (m.zones[z.val - 1]'(by omega)).boundary

/-- R1: the zone end. -/
def LineMap.zoneEnd (m : LineMap) (z : Fin 16) : Nat := m.zones[z].boundary

/-- R1: the length of a zone; 0 makes it absent. -/
def LineMap.zoneLength (m : LineMap) (z : Fin 16) : Nat := m.zoneEnd z - m.zoneStart z

/-- R2: PAIRED and COMMON are the powered types. -/
def ZoneKind.powered : ZoneKind → Bool
  | .paired => true
  | .common => true
  | .unpowered => false

/-- R2: the channel fields that the zone's type uses, side A before side B. -/
def ZoneEntry.fieldsUsed (e : ZoneEntry) : List (Face × Option (Fin 32)) :=
  match e.kind with
  | .paired => [(.A, e.channelA), (.B, e.channelB)]
  | .common => [(.A, e.channelA)]
  | .unpowered => []

/-- R2: the sides of a zone that have a channel assigned. -/
def ZoneEntry.sides (e : ZoneEntry) : List (Face × Fin 32) :=
  e.fieldsUsed.filterMap fun fc => fc.2.map fun c => (fc.1, c)

/-- The channels a zone uses, side A before side B. -/
def ZoneEntry.channels (e : ZoneEntry) : List (Fin 32) := e.sides.map Prod.snd

/-- R12: a zone is enableable. -/
def LineMap.enableable (m : LineMap) (z : Fin 16) : Bool :=
  let e := m.zones[z]
  decide (0 < m.zoneLength z) && e.kind.powered && m.profiles[e.profile].isSet
    && e.fieldsUsed.all (fun fc => fc.2.isSome)
    && e.channels.all (fun c => decide (0 < m.channels[c].iFmax))

/-- R9: the plating end. -/
def LineMap.ePlate (m : LineMap) : Nat :=
  match zoneNumbers.reverse.find? fun z => m.zones[z].kind.powered && decide (0 < m.zoneLength z) with
  | some z => m.zoneEnd z
  | none => m.line.s0

/-- R10, condition 2: every use of a channel by a zone side, over all sixteen zones. -/
def LineMap.channelUses (m : LineMap) : List (Fin 32) := zoneNumbers.flatMap fun z => m.zones[z].channels

/-- R18: the first zone and side that use a channel. -/
def LineMap.userOf (m : LineMap) (c : Fin 32) : Option (Fin 16 × Face) :=
  zoneNumbers.findSome? fun z => (m.zones[z].sides.find? fun fc => fc.2 == c).map fun fc => (z, fc.1)

/-! ### Profiles -/

/-- R20: the period T. -/
def Profile.period (p : Profile) : Nat := p.tF + p.tO1 + p.tR + p.tO2

/-- R20: the net figure N. -/
def Profile.net (p : Profile) : Int := 100 * (p.tF : Int) - (p.rho : Int) * (p.tR : Int)

/-! ### Positions -/

/-- R37: the signed difference of two pulse counts, modulo 2^32. -/
def pulsesBetween (c1 c2 : Count) : Int := (c1 - c2).toInt

/-- R37: the position difference in mm of two pulse counts; the quotient by the positive scale is truncated
toward minus infinity. -/
def positionDifference (scale : Nat) (c1 c2 : Count) : Int := pulsesBetween c1 c2 * 1000 / (scale : Int)

/-- R57: the lead of a record. -/
def State.lead (s : State) (r : Record) : Int := positionDifference s.map.line.scale s.pos.count r.entryMark

/-- R57: the trail of a record. -/
def State.trail (s : State) (r : Record) : Int := s.lead r - r.length

/-- R57: the centre of a record. -/
def State.centre (s : State) (r : Record) : Int := s.lead r - (r.length / 2 : Nat)

/-- R57: the separation from the entry mark of one record to the entry mark of another: the lead of the first
when the second's lead is 0. -/
def separation (scale : Nat) (first second : Count) : Int := positionDifference scale second first

end Sys2Proof.Machine
end

