-- ==== Sys2Proof/Machine/Operands.lean ====
section
/-! DEFINITION. The operand forms: the wire fields of a request checked against their ranges (R1, R5, R6, R19,
R24, R54, R187) and brought into the state's types. `none` is a field out of its range, which the owner refuses
with BAD_VALUE. -/

namespace Sys2Proof.Machine

/-- A field within its range. -/
def inRange {w : Nat} (lo hi : Nat) (x : BitVec w) : Option Nat :=
  if lo ≤ x.toNat ∧ x.toNat ≤ hi then some x.toNat else none

/-- A number below a bound, of one byte. -/
def indexOf (n : Nat) (b : Byte) : Option (Fin n) := if h : b.toNat < n then some ⟨b.toNat, h⟩ else none

/-- R187: a one-byte number below a bound, or 0xFF for none. -/
def indexOrNone (n : Nat) (b : Byte) : Option (Option (Fin n)) :=
  if b = 0xFF then some none else (indexOf n b).map some

/-- Sec. 13.2: zone type. -/
def kindOf (b : Byte) : Option ZoneKind :=
  match b.toNat with
  | 0 => some .paired
  | 1 => some .common
  | 2 => some .unpowered
  | _ => none

/-- Sec. 13.2: edge. -/
def edgeOf (b : Byte) : Option Edge :=
  match b.toNat with
  | 0 => some .rising
  | 1 => some .falling
  | _ => none

/-- Sec. 13.2: a byte whose codes are 0 and 1: an encoder sense or a clear option. -/
def flagOf (b : Byte) : Option Bool :=
  match b.toNat with
  | 0 => some false
  | 1 => some true
  | _ => none

/-- Sec. 13.2: ATTN mode. -/
def attnModeOf (b : Byte) : Option AttnMode :=
  match b.toNat with
  | 0 => some .level
  | 1 => some .pulse
  | _ => none

/-- R187: a mask of the eighteen flags; one with any of bits 18 to 23 set is out of range. -/
def flagMaskOf (m : Mask) : Option (BitVec 18) :=
  if m.toNat < 262144 then some (m.setWidth 18) else none

/-- R1, R17: the zone number and entry a SET ZONE carries. -/
def zoneEntryOf (f : ZoneFields) : Option (Fin 16 × ZoneEntry) := do
  let z ← indexOf 16 f.zone
  let boundary ← inRange 0 65000 f.boundary
  let kind ← kindOf f.kind
  let profile ← indexOf 8 f.profile
  let channelA ← indexOrNone 32 f.channelA
  let channelB ← indexOrNone 32 f.channelB
  let jLo ← inRange 1 2000 f.jLo
  let jHi ← inRange 1 2000 f.jHi
  some (z, { boundary := boundary, kind := kind, profile := profile, channelA := channelA, channelB := channelB,
             jLo := jLo, jHi := jHi })

/-- R6: the record a SET LINE carries. -/
def lineSettingsOf (f : LineFields) : Option LineSettings := do
  let scale ← inRange 100 100000 f.scale
  let swapped ← flagOf f.sense
  let entryEdge ← edgeOf f.entryEdge
  let exitEdge ← edgeOf f.exitEdge
  let holdOff ← inRange 5 200 f.holdOff
  let xExit ← inRange 0 65000 f.xExit
  let window ← inRange 10 500 f.window
  let lMin ← inRange 100 2000 f.lMin
  let defaultLength ← inRange 100 2000 f.defaultLength
  let defaultAreaA ← inRange 0 9999 f.defaultAreaA
  let defaultAreaB ← inRange 0 9999 f.defaultAreaB
  let defaultSlot ← indexOrNone 16 f.defaultSlot
  let s0 ← inRange 0 65000 f.s0
  let stopTime ← inRange 200 10000 f.stopTime
  let parkTime ← inRange 10 3600 f.parkTime
  let resumeDistance ← inRange 1 50 f.resumeDistance
  let restartDelay ← inRange 0 10000 f.restartDelay
  let jP ← inRange 0 100 f.jP
  let warnBand ← inRange 1 50 f.warnBand
  let tripBand ← inRange 2 90 f.tripBand
  let replyWindow ← inRange 1 10 f.replyWindow
  let group ← indexOrNone 15 f.group
  some { scale := scale, swapped := swapped, entryEdge := entryEdge, exitEdge := exitEdge, holdOff := holdOff,
         xExit := xExit, window := window, lMin := lMin, defaultLength := defaultLength,
         defaultAreaA := defaultAreaA, defaultAreaB := defaultAreaB, defaultSlot := defaultSlot, s0 := s0,
         stopTime := stopTime, parkTime := parkTime, resumeDistance := resumeDistance,
         restartDelay := restartDelay, jP := jP, warnBand := warnBand, tripBand := tripBand,
         replyWindow := replyWindow, group := group }

/-- R19, R21: the profile number and fields a SET PROFILE carries, φ below T and the validity condition
included. -/
def profileOf (f : ProfileFields) : Option (Fin 8 × Profile) := do
  let i ← indexOf 8 f.profile
  let tF ← inRange 10 2000 f.tF
  let tO1 ← inRange 0 100 f.tO1
  let tR ← inRange 0 200 f.tR
  let tO2 ← inRange 0 100 f.tO2
  let rho ← inRange 100 500 f.rho
  let p : Profile :=
    { isSet := true, tF := tF, tO1 := tO1, tR := tR, tO2 := tO2, rho := rho, phi := f.phi.toNat }
  if p.phi < p.period ∧ 5 * (p.period : Int) ≤ p.net then some (i, p) else none

/-- R24, R26: the values a DEFINE PROGRAM carries. -/
def programValuesOf (slot : Byte) (qT jMin jMax : Half) : Option (Fin 16 × Nat × Nat × Nat) := do
  let k ← indexOf 16 slot
  let q ← inRange 1 20000 qT
  let lo ← inRange 1 2000 jMin
  let hi ← inRange 1 2000 jMax
  if lo ≤ hi then some (k, q, lo, hi) else none

/-- R54, R59, R69, R71: a carrier's length, with the L_min in force. -/
def carrierLengthOf (lMin : Nat) (x : Half) : Option Nat := inRange lMin 2000 x

/-- R54: a carrier's two areas, not both 0. -/
def areasOf (a b : Half) : Option (Nat × Nat) := do
  let x ← inRange 0 9999 a
  let y ← inRange 0 9999 b
  if x = 0 ∧ y = 0 then none else some (x, y)

/-- R56: a nonzero tag. -/
def tagOf (x : Half) : Option Nat := inRange 1 65535 x

/-- R59: the announcement an ANNOUNCE carries. -/
def announcementOf (lMin : Nat) (f : AnnounceFields) : Option Announcement := do
  let tag ← tagOf f.tag
  let length ← carrierLengthOf lMin f.length
  let areas ← areasOf f.areaA f.areaB
  let slot ← indexOrNone 16 f.slot
  some { tag := tag, length := length, areaA := areas.1, areaB := areas.2, slot := slot }

/-- R69: what an AMEND asks for: the parts that are present. -/
structure Amendment where
  tag : Nat
  length : Option Nat
  areas : Option (Nat × Nat)
  program : Option (Option (Fin 16))
  deriving DecidableEq, Repr

/-- An optional part: absent, or present and read; `none` is a part out of its range. -/
def optionalPart {α β : Type} (read : α → Option β) : Option α → Option (Option β)
  | none => some none
  | some x => (read x).map some

/-- R69, check 1: the amendment an AMEND carries. Areas that are absent stay the record's, which are not both 0. -/
def amendmentOf (lMin : Nat) (f : AmendFields) : Option Amendment := do
  let tag ← tagOf f.tag
  let length ← optionalPart (carrierLengthOf lMin) f.length
  let areas ← optionalPart (fun ab => areasOf ab.1 ab.2) f.areas
  let program ← optionalPart (indexOrNone 16) f.program
  if length = none ∧ areas = none ∧ program = none then none
  else some { tag := tag, length := length, areas := areas, program := program }

/-- R71: what a PLACE asks for. -/
structure Placement where
  tag : Nat
  lead : Nat
  length : Nat
  areaA : Nat
  areaB : Nat
  slot : Option (Fin 16)
  fwdA : Nat
  revA : Nat
  fwdB : Nat
  revB : Nat
  deriving DecidableEq, Repr

/-- R71, check 1: the placement a PLACE carries. -/
def placementOf (lMin : Nat) (f : PlaceFields) : Option Placement := do
  let length ← carrierLengthOf lMin f.length
  let areas ← areasOf f.areaA f.areaB
  let slot ← indexOrNone 16 f.slot
  some { tag := f.tag.toNat, lead := f.lead.toNat, length := length, areaA := areas.1, areaB := areas.2,
         slot := slot, fwdA := f.fwdA.toNat, revA := f.revA.toNat, fwdB := f.fwdB.toNat, revB := f.revB.toNat }

end Sys2Proof.Machine
end

