-- ==== Sys2Proof/Machine/Carriers.lean ====
section
/-! DEFINITION. The Carrier Table's own operations (ch. 4): finding records, the calls of the Zone Sequencers, the
outcome, the position watches, and entry and exit arrivals. -/

namespace Sys2Proof.Machine

/-! ### Finding records -/

/-- R55: a record answers to an index and a generation. -/
def Record.named (r : Record) (index : Fin 64) (generation : BitVec 8) : Bool :=
  r.index == index && r.generation == generation

/-- R55: the live record an index and generation name. -/
def findRecord (live : List Record) (index : Fin 64) (generation : BitVec 8) : Option Record :=
  live.find? fun r => r.named index generation

/-- R56: the live record holding a tag. -/
def findTag (live : List Record) (tag : Nat) : Option Record := live.find? fun r => r.tag == tag

/-- R56: a nonzero tag is held by a live record or by a queued announcement. -/
def State.tagHeld (s : State) (tag : Nat) : Bool :=
  s.table.live.any (fun r => r.tag == tag) || s.table.queue.any fun a => a.tag == tag

/-- R57: the record directly behind the one named. -/
def successorOf (index : Fin 64) (generation : BitVec 8) : List Record → Option Record
  | [] => none
  | r :: rest => if r.named index generation then rest.head? else successorOf index generation rest

/-- R55: the lowest-numbered free index. -/
def freeIndex (live : List Record) : Option (Fin 64) :=
  (List.finRange 64).find? fun i => live.all fun r => r.index != i

/-- The record named, changed. -/
def modifyRecord (index : Fin 64) (generation : BitVec 8) (f : Record → Record) (s : State) : State :=
  s.withLive (modifyFirst (fun r => r.named index generation) f s.table.live)

/-! ### The faces of a record -/

def Record.area (r : Record) : Face → Nat
  | .A => r.areaA
  | .B => r.areaB

def Record.fwd (r : Record) : Face → Nat
  | .A => r.fwdA
  | .B => r.fwdB

def Record.rev (r : Record) : Face → Nat
  | .A => r.revA
  | .B => r.revB

def Record.reached (r : Record) : Face → Option Int
  | .A => r.reachedA
  | .B => r.reachedB

/-- R67: the net charge of a face, as a signed number. -/
def Record.netCharge (r : Record) (f : Face) : Int := (r.fwd f : Int) - (r.rev f : Int)

/-- R67, R94: the target charge of a face on a program, in mC. -/
def targetCharge (slot : Slot) (area : Nat) : Nat := slot.qT * area * 10

/-- R67: a credit's amounts added to a face's accounts, each saturating. -/
def Record.addCharge (r : Record) (f : Face) (fwd rev : Nat) : Record :=
  match f with
  | .A => { r with fwdA := satAdd Config.accountTop r.fwdA fwd, revA := satAdd Config.accountTop r.revA rev }
  | .B => { r with fwdB := satAdd Config.accountTop r.fwdB fwd, revB := satAdd Config.accountTop r.revB rev }

/-- R67: a face's reached mark set. -/
def Record.markReached (r : Record) (f : Face) (lead : Int) : Record :=
  match f with
  | .A => { r with reachedA := some lead }
  | .B => { r with reachedB := some lead }

/-- R67, R71: the target test: the record has a program, the face has an area and no reached mark, and the face's
net charge is at least its target, with Q_t read now. -/
def State.meetsTarget (s : State) (r : Record) (f : Face) : Bool :=
  match r.slot with
  | none => false
  | some k => decide (0 < r.area f) && (r.reached f).isNone
      && decide ((targetCharge s.programs[k] (r.area f) : Int) ≤ r.netCharge f)

/-- R67, R71: the target test of one face of a record, and what it sets. -/
def testTarget (index : Fin 64) (generation : BitVec 8) (f : Face) (s : State) : State :=
  match findRecord s.table.live index generation with
  | none => s
  | some r =>
    if s.meetsTarget r f then
      raise .target (modifyRecord index generation (fun r => r.markReached f (s.lead r)) s)
    else s

/-! ### The outcome (R65) -/

/-- R65: the first of the three that holds. -/
def Record.judge (r : Record) : PlatingOutcome :=
  if r.slot.isNone then .unprogrammed
  else if (r.areaA == 0 || r.reachedA.isSome) && (r.areaB == 0 || r.reachedB.isSome) then .met
  else .short

/-- R65: the outcome is decided when the plating-closed mark is set, the pending count is 0 and no outcome has
been decided; a SHORT outcome raises SHORTFALL. -/
def settleOutcome (index : Fin 64) (generation : BitVec 8) (s : State) : State :=
  match findRecord s.table.live index generation with
  | none => s
  | some r =>
    if r.platingClosed && r.pendingCount == 0 && r.outcome.isNone then
      let s' := modifyRecord index generation (fun r => { r with outcome := some r.judge }) s
      if r.judge = .short then raise .shortfall s' else s'
    else s

/-! ### The calls of the Zone Sequencers (R66, R67) -/

/-- R67: the closure kind a credit call carries. -/
inductive ClosureKind where
  | measured
  | forced
  | lost
  deriving DecidableEq, Repr

/-- R67: the mark a closure kind adds. -/
def Record.markClosure (r : Record) : ClosureKind → Record
  | .measured => r
  | .forced => { r with marks := { r.marks with estimated := true } }
  | .lost => { r with marks := { r.marks with gap := true } }

/-- R66, the hold call. -/
def holdRecord (index : Fin 64) (generation : BitVec 8) (s : State) : State :=
  modifyRecord index generation (fun r => { r with pendingCount := r.pendingCount + 1 }) s

/-- R66, the release entry call. -/
def releaseEntry (index : Fin 64) (generation : BitVec 8) (s : State) : State :=
  settleOutcome index generation
    (modifyRecord index generation (fun r => { r with pendingCount := r.pendingCount - 1 }) s)

/-- R67: the credit call answers CREDITED rather than GONE. -/
def State.credits (s : State) (index : Fin 64) (generation : BitVec 8) : Bool :=
  (findRecord s.table.live index generation).isSome

/-- R67, the credit call on a live record; one that names none changes nothing. -/
def creditRecord (index : Fin 64) (generation : BitVec 8) (f : Face) (fwd rev : Nat) (kind : ClosureKind)
    (s : State) : State :=
  testTarget index generation f
    (modifyRecord index generation (fun r => (r.addCharge f fwd rev).markClosure kind) s)

/-! ### The position watches (R50 to R52) -/

/-- R50, R65: the plating-end watch tests one record, and the Carrier Table acts on its report. -/
def platingEndWatch (index : Fin 64) (generation : BitVec 8) (s : State) : State :=
  match findRecord s.table.live index generation with
  | none => s
  | some r =>
    if !r.platingClosed && decide ((s.map.ePlate : Int) ≤ s.trail r) then
      settleOutcome index generation (modifyRecord index generation (fun r => { r with platingClosed := true }) s)
    else s

/-- R51, R64: the exit-window watch tests one record, and the Carrier Table acts on its report. -/
def exitWindowWatch (index : Fin 64) (generation : BitVec 8) (s : State) : State :=
  match findRecord s.table.live index generation with
  | none => s
  | some r =>
    if r.state = .tracking ∧ ((s.map.line.xExit + s.map.line.window : Nat) : Int) < s.lead r then
      raise .missedExit (modifyRecord index generation (fun r => { r with state := .lost }) s)
    else s

/-- R52: the plating-end watch over every live record. -/
def platingEndWatchAll (s : State) : State :=
  s.table.live.foldl (fun t r => platingEndWatch r.index r.generation t) s

/-- R52: the exit-window watch over every live record. -/
def exitWindowWatchAll (s : State) : State :=
  s.table.live.foldl (fun t r => exitWindowWatch r.index r.generation t) s

/-! ### Making and removing records -/

/-- R73: the walk cursor when a record is retired or displaced. -/
def Cursor.without (c : Cursor) (index : Fin 64) (generation : BitVec 8) (live : List Record) : Cursor :=
  let moved : Cursor := match successorOf index generation live with
    | some r => .aheadOf r.index r.generation
    | none => .nowhere
  match c with
  | .nowhere => .nowhere
  | .atRecord i g => if i == index && g == generation then moved else c
  | .aheadOf i g => if i == index && g == generation then moved else c

/-- R72, R61 step 2: a record is removed: its reference is released, its index is freed, and the walk cursor moves
off it. -/
def removeRecord (r : Record) (s : State) : State :=
  releaseProgram r.slot (s.withTable { s.table with
    live := removeFirst (fun q => q.named r.index r.generation) s.table.live
    cursor := s.table.cursor.without r.index r.generation s.table.live })

/-- R55: the index a new record takes, and the generation it carries. -/
def State.nextIndex (s : State) : Option (Fin 64 × BitVec 8) :=
  (freeIndex s.table.live).map fun i => (i, s.table.generations[i] + 1)

/-- R57: a record stands behind every record whose separation to it is positive. -/
def insertInLine (scale : Nat) (new : Record) (live : List Record) : List Record :=
  let ahead := live.takeWhile fun r => decide (0 < separation scale r.entryMark new.entryMark)
  ahead ++ new :: live.drop ahead.length

/-- R55: a record is made at its index, whose generation becomes the record's. -/
def putRecord (live : List Record) (r : Record) (s : State) : State :=
  s.withTable { s.table with live := live, generations := bankSet s.table.generations r.index r.generation }

/-- R61: a new record's fields that do not depend on how it was made. -/
def Record.fresh (index : Fin 64) (generation : BitVec 8) (mark : Count) (origin : Origin) : Record :=
  { index := index, generation := generation, tag := 0, state := .tracking, entryMark := mark, length := 0,
    areaA := 0, areaB := 0, slot := none, fwdA := 0, revA := 0, fwdB := 0, revB := 0, pendingCount := 0,
    reachedA := none, reachedB := none, platingClosed := false, outcome := none, origin := origin,
    marks := { clipped := false, estimated := false, gap := false, amended := false } }

/-! ### Entry arrivals (R61) -/

/-- R62: the copy kept of a displaced record. -/
def Record.copy (r : Record) : DisplacedCopy :=
  { tag := r.tag, index := r.index, generation := r.generation, origin := r.origin, marks := r.marks,
    outcome := r.outcome, fwdA := r.fwdA, revA := r.revA, fwdB := r.fwdB, revB := r.revB }

/-- R61 step 1: the arrival is too close behind the rearmost record. -/
def State.tooClose (s : State) : Bool :=
  match s.table.live.getLast? with
  | none => false
  | some r => decide (s.lead r < s.map.line.lMin)

/-- R61 step 2: the leading-most EXITED record is displaced. -/
def displaceRecord (r : Record) (s : State) : State :=
  let s' := removeRecord r s
  raise .displaced (s'.withTable { s'.table with displaced := some r.copy })

/-- R61 step 2: the carrier goes untracked, and the oldest announcement, if any, is consumed. -/
def loseCarrier (s : State) : State :=
  match s.table.queue with
  | [] => raise .trackLost s
  | a :: rest => releaseProgram a.slot (raise .trackLost (s.withTable { s.table with queue := rest }))

/-- R61 step 3: the oldest announcement is bound into a new record; its reference moves with it (R32). -/
def bindAnnouncement (a : Announcement) (rest : List Announcement) (index : Fin 64) (generation : BitVec 8)
    (s : State) : State :=
  let short := decide (a.length < s.map.line.lMin)
  let base := Record.fresh index generation s.pos.count .announced
  let r : Record := { base with
    tag := a.tag
    length := if short then s.map.line.lMin else a.length
    areaA := a.areaA
    areaB := a.areaB
    slot := a.slot
    marks := { base.marks with amended := short } }
  let s' := s.withTable { s.table with queue := rest }
  raise .entry (putRecord (s'.table.live ++ [r]) r s')

/-- R61 step 4: an unannounced record, with the default program if its take succeeds. -/
def makeUnannounced (index : Fin 64) (generation : BitVec 8) (s : State) : State :=
  let line := s.map.line
  let (slot, s') : Option (Fin 16) × State := match takeProgram line.defaultSlot s with
    | .ok t => (line.defaultSlot, t)
    | .error _ => (none, s)
  let r : Record := { Record.fresh index generation s.pos.count .unannounced with
    length := line.defaultLength
    areaA := line.defaultAreaA
    areaB := line.defaultAreaB
    slot := slot }
  raise .unannounced (putRecord (s'.table.live ++ [r]) r s')

/-- R61 step 5 and R52: the record that was rearmost before the arrival is cut to its lead when its trail is behind
0, and then tested by the plating-end watch. -/
def clipRearmost (rear : Option Record) (s : State) : State :=
  match rear with
  | none => s
  | some r =>
    if s.trail r < 0 then
      platingEndWatch r.index r.generation
        (raise .clipped (modifyRecord r.index r.generation
          (fun q => { q with length := (s.lead q).toNat, marks := { q.marks with clipped := true } }) s))
    else s

/-- R61 steps 3 to 5, and the watches' test of the new record (R52). -/
def admitCarrier (s : State) : State :=
  match s.nextIndex with
  | none => s
  | some (i, g) =>
    let rear := s.table.live.getLast?
    let made := match s.table.queue with
      | a :: rest => bindAnnouncement a rest i g s
      | [] => makeUnannounced i g s
    exitWindowWatch i g (platingEndWatch i g (clipRearmost rear made))

/-- R61: an entry arrival, with the pulse count now in force as c_e (R47). -/
def entryArrival (s : State) : State :=
  if s.tooClose then raise .entryReject s
  else if s.table.live.length < Config.tableSize then admitCarrier s
  else match s.table.live.find? fun r => r.state == .exited with
    | some r => admitCarrier (displaceRecord r s)
    | none => loseCarrier s

/-! ### Exit arrivals (R63) -/

/-- R63: a lead lies in the exit window, bounds included. -/
def State.inExitWindow (s : State) (lead : Int) : Bool :=
  decide ((s.map.line.xExit : Int) - s.map.line.window ≤ lead)
    && decide (lead ≤ (s.map.line.xExit : Int) + s.map.line.window)

/-- R63: an exit arrival is matched against the leading-most TRACKING record. -/
def exitArrival (s : State) : State :=
  match s.table.live.find? fun r => r.state == .tracking with
  | none => raise .phantomExit s
  | some r =>
    if s.inExitWindow (s.lead r) then
      raise .exit (modifyRecord r.index r.generation (fun q => { q with state := .exited }) s)
    else raise .phantomExit s

end Sys2Proof.Machine
end

