-- ==== Sys2Proof/Machine/DriveQueue.lean ====
section
/-! DEFINITION. The drive queue and the arbiter (sec. 7.3 and 7.4). -/

namespace Sys2Proof.Machine

/-- R127: the fixed places of the drive queue. -/
inductive QueuePlace where
  | order (channel : Fin 32)
  | mark (zone : Fin 16)
  | abort
  deriving DecidableEq, Repr

/-- R127: the place an item waits in. -/
def DriveItem.place : DriveItem → QueuePlace
  | .order f _ _ => .order f.channel
  | .stop c _ => .order c
  | .mark z _ _ _ => .mark z
  | .abort => .abort

/-- R128: whether an item's transaction gives a STOP's lost closures at its end. -/
def DriveItem.closes : DriveItem → Bool
  | .order _ flush _ => flush
  | .stop _ _ => true
  | .mark _ _ _ _ => false
  | .abort => false

/-- R128: what stands in an order place when this item replaces the one there: an ORDER takes over the flush of a
STOP, or of an ORDER that carries one. -/
def DriveItem.takingOver (item old : DriveItem) : DriveItem :=
  match item with
  | .order f flush poster => .order f (flush || old.closes) poster
  | other => other

/-- The item is a MARK. -/
def DriveItem.isMark : DriveItem → Bool
  | .mark _ _ _ _ => true
  | _ => false

/-- R131: the arbiter's choice: the ABORT, else the oldest MARK, else the oldest ORDER or STOP. -/
def chooseItem (queue : List DriveItem) : Option DriveItem :=
  match queue.find? fun i => i == .abort with
  | some i => some i
  | none => match queue.find? DriveItem.isMark with
    | some i => some i
    | none => queue.head?

/-- R131: when the bus is free, the chosen item leaves its place and its transaction begins. The transaction keeps
the reply window as it then stands (R132). -/
def beginTransaction (s : State) : State :=
  match s.drive.bus, chooseItem s.drive.queue with
  | none, some item => s.withDrive { s.drive with
      queue := removeFirst (fun i => i.place = item.place) s.drive.queue
      bus := some { item := item, window := s.map.line.replyWindow, phase := .sending } }
  | _, _ => s

/-- R131: the transaction on the bus has ended, and the arbiter chooses the next one. -/
def endTransaction (s : State) : State := beginTransaction (s.withDrive { s.drive with bus := none })

/-- R128, R129, R131: an item is posted. In an occupied place it replaces the item there, which keeps its age; a
replaced MARK raises LATE. In an empty place it enters as the youngest item, and on a free bus with an empty queue
its transaction begins. -/
def postItem (item : DriveItem) (s : State) : State :=
  if s.drive.queue.any fun i => i.place = item.place then
    let s' := s.withDrive { s.drive with
      queue := modifyFirst (fun i => i.place = item.place) item.takingOver s.drive.queue }
    if item.isMark then raise .late s' else s'
  else
    let s' := s.withDrive { s.drive with queue := s.drive.queue ++ [item] }
    if s.drive.bus.isNone && s.drive.queue.isEmpty then beginTransaction s' else s'

/-- R130: the ORDER of a channel with this sequence number. -/
def isOrder (channel : Fin 32) (seq : BitVec 8) : DriveItem → Bool
  | .order f _ _ => f.channel == channel && f.seq == seq
  | _ => false

/-- R130: the MARK of a zone with this sequence number. -/
def isMarkOf (zone : Fin 16) (seq : BitVec 8) : DriveItem → Bool
  | .mark z q _ _ => z == zone && q == seq
  | _ => false

/-- R130: whether a waiting item answers the test; an item whose transaction has begun has left its place. -/
def waits (test : DriveItem → Bool) (s : State) : Bool := s.drive.queue.any test

/-- R130: a withdrawal. It answers WITHDRAWN exactly when `waits` holds before it. -/
def withdraw (test : DriveItem → Bool) (s : State) : State :=
  s.withDrive { s.drive with queue := removeFirst test s.drive.queue }

/-- R83, R158: a STOP is posted for each of these channels, in their order, side A before side B. R158 gives it for a
line reset; for a zone that leaves service it is the model's choice (assumption 18). -/
def postStops (channels : List (Fin 32)) (poster : Option (Fin 16)) (s : State) : State :=
  channels.foldl (fun t c => postItem (.stop c poster) t) s

/-- R137: the channel an ORDER or STOP is addressed to. -/
def DriveItem.addressee : DriveItem → Option (Fin 32)
  | .order f _ _ => some f.channel
  | .stop c _ => some c
  | .mark _ _ _ _ => none
  | .abort => none

/-- R134, R143, R144: the poster of a transaction: a zone or none. -/
def DriveItem.poster : DriveItem → Option (Fin 16)
  | .order _ _ z => some z
  | .stop _ z => z
  | .mark z _ _ _ => some z
  | .abort => none

end Sys2Proof.Machine
end

