-- ==== Sys2Proof/Machine/Accounting.lean ====
section
/-! DEFINITION. Closing a snapshot side (ch. 6): sharing the charge among the entries, the orphan accounts, and the
removal of a snapshot with no open side. -/

namespace Sys2Proof.Machine

/-- R108: the truncated share of an entry. -/
def shareOf (q aZ a : Nat) : Nat := q * a / aZ

/-- R108: the position of the remainder entry: the largest area, the lowest position among equals. -/
def remainderPosition (entries : List Entry) : Nat :=
  let top := (entries.map Entry.area).foldl max 0
  entries.findIdx fun e => e.area == top

/-- R108: the remainder of one direction. -/
def remainderOf (q aZ : Nat) (entries : List Entry) : Nat :=
  q - (entries.map fun e => shareOf q aZ e.area).sum

/-- R108: the shares of one direction in entry position order, the remainder added to the remainder entry's. -/
def shares (q aZ : Nat) (entries : List Entry) : List Nat :=
  (entries.zipIdx).map fun ei =>
    if ei.2 = remainderPosition entries then shareOf q aZ ei.1.area + remainderOf q aZ entries
    else shareOf q aZ ei.1.area

/-- R117: charge that no live record could be credited with. -/
def addOrphan (z : Fin 16) (fwd rev : Nat) (s : State) : State :=
  s.modifyZone z fun q => { q with
    orphanFwd := satAdd Config.accountTop q.orphanFwd fwd
    orphanRev := satAdd Config.accountTop q.orphanRev rev }

/-- R109: one entry's credit, its shares going to the orphan accounts when the call answers GONE, and then its
release. -/
def creditEntry (z : Fin 16) (e : Entry) (fwd rev : Nat) (kind : ClosureKind) (s : State) : State :=
  releaseEntry e.index e.generation
    (if s.credits e.index e.generation then creditRecord e.index e.generation e.face fwd rev kind s
     else addOrphan z fwd rev s)

/-- R109: the entries with their two shares, one after another. -/
def creditEntries (z : Fin 16) (kind : ClosureKind) : List (Entry × Nat × Nat) → State → State
  | [], s => s
  | (e, fwd, rev) :: rest, s => creditEntries z kind rest (creditEntry z e fwd rev kind s)

/-- R108 to R110: a side's two amounts shared out. -/
def shareOut (z : Fin 16) (side : Side) (qf qr : Nat) (kind : ClosureKind) (s : State) : State :=
  if side.aZ = 0 then addOrphan z qf qr s
  else creditEntries z kind
    (side.entries.zip ((shares qf side.aZ side.entries).zip (shares qr side.aZ side.entries))) s

/-- R105: the side of a snapshot that recorded this channel. -/
def Snapshot.sideOn (n : Snapshot) (c : Fin 32) : Option Side := n.sides.find? fun d => d.channel == c

/-- The side of a snapshot that recorded this channel and is still open. -/
def Snapshot.openSideOn (n : Snapshot) (c : Fin 32) : Option Side :=
  n.sides.find? fun d => d.channel == c && !d.closed

/-- R103: a side marked closed. -/
def Snapshot.closeSide (n : Snapshot) (c : Fin 32) : Snapshot :=
  { n with sides := modifyFirst (fun d => d.channel == c && !d.closed) (fun d => { d with closed := true }) n.sides }

/-- R104: the first snapshot with this number that has an open side on the channel has it closed, and leaves the
pending list when no open side is left. -/
def closeInList (seq : BitVec 8) (c : Fin 32) : List Snapshot → List Snapshot
  | [] => []
  | n :: rest =>
    if n.seq == seq && (n.openSideOn c).isSome then
      let m := n.closeSide c
      if m.sides.all Side.closed then rest else m :: rest
    else n :: closeInList seq c rest

/-- R103, steps 1 to 4: the closure of one open side of a pending snapshot, taken whole. -/
def closeSide (z : Fin 16) (seq : BitVec 8) (side : Side) (qf qr : Nat) (kind : ClosureKind) (s : State) : State :=
  (shareOut z side qf qr kind s).modifyZone z fun q => { q with pending := closeInList seq side.channel q.pending }

/-- R112: the open sides of a snapshot force-closed on their ordered charges. -/
def forceClose (z : Fin 16) (n : Snapshot) (s : State) : State :=
  (n.sides.filter fun d => !d.closed).foldl (fun t d => closeSide z n.seq d d.qfOrd d.qrOrd .forced t) s

/-- R114: a zone whose open sides are given lost closures at the end of a STOP. -/
def ZoneState.outOfService : ZoneState → Bool
  | .running => false
  | .protect => false
  | _ => true

/-- R114, R115: the open sides recorded with this channel in one zone, closed on zero, oldest first. -/
def loseSidesOf (c : Fin 32) (s : State) (z : Fin 16) : State :=
  if s.zones[z].state.outOfService then
    s.zones[z].pending.foldl (fun t n => match n.openSideOn c with
      | some d => closeSide z n.seq d 0 0 .lost t
      | none => t) s
  else s

/-- R114, R115: the lost closures of a channel. -/
def loseSides (c : Fin 32) (s : State) : State := zoneNumbers.foldl (loseSidesOf c) s

end Sys2Proof.Machine
end

