-- ==== Sys2Proof/Machine/Setpoint.lean ====
section
/-! DEFINITION. The setpoint computation (sec. 5.10): overlap, remaining charge, remaining dwell, demand, zone
density and currents of one side of one snapshot. -/

namespace Sys2Proof.Machine

/-- R93: the length in mm of the intersection of a record's span with a zone's span. -/
def State.overlap (s : State) (z : Fin 16) (r : Record) : Nat :=
  (min (s.lead r) (s.map.zoneEnd z) - max (s.trail r) (s.map.zoneStart z)).toNat

/-- R93: the overlapped area of one face. -/
def State.overlappedArea (s : State) (z : Fin 16) (r : Record) (f : Face) : Nat :=
  r.area f * s.overlap z r / r.length

/-- R93: the entry of one face of a record, kept when its area is greater than 0. -/
def State.entryOf (s : State) (z : Fin 16) (f : Face) (r : Record) : Option Entry :=
  let a := s.overlappedArea z r f
  if 0 < a then some { index := r.index, generation := r.generation, face := f, area := a } else none

/-- R79: the faces whose entries one side holds: both faces on the one side of a COMMON zone. -/
def facesOn (kind : ZoneKind) (side : Face) : List Face :=
  match kind with
  | .common => [.A, .B]
  | _ => [side]

/-- R79, R93: the entries of one side, in entry position order. -/
def State.entriesOf (s : State) (z : Fin 16) (side : Face) : List Entry :=
  s.table.live.flatMap fun r =>
    (facesOn s.map.zones[z].kind side).filterMap fun f => s.entryOf z f r

/-- R93: A_z. -/
def totalArea (entries : List Entry) : Nat := (entries.map Entry.area).sum

/-- R94: the remaining charge of a face on a program. -/
def remainingCharge (slot : Slot) (r : Record) (f : Face) : Nat :=
  let target := targetCharge slot (r.area f)
  min target ((target : Int) - r.netCharge f).toNat

/-- R95: a zone that counts in the dwell sums. -/
def State.zoneIsLive (s : State) (z : Fin 16) : Bool :=
  decide (0 < s.map.zoneLength z) && s.map.zones[z].kind.powered &&
    match s.zones[z].state with
    | .running => true
    | .protect => true
    | .parked => true
    | _ => false

/-- R95: L_ahead, the live zone length at or beyond a position. -/
def State.liveAhead (s : State) (centre : Int) : Nat :=
  (zoneNumbers.map fun z =>
    if s.zoneIsLive z then ((s.map.zoneEnd z : Int) - max (s.map.zoneStart z : Int) centre).toNat else 0).sum

/-- R95: T_rem in ms, no less than one period. -/
def remainingDwell (ahead speed period : Nat) : Nat := max (ahead * 60000 / speed) (ceilDiv period 10)

/-- R96: the demand of an entry whose record is live. -/
def State.demandOf (s : State) (jLo : Nat) (p : Profile) (r : Record) (f : Face) : Nat :=
  match r.slot with
  | none => jLo
  | some k =>
    let slot := s.programs[k]
    let charge := remainingCharge slot r f
    let ahead := s.liveAhead (s.centre r)
    let d :=
      if charge = 0 then slot.jMin
      else if ahead = 0 then slot.jMax
      else ceilDiv (1000000 * charge * p.period)
        (r.area f * remainingDwell ahead s.pos.speed p.period * p.net.toNat)
    clamp slot.jMin slot.jMax d

/-- R79, R96: the demand of an entry; one whose record is no longer live is given J_lo. -/
def State.demand (s : State) (jLo : Nat) (p : Profile) (e : Entry) : Nat :=
  match findRecord s.table.live e.index e.generation with
  | none => jLo
  | some r => s.demandOf jLo p r e.face

/-- R97: J_z, the rounded mean of the entries' demands, weighted by area and clamped to the zone's limits; 0 when A_z
is 0. -/
def densityOf (zone : ZoneEntry) (entries : List Entry) (demands : List Nat) : Nat :=
  let aZ := totalArea entries
  if aZ = 0 then 0
  else clamp zone.jLo zone.jHi (((demands.zipWith (fun d e => d * e.area) entries).sum + aZ / 2) / aZ)

/-- What one computation gives for one side: the ordered values and charges, the demands, J_z, and whether a clamp
acted. -/
structure Setpoint where
  order : OrderValues
  qfOrd : Nat
  qrOrd : Nat
  demands : List Nat
  jZ : Nat
  limited : Bool
  deriving DecidableEq, Repr

/-- R99, R100: the φ a side's order carries. -/
def phiOf (kind : ZoneKind) (side : Face) (p : Profile) : Nat :=
  match kind, side with
  | .paired, .B => p.phi
  | _, _ => 0

/-- R98: the forward current of a density over an area, before its clamp. -/
def rawForward (jZ aZ : Nat) : Nat := (jZ * aZ + 500) / 1000

/-- R97, R98, R100: the RUNNING computation of one side. -/
def State.runSetpoint (s : State) (z : Fin 16) (side : Face) (c : Fin 32) (entries : List Entry) : Setpoint :=
  let zone := s.map.zones[z]
  let p := s.map.profiles[zone.profile]
  let rating := s.map.channels[c]
  let demands := entries.map fun e => s.demand zone.jLo p e
  let jZ := densityOf zone entries demands
  let rawF := rawForward jZ (totalArea entries)
  let iF := min rawF rating.iFmax
  let rawR := if p.tR = 0 then 0 else (iF * p.rho + 50) / 100
  let iR := min rawR rating.iRmax
  { order := { iF := iF, iR := iR, tF := p.tF, tO1 := p.tO1, tR := p.tR, tO2 := p.tO2,
               phi := phiOf zone.kind side p }
    qfOrd := iF * p.tF / 100
    qrOrd := iR * p.tR / 100
    demands := demands
    jZ := jZ
    limited := decide (rating.iFmax < rawF) || decide (rating.iRmax < rawR) }

/-- R99: the PROTECT computation of one side. -/
def State.protectSetpoint (s : State) (z : Fin 16) (side : Face) (c : Fin 32) (entries : List Entry) : Setpoint :=
  let zone := s.map.zones[z]
  let p := s.map.profiles[zone.profile]
  let aZ := totalArea entries
  let rawF := rawForward s.map.line.jP aZ
  let iF := min rawF s.map.channels[c].iFmax
  { order := { iF := iF, iR := 0, tF := p.period, tO1 := 0, tR := 0, tO2 := 0, phi := phiOf zone.kind side p }
    qfOrd := iF * p.period / 100
    qrOrd := 0
    demands := []
    jZ := if aZ = 0 then 0 else s.map.line.jP
    limited := decide (s.map.channels[c].iFmax < rawF) }

/-- R79: the computation of the mode. -/
def State.setpoint (s : State) (mode : Mode) (z : Fin 16) (side : Face) (c : Fin 32) (entries : List Entry) :
    Setpoint :=
  match mode with
  | .run => s.runSetpoint z side c entries
  | .protect => s.protectSetpoint z side c entries

/-- R79: the mode in which a zone computes: PROTECT when the zone is PROTECT, RUN when it is RUNNING. -/
def ZoneState.mode : ZoneState → Mode
  | .protect => .protect
  | _ => .run

end Sys2Proof.Machine
end

