-- ==== Sys2Proof/Machine/Sequencer.lean ====
section
/-! DEFINITION. The Zone Sequencers (sec. 5.2 to 5.9): building, recomputing and discarding snapshots, the period
boundary, entering and leaving service, and what a zone does when told of motion, a halt, a resume or a fault. -/

namespace Sys2Proof.Machine

/-! ### Snapshots -/

/-- R78, R79: one side of a new snapshot. -/
def State.newSide (s : State) (z : Fin 16) (mode : Mode) (face : Face) (c : Fin 32) : Side :=
  let entries := s.entriesOf z face
  let p := s.setpoint mode z face c entries
  { face := face, channel := c, order := p.order, qfOrd := p.qfOrd, qrOrd := p.qrOrd, aZ := totalArea entries,
    jZ := p.jZ, late := false, closed := false, entries := entries, demands := p.demands }

/-- R79: a side recomputed: its entries and A_z are kept, its ordered values, demands and J_z computed anew. -/
def State.recomputedSide (s : State) (z : Fin 16) (mode : Mode) (d : Side) : Side :=
  let p := s.setpoint mode z d.face d.channel d.entries
  { d with order := p.order, qfOrd := p.qfOrd, qrOrd := p.qrOrd, jZ := p.jZ, demands := p.demands }

/-- R101: the last order values of the side of this face, none where the snapshot has no such side. -/
def Snapshot.lastOrder (n : Snapshot) (f : Face) : Option LastOrder :=
  (n.sides.find? fun d => d.face == f).map fun d =>
    { seq := n.seq, mode := n.mode, order := d.order, aZ := d.aZ, jZ := d.jZ }

/-- R101: the last order values set from a snapshot just built or recomputed. -/
def Sequencer.noteOrders (q : Sequencer) (n : Snapshot) : Sequencer :=
  { q with lastA := n.lastOrder .A, lastB := n.lastOrder .B }

/-- R66, R79: a hold call for each entry of a snapshot. -/
def holdEntries (n : Snapshot) (s : State) : State :=
  (n.sides.flatMap Side.entries).foldl (fun t e => holdRecord e.index e.generation t) s

/-- R66, R80, R118: a release entry call for each entry of a snapshot that has not been released yet, which is each
entry of a side still open (assumption 17). That SHORTFALL is raised for an outcome decided here also when a DISABLE
ZONE discards the snapshot, of which R85 says that it raises no event, is the model's reading (assumption 23). -/
def releaseEntries (n : Snapshot) (s : State) : State :=
  ((n.sides.filter fun d => !d.closed).flatMap Side.entries).foldl
    (fun t e => releaseEntry e.index e.generation t) s

/-- R100: the ORDER item of one side. -/
def orderItem (z : Fin 16) (n : Snapshot) (d : Side) : DriveItem :=
  .order { channel := d.channel, seq := n.seq, values := d.order, mode := n.mode } false z

/-- R79, R100: the ORDER of each side posted. That side A's is posted before side B's is the model's choice
(assumption 18). -/
def postOrders (z : Fin 16) (n : Snapshot) (s : State) : State :=
  n.sides.foldl (fun t d => postItem (orderItem z n d) t) s

/-- R98, R99: LIMITED is raised when a clamp acted in the computation of some side. -/
def raiseLimited (z : Fin 16) (mode : Mode) (sides : List Side) (computedAt : State) (s : State) : State :=
  if sides.any fun d => (computedAt.setpoint mode z d.face d.channel d.entries).limited then raise .limited s
  else s

/-- R23: the profile that a zone names, as it stands. -/
def State.profileOf (s : State) (z : Fin 16) : Profile := s.map.profiles[s.map.zones[z].profile]

/-- R79: the snapshot a sequencer builds now. -/
def State.newSnapshot (s : State) (z : Fin 16) : Snapshot :=
  let q := s.zones[z]
  let mode := q.state.mode
  { seq := q.lastSeq + 1
    phase := .unstarted
    mode := mode
    profile := s.profileOf z
    sides := s.map.zones[z].sides.map fun fc => s.newSide z mode fc.1 fc.2 }

/-- R79: a sequencer builds a snapshot. -/
def buildSnapshot (z : Fin 16) (s : State) : State :=
  let n := s.newSnapshot z
  postOrders z n (raiseLimited z n.mode n.sides s (holdEntries n
    (s.modifyZone z fun q =>
      { q with lastSeq := n.seq, pending := q.pending ++ [n] }.noteOrders n)))

/-- R79: the UNSTARTED snapshot as it is recomputed in the zone's present state. -/
def State.recomputedSnapshot (s : State) (z : Fin 16) (n : Snapshot) : Snapshot :=
  let mode := s.zones[z].state.mode
  { n with mode := mode, profile := s.profileOf z, sides := n.sides.map fun d => s.recomputedSide z mode d }

/-- A snapshot is UNSTARTED. -/
def Snapshot.isUnstarted (n : Snapshot) : Bool := n.phase == .unstarted

/-- A snapshot is STARTED. -/
def Snapshot.isStarted (n : Snapshot) : Bool := n.phase == .started

/-- R79: a recomputation of the zone's UNSTARTED snapshot. -/
def recompute (z : Fin 16) (s : State) : State :=
  match s.zones[z].pending.find? Snapshot.isUnstarted with
  | none => s
  | some n =>
    let m := s.recomputedSnapshot z n
    postOrders z m (raiseLimited z m.mode n.sides s
      (s.modifyZone z fun q =>
        { q with pending := modifyFirst Snapshot.isUnstarted (fun _ => m) q.pending }.noteOrders m))

/-- R80: the waiting ORDERs of a snapshot's sides withdrawn. -/
def withdrawOrders (n : Snapshot) (s : State) : State :=
  n.sides.foldl (fun t d => withdraw (isOrder d.channel n.seq) t) s

/-- R80: the first snapshot of the zone that answers the test is discarded. -/
def discardSnapshot (z : Fin 16) (test : Snapshot → Bool) (s : State) : State :=
  match s.zones[z].pending.find? test with
  | none => s
  | some n =>
    withdrawOrders n (withdraw (isMarkOf z n.seq) (releaseEntries n
      (s.modifyZone z fun q => { q with pending := removeFirst test q.pending })))

/-! ### Entering and leaving service -/

/-- R20: the sum of the ordered times. -/
def OrderValues.period (o : OrderValues) : Nat := o.tF + o.tO1 + o.tR + o.tO2

/-- R23, R81, R82: the T of a snapshot, from the times it was computed with. -/
def Snapshot.period (n : Snapshot) : Nat := n.profile.period

/-- R82: a zone enters RUNNING or PROTECT: the first snapshot is built and the lead-in starts. That
LIMITED is raised for a clamp in it also on an ENABLE ZONE, of which R84 says that it raises no event, is the model's
reading (assumption 23). -/
def enterService (z : Fin 16) (state : ZoneState) (s : State) : State :=
  let s' := s.modifyZone z fun q => { q with state := state, restartTimer := none }
  (buildSnapshot z s').modifyZone z fun q => { q with periodTimer := some (s'.newSnapshot z).period }

/-- R83: a zone leaves service. -/
def leaveService (z : Fin 16) (state : ZoneState) (s : State) : State :=
  let s1 := s.modifyZone z fun q => { q with state := state, periodTimer := none, restartTimer := none }
  let s2 := match s1.zones[z].pending.find? Snapshot.isStarted with
    | some n => if waits (isMarkOf z n.seq) s1 then discardSnapshot z Snapshot.isStarted s1 else s1
    | none => s1
  let s3 := discardSnapshot z Snapshot.isUnstarted s2
  match state with
  | .halted => s3
  | _ => postStops s3.map.zones[z].channels (some z) s3

/-! ### The period boundary (R81) -/

/-- R81 step 1: with three snapshots pending, the oldest is force-closed. -/
def boundaryForce (z : Fin 16) (s : State) : State :=
  match s.zones[z].pending with
  | n :: rest => if 2 ≤ rest.length then forceClose z n s else s
  | [] => s

/-- R81 step 2: STARTED becomes ENDED and UNSTARTED becomes STARTED. -/
def advancePhases (pending : List Snapshot) : List Snapshot :=
  pending.map fun n => match n.phase with
    | .ended => n
    | .started => { n with phase := .ended }
    | .unstarted => { n with phase := .started }

/-- R127, R189: the MARK item of a snapshot. -/
def markItem (z : Fin 16) (n : Snapshot) : DriveItem :=
  .mark z n.seq ((n.sides.find? fun d => d.face == .A).map Side.channel)
    ((n.sides.find? fun d => d.face == .B).map Side.channel)

/-- R81 step 3: one side whose ORDER still waits is marked LATE. -/
def lateSide (z : Fin 16) (n : Snapshot) (s : State) (d : Side) : State :=
  if waits (isOrder d.channel n.seq) s then
    raise .late ((withdraw (isOrder d.channel n.seq) s).modifyZone z fun q => { q with
      late := satAdd Config.halfTop q.late 1
      pending := modifyFirst Snapshot.isStarted (fun m => { m with
        sides := modifyFirst (fun e => e.channel == d.channel) (fun e => { e with late := true }) m.sides })
        q.pending })
  else s

/-- R81 steps 2 and 3: the UNSTARTED snapshot is started. -/
def boundaryStart (z : Fin 16) (s : State) : State :=
  let s' := s.modifyZone z fun q => { q with pending := advancePhases q.pending }
  match s.zones[z].pending.find? Snapshot.isUnstarted with
  | none => s'
  | some n => n.sides.foldl (lateSide z n) (postItem (markItem z n) s')

/-- R81: the period boundary of a zone, taken whole. -/
def takeBoundary (z : Fin 16) (s : State) : State :=
  let s1 := boundaryStart z (boundaryForce z s)
  (buildSnapshot z s1).modifyZone z fun q => { q with
    periodTimer := (q.pending.find? Snapshot.isStarted).map Snapshot.period }

/-! ### What the zones are told -/

/-- R86 to R89: a zone is told the motion state. -/
def tellMotion (m : Motion) (s : State) (z : Fin 16) : State :=
  match s.zones[z].state, m with
  | .running, .stopped => recompute z (s.modifyZone z fun q => { q with state := .protect })
  | .protect, .moving => recompute z (s.modifyZone z fun q => { q with state := .running })
  | .protect, .parked => leaveService z .parked s
  | .parked, .moving => s.modifyZone z fun q => { q with restartTimer := some s.map.line.restartDelay }
  | .parked, .stopped => s.modifyZone z fun q => { q with restartTimer := none }
  | _, _ => s

/-- R41: every change of motion state raises MOTION once and is told to all sixteen zones. The order in which they are
told is the model's choice (assumption 18). -/
def changeMotion (m : Motion) (s : State) : State := zoneNumbers.foldl (tellMotion m) (raise .motion s)

/-- R90: a zone is told that the line is halted. -/
def tellHalt (s : State) (z : Fin 16) : State :=
  match s.zones[z].state with
  | .running => leaveService z .halted s
  | .protect => leaveService z .halted s
  | .parked => leaveService z .halted s
  | .halted => s.modifyZone z fun q => { q with restartTimer := none }
  | .disabled => s
  | .faulted => s

/-- R91: a zone is told that the line is resumed. -/
def tellResume (s : State) (z : Fin 16) : State :=
  match s.zones[z].state with
  | .halted => s.modifyZone z fun q => { q with restartTimer := some s.map.line.restartDelay }
  | _ => s

/-- R92: the fault call. -/
def faultZone (z : Fin 16) (s : State) : State :=
  match s.zones[z].state with
  | .disabled => s
  | .faulted => s
  | _ => leaveService z .faulted s

/-- R88, R91, R116: the restart timer of a zone expires. -/
def restartExpires (z : Fin 16) (s : State) : State :=
  match s.zones[z].state, s.pos.motion with
  | .parked, .moving => enterService z .running s
  | .halted, .moving => enterService z .running s
  | .halted, .stopped => enterService z .protect s
  | .halted, .parked => leaveService z .parked s
  | _, _ => s.modifyZone z fun q => { q with restartTimer := none }

end Sys2Proof.Machine
end

