-- ==== Sys2Proof/Machine/Regulation.lean ====
section
/-! DEFINITION. The Regulation Monitor (ch. 8) and the handling of a transaction's end (sec. 6.2, 7.5). -/

namespace Sys2Proof.Machine

/-! ### Comparing a period with its order -/

/-- R140: one directional figure, saturating at 999. -/
def directionalDeviation (q qOrd : Nat) : Nat :=
  if qOrd = 0 then 0 else min 999 ((max q qOrd - min q qOrd) * 100 / qOrd)

/-- R140: the deviation and its phase. -/
def deviationOf (qf qr qfOrd qrOrd : Nat) : Nat × DevPhase :=
  let f := directionalDeviation qf qfOrd
  let r := directionalDeviation qr qrOrd
  if f < r then (r, .reverse) else (f, .forward)

/-- R141: the allowance of a side ordered at zero, in mC. -/
def zeroAllowance (iFmax period : Nat) : Nat := iFmax * period / 10000

/-- R142: the class of a handed-off side. -/
inductive CaseClass where
  | major (c : Case)
  | minor (c : Case)
  | nothing
  deriving DecidableEq, Repr

/-- R141, R142: a measured side is classed by the first case that holds. -/
def State.classify (s : State) (z : Fin 16) (mode : Mode) (d : Side) (qf qr : Nat) : CaseClass :=
  let dev := deviationOf qf qr d.qfOrd d.qrOrd
  let found (cause : Cause) (amount : Nat) (phase : DevPhase) : Case :=
    { cause := cause, zone := some z, channel := d.channel, mode := some mode, deviation := some amount,
      phase := some phase }
  if d.qfOrd = 0 ∧ zeroAllowance s.map.channels[d.channel].iFmax d.order.period < qf then
    .major (found .noOrder 999 .forward)
  else if s.map.line.tripBand < dev.1 then .major (found .deviation dev.1 dev.2)
  else if s.map.line.warnBand < dev.1 then .minor (found .deviation dev.1 dev.2)
  else .nothing

/-! ### Raising a class -/

/-- R145: MAJOR is raised for a case. -/
def raiseMajor (c : Case) (s : State) : State :=
  let s' := raise .major (s.withMonitor { s.monitor with
    firstMajor := if s.attn.isSet .major then s.monitor.firstMajor else some (c.zone, c.channel)
    latestMajor := some c })
  match c.zone with
  | some z => faultZone z s'
  | none => s'

/-- R146: MINOR is raised for a case. -/
def raiseMinor (c : Case) (s : State) : State :=
  raise .minor (s.withMonitor { s.monitor with
    firstMinor := if s.attn.isSet .minor then s.monitor.firstMinor else some (c.zone, c.channel)
    latestMinor := some c })

/-- R142: a class is raised. -/
def raiseClass : CaseClass → State → State
  | .major c, s => raiseMajor c s
  | .minor c, s => raiseMinor c s
  | .nothing, s => s

/-- R120: a closed side is handed to the Monitor, unless it is marked LATE. -/
def handOff (z : Fin 16) (mode : Mode) (d : Side) (qf qr : Nat) (s : State) : State :=
  if d.late then s else raiseClass (s.classify z mode d qf qr) s

/-- R143: the status of a GOOD reply is judged. -/
def judgeStatus (status : ReplyStatus) (c : Fin 32) (poster : Option (Fin 16)) (s : State) : State :=
  let found (cause : Cause) : Case :=
    { cause := cause, zone := poster, channel := c, mode := none, deviation := none, phase := none }
  match status with
  | .ok => s
  | .limit => raiseMinor (found .statusLimit) s
  | .fault => raiseMajor (found .statusFault) s

/-- R144: a channel fault. -/
def channelFault (c : Fin 32) (poster : Option (Fin 16)) (s : State) : State :=
  raiseMajor { cause := .noReply, zone := poster, channel := c, mode := none, deviation := none, phase := none } s

/-! ### Readbacks (R105 to R107) -/

/-- R122: a readback of a REPLY. -/
structure Readback where
  seq : BitVec 8
  qf : Nat
  qr : Nat
  deriving DecidableEq, Repr

/-- R105: the open side of a zone that a readback from this channel matches, and its snapshot. Of two snapshots of one
zone with the same number the older one is taken, which is the model's choice (assumption 19). -/
def matchIn (q : Sequencer) (c : Fin 32) (seq : BitVec 8) : Option (Snapshot × Side) :=
  q.pending.findSome? fun n =>
    if n.seq == seq && n.phase != .unstarted then (n.openSideOn c).map fun d => (n, d) else none

/-- R105, R107: the open sides of all zones that match a readback. -/
def State.matching (s : State) (c : Fin 32) (seq : BitVec 8) : List (Fin 16 × Snapshot × Side) :=
  zoneNumbers.filterMap fun z => (matchIn s.zones[z] c seq).map fun nd => (z, nd.1, nd.2)

/-- R136: one stale readback counted. -/
def countStale (c : Fin 32) (s : State) : State :=
  s.modifyChannel c fun k => { k with stale := satAdd Config.halfTop k.stale 1 }

/-- R105 to R107, R120: a readback is taken whole: it closes the one open side that matches it, which is then
handed to the Monitor, or it is stale. -/
def takeReadback (c : Fin 32) (s : State) (b : Readback) : State :=
  match s.matching c b.seq with
  | [(z, n, d)] => handOff z n.mode d b.qf b.qr (closeSide z n.seq d b.qf b.qr .measured s)
  | _ => countStale c s

/-! ### The end of a transaction (R134, R135) -/

/-- R134: a GOOD end. -/
def goodEnd (item : DriveItem) (c : Fin 32) (status : ReplyStatus) (readbacks : List Readback) (s : State) : State :=
  let s1 := s.modifyChannel c fun k => { k with misses := 0, lastStatus := some status, lastEnd := some .good }
  let s2 := readbacks.foldl (takeReadback c) s1
  let s3 := if item.closes then loseSides c s2 else s2
  endTransaction (judgeStatus status c item.poster s3)

/-- R135: a MISSING, GARBLED or WRONG_CHANNEL end. -/
def badEnd (item : DriveItem) (c : Fin 32) (how : TransactionEnd) (s : State) : State :=
  let misses := s.drive.channels[c].misses
  let s1 := s.modifyChannel c fun k => { k with misses := min 3 (k.misses + 1), lastEnd := some how }
  let s2 := if item.closes then loseSides c s1 else s1
  endTransaction (if misses = 2 then channelFault c item.poster s2 else s2)

end Sys2Proof.Machine
end

