-- ==== Sys2Proof/WellFormed.lean ====
section
/-! DEFINITION. Which commands are spelled well: the operands that stand for a whole frame are a whole frame. -/

namespace Sys2Proof

/-- R163, R166: the list is one whole plant link frame: the start byte 0xC3, and a length character of 1 to 250
that agrees with its size. -/
def wholeLinkFrame (frame : List Byte) : Bool :=
  match frame with
  | start :: _address :: length :: rest =>
    start == 0xC3 && decide (1 ≤ length.toNat) && decide (length.toNat ≤ 250)
      && rest.length == length.toNat + 2
  | _ => false

/-- R132, R189: the list ends where the fifth character, the readback count, fixes the end of a REPLY. -/
def wholeDriveReply (frame : List Byte) : Bool :=
  match frame with
  | _start :: _kind :: _channel :: _status :: count :: rest =>
    decide (count.toNat ≤ 2) && rest.length == 2 + 9 * count.toNat
  | _ => false

/-- A command is well formed when a frame it carries is a whole frame, with a parity bit for each character of a
REPLY. The other rows take every value of their operands' types: a field out of its range is refused by the request's
owner (R187), and is no ill-formed command. -/
def Instr.wellFormed : Instr → Bool
  | .completeFrame frame => wholeLinkFrame frame
  | .replyFrameEnd data parity => wholeDriveReply data && parity.length == data.length
  | _ => true

end Sys2Proof
end

