-- ==== Sys2Proof/Machine/Frames.lean ====
section
/-! DEFINITION. Frames of both links (R163, R164, R173, ch. 13): byte order, CRC, the request codes and payloads,
reply frames, and the drive bus frames. -/

namespace Sys2Proof.Machine

/-! ### Bytes, most significant first (ch. 0, Byte order) -/

def halfBytes (x : Half) : List Byte := [x.extractLsb' 8 8, x.extractLsb' 0 8]

def longBytes (x : Long) : List Byte :=
  [x.extractLsb' 24 8, x.extractLsb' 16 8, x.extractLsb' 8 8, x.extractLsb' 0 8]

def maskBytes (x : Mask) : List Byte := [x.extractLsb' 16 8, x.extractLsb' 8 8, x.extractLsb' 0 8]

def joinHalf (a b : Byte) : Half := a ++ b

def joinMask (a b c : Byte) : Mask := a ++ b ++ c

def joinLong (a b c d : Byte) : Long := a ++ b ++ c ++ d

/-- A number sent in one, two or four bytes. -/
def nat1 (n : Nat) : List Byte := [BitVec.ofNat 8 n]
def nat2 (n : Nat) : List Byte := halfBytes (BitVec.ofNat 16 n)
def nat4 (n : Nat) : List Byte := longBytes (BitVec.ofNat 32 n)

/-- A signed position in four bytes, two's complement; what is sent for a position that four bytes cannot hold is
not stated: free value (assumption 3). -/
def position4 (x : Int) : List Byte :=
  if -2147483648 ≤ x ∧ x ≤ 2147483647 then longBytes (BitVec.ofInt 32 x) else longBytes (Config.unheldPosition x)

/-- Ch. 13: a one-byte field that can hold none sends 0xFF for it. -/
def optional1 (x : Option Nat) : List Byte :=
  match x with
  | some n => nat1 n
  | none => [0xFF]

/-- A two-valued item in one byte. -/
def bool1 (b : Bool) : List Byte := if b then [1] else [0]

/-! ### The CRC (R164) -/

/-- R164: one bit enters the register. -/
def crcBit (reg : Half) (bit : Bool) : Half := if reg.msb != bit then (reg <<< 1) ^^^ 0x1021 else reg <<< 1

/-- R164: one character enters, most significant bit first. -/
def crcByte (reg : Half) (b : Byte) : Half :=
  [7, 6, 5, 4, 3, 2, 1, 0].foldl (fun r i => crcBit r (b.getLsbD i)) reg

/-- R164: the check over a run of characters. -/
def crc (body : List Byte) : Half := body.foldl crcByte 0xFFFF

/-- R164: the last two characters of the list are the check of those before them. -/
def crcGood (body : List Byte) : Bool :=
  body.drop (body.length - 2) == halfBytes (crc (body.take (body.length - 2)))

/-! ### Characters (R162, R122) -/

/-- R162, R122: a character of either link by the levels that follow its start bit: the eight data bits, of which bit k
is the one that comes k-th, so that the least significant comes first, the parity bit, and the stop bit. A Bool is true
at the idle level. PRESUMED: a one has the idle level, which R162 says of the stop bit alone (assumption 24). For the
drive bus the order of the data bits is the model's choice (assumption 21). -/
structure Character where
  data : Byte
  parity : Bool
  stop : Bool
  deriving DecidableEq, Repr

/-- How many of the eight data bits are ones. -/
def onesIn (data : Byte) : Nat := (List.range 8).countP fun i => data.getLsbD i

/-- R162, R122: the parity bit does not make the count of ones in the data and parity bits even. -/
def parityError (c : Character) : Bool := (onesIn c.data + c.parity.toNat) % 2 == 1

/-- R162: the stop bit reads at the opposite level from idle. -/
def stopError (c : Character) : Bool := !c.stop

/-- R162, R122: the character that carries a byte: its data, even parity and a stop bit at the idle level. -/
def characterOf (b : Byte) : Character := { data := b, parity := onesIn b % 2 == 1, stop := true }

/-- R162, R122: the eleven levels of a character in the order they are sent: the start bit, the data bits least
significant first, the parity bit and the stop bit. PRESUMED: the start bit and a zero have the opposite level from idle
(assumption 24). -/
def lineLevels (c : Character) : List Bool :=
  false :: ((List.range 8).map fun i => c.data.getLsbD i) ++ [c.parity, c.stop]

/-- R162, R172, R122: the levels of a run of characters sent without a gap. -/
def sentLevels (characters : List Byte) : List Bool := characters.flatMap fun b => lineLevels (characterOf b)

/-! ### Requests (sec. 13.2) -/

/-- Sec. 13.2: the code of each request. -/
def requestCode : Request → Byte
  | .setZone _ => 0x01
  | .setChannel _ _ _ => 0x02
  | .setLine _ => 0x03
  | .setProfile _ => 0x04
  | .readMap _ _ => 0x05
  | .mapAccess _ => 0x06
  | .defineProgram _ _ _ _ => 0x10
  | .readProgram _ => 0x11
  | .freeze _ => 0x12
  | .withdraw _ => 0x13
  | .reinstate _ => 0x14
  | .erase _ => 0x15
  | .setSpeed _ => 0x18
  | .readPosition _ => 0x19
  | .announce _ => 0x20
  | .cancelAnnouncement _ => 0x21
  | .lookup _ _ => 0x22
  | .amend _ => 0x23
  | .identify _ _ _ _ => 0x24
  | .place _ => 0x25
  | .retire _ _ => 0x26
  | .walkFirst => 0x27
  | .walkNext => 0x28
  | .readQueue => 0x29
  | .enableZone _ => 0x30
  | .disableZone _ => 0x31
  | .readZone _ => 0x32
  | .readChannel _ _ => 0x38
  | .readFaults => 0x39
  | .halt => 0x40
  | .resume => 0x41
  | .resetLine => 0x42
  | .setAddress _ _ => 0x48
  | .readLink => 0x49
  | .readEvents => 0x50
  | .clearEvents _ => 0x51
  | .setAttention _ _ _ => 0x52

/-- Sec. 13.2: the payload of SET LINE, 36 bytes. -/
def lineFieldBytes (f : LineFields) : List Byte :=
  longBytes f.scale ++ [f.sense, f.entryEdge, f.exitEdge] ++ halfBytes f.holdOff ++ halfBytes f.xExit
    ++ halfBytes f.window ++ halfBytes f.lMin ++ halfBytes f.defaultLength ++ halfBytes f.defaultAreaA
    ++ halfBytes f.defaultAreaB ++ [f.defaultSlot] ++ halfBytes f.s0 ++ halfBytes f.stopTime
    ++ halfBytes f.parkTime ++ [f.resumeDistance] ++ halfBytes f.restartDelay
    ++ [f.jP, f.warnBand, f.tripBand, f.replyWindow, f.group]

/-- Sec. 13.2, R188: the payload of each request. -/
def requestPayload : Request → List Byte
  | .setZone f => [f.zone] ++ halfBytes f.boundary ++ [f.kind, f.profile, f.channelA, f.channelB]
      ++ halfBytes f.jLo ++ halfBytes f.jHi
  | .setChannel c iF iR => [c] ++ halfBytes iF ++ halfBytes iR
  | .setLine f => lineFieldBytes f
  | .setProfile f => [f.profile] ++ halfBytes f.tF ++ halfBytes f.tO1 ++ halfBytes f.tR ++ halfBytes f.tO2
      ++ halfBytes f.rho ++ halfBytes f.phi
  | .readMap selector item => [selector, item]
  | .mapAccess operation => [operation]
  | .defineProgram slot qT jMin jMax => [slot] ++ halfBytes qT ++ halfBytes jMin ++ halfBytes jMax
  | .readProgram slot => [slot]
  | .freeze slot => [slot]
  | .withdraw slot => [slot]
  | .reinstate slot => [slot]
  | .erase slot => [slot]
  | .setSpeed speed => halfBytes speed
  | .readPosition clear => [clear]
  | .announce f => halfBytes f.tag ++ halfBytes f.length ++ halfBytes f.areaA ++ halfBytes f.areaB ++ [f.slot]
  | .cancelAnnouncement tag => halfBytes tag
  | .lookup selector key => [selector] ++ longBytes key
  | .amend f => halfBytes f.tag
      ++ (match f.length with | some l => halfBytes l | none => [])
      ++ (match f.areas with | some ab => halfBytes ab.1 ++ halfBytes ab.2 | none => [])
      ++ (match f.program with | some p => [p] | none => [])
  | .identify index generation tag slot => [index, generation] ++ halfBytes tag
      ++ (match slot with | some k => [k] | none => [])
  | .place f => halfBytes f.tag ++ halfBytes f.lead ++ halfBytes f.length ++ halfBytes f.areaA
      ++ halfBytes f.areaB ++ [f.slot] ++ longBytes f.fwdA ++ longBytes f.revA ++ longBytes f.fwdB
      ++ longBytes f.revB
  | .retire selector key => [selector] ++ halfBytes key
  | .walkFirst => []
  | .walkNext => []
  | .readQueue => []
  | .enableZone zone => [zone]
  | .disableZone zone => [zone]
  | .readZone zone => [zone]
  | .readChannel channel clear => [channel, clear]
  | .readFaults => []
  | .halt => []
  | .resume => []
  | .resetLine => []
  | .setAddress address group => [address, group]
  | .readLink => []
  | .readEvents => []
  | .clearEvents mask => maskBytes mask
  | .setAttention mask mode interval => maskBytes mask ++ [mode] ++ halfBytes interval

/-- R163, R164: a run of characters with the start byte before it and its check behind it. -/
def linkFrame (body : List Byte) : List Byte := 0xC3 :: body ++ halfBytes (crc body)

/-- R163: the frame of a request sent to an address. -/
def requestFrame (addr : Byte) (r : Request) : List Byte :=
  linkFrame (addr :: BitVec.ofNat 8 ((requestPayload r).length + 1) :: requestCode r :: requestPayload r)

/-- R170: what the request code table and the lengths make of a code and a payload. -/
inductive Parsed where
  | unknownRequest
  | badLength
  | request (r : Request)
  deriving DecidableEq, Repr

/-- R170: a payload of a length that the request does not allow. -/
def Parsed.ofOption : Option Request → Parsed
  | some r => .request r
  | none => .badLength

/-- Sec. 13.2: a payload of no bytes. -/
def parseNone (r : Request) : List Byte → Option Request
  | [] => some r
  | _ => none

/-- Sec. 13.2: a payload of one byte. -/
def parseByte (f : Byte → Request) : List Byte → Option Request
  | [a] => some (f a)
  | _ => none

/-- Sec. 13.2: a payload of two bytes that are two fields. -/
def parseTwo (f : Byte → Byte → Request) : List Byte → Option Request
  | [a, b] => some (f a b)
  | _ => none

def parseSetZone : List Byte → Option Request
  | [z, b1, b0, k, p, ca, cb, l1, l0, h1, h0] =>
    some (.setZone { zone := z, boundary := joinHalf b1 b0, kind := k, profile := p, channelA := ca,
                     channelB := cb, jLo := joinHalf l1 l0, jHi := joinHalf h1 h0 })
  | _ => none

def parseSetChannel : List Byte → Option Request
  | [c, f1, f0, r1, r0] => some (.setChannel c (joinHalf f1 f0) (joinHalf r1 r0))
  | _ => none

def parseSetLine : List Byte → Option Request
  | p3 :: p2 :: p1 :: p0 :: se :: ee :: xe :: ho1 :: ho0 :: x1 :: x0 :: w1 :: w0 :: lm1 :: lm0 :: dl1 :: dl0
    :: da1 :: da0 :: db1 :: db0 :: ds :: s1 :: s0 :: st1 :: st0 :: pt1 :: pt0 :: rd :: re1 :: re0 :: jp :: wb
    :: tb :: wi :: g :: [] =>
    some (.setLine {
      scale := joinLong p3 p2 p1 p0, sense := se, entryEdge := ee, exitEdge := xe, holdOff := joinHalf ho1 ho0,
      xExit := joinHalf x1 x0, window := joinHalf w1 w0, lMin := joinHalf lm1 lm0,
      defaultLength := joinHalf dl1 dl0, defaultAreaA := joinHalf da1 da0, defaultAreaB := joinHalf db1 db0,
      defaultSlot := ds, s0 := joinHalf s1 s0, stopTime := joinHalf st1 st0, parkTime := joinHalf pt1 pt0,
      resumeDistance := rd, restartDelay := joinHalf re1 re0, jP := jp, warnBand := wb, tripBand := tb,
      replyWindow := wi, group := g })
  | _ => none

def parseSetProfile : List Byte → Option Request
  | [p, a1, a0, b1, b0, c1, c0, d1, d0, e1, e0, f1, f0] =>
    some (.setProfile { profile := p, tF := joinHalf a1 a0, tO1 := joinHalf b1 b0, tR := joinHalf c1 c0,
                        tO2 := joinHalf d1 d0, rho := joinHalf e1 e0, phi := joinHalf f1 f0 })
  | _ => none

def parseDefineProgram : List Byte → Option Request
  | [k, q1, q0, l1, l0, h1, h0] => some (.defineProgram k (joinHalf q1 q0) (joinHalf l1 l0) (joinHalf h1 h0))
  | _ => none

def parseSetSpeed : List Byte → Option Request
  | [v1, v0] => some (.setSpeed (joinHalf v1 v0))
  | _ => none

def parseAnnounce : List Byte → Option Request
  | [t1, t0, l1, l0, a1, a0, b1, b0, k] =>
    some (.announce { tag := joinHalf t1 t0, length := joinHalf l1 l0, areaA := joinHalf a1 a0,
                      areaB := joinHalf b1 b0, slot := k })
  | _ => none

def parseCancel : List Byte → Option Request
  | [t1, t0] => some (.cancelAnnouncement (joinHalf t1 t0))
  | _ => none

def parseLookup : List Byte → Option Request
  | [sel, k3, k2, k1, k0] => some (.lookup sel (joinLong k3 k2 k1 k0))
  | _ => none

/-- R188: the length tells which parts of an AMEND are present. -/
def parseAmend : List Byte → Option Request
  | [t1, t0] => some (.amend ⟨joinHalf t1 t0, none, none, none⟩)
  | [t1, t0, p] => some (.amend ⟨joinHalf t1 t0, none, none, some p⟩)
  | [t1, t0, l1, l0] => some (.amend ⟨joinHalf t1 t0, some (joinHalf l1 l0), none, none⟩)
  | [t1, t0, l1, l0, p] => some (.amend ⟨joinHalf t1 t0, some (joinHalf l1 l0), none, some p⟩)
  | [t1, t0, a1, a0, b1, b0] => some (.amend ⟨joinHalf t1 t0, none, some (joinHalf a1 a0, joinHalf b1 b0), none⟩)
  | [t1, t0, a1, a0, b1, b0, p] =>
    some (.amend ⟨joinHalf t1 t0, none, some (joinHalf a1 a0, joinHalf b1 b0), some p⟩)
  | [t1, t0, l1, l0, a1, a0, b1, b0] =>
    some (.amend ⟨joinHalf t1 t0, some (joinHalf l1 l0), some (joinHalf a1 a0, joinHalf b1 b0), none⟩)
  | [t1, t0, l1, l0, a1, a0, b1, b0, p] =>
    some (.amend ⟨joinHalf t1 t0, some (joinHalf l1 l0), some (joinHalf a1 a0, joinHalf b1 b0), some p⟩)
  | _ => none

/-- R188: IDENTIFY with or without a program. -/
def parseIdentify : List Byte → Option Request
  | [i, g, t1, t0] => some (.identify i g (joinHalf t1 t0) none)
  | [i, g, t1, t0, k] => some (.identify i g (joinHalf t1 t0) (some k))
  | _ => none

def parsePlace : List Byte → Option Request
  | [t1, t0, d1, d0, l1, l0, a1, a0, b1, b0, k, e3, e2, e1, e0, f3, f2, f1, f0, g3, g2, g1, g0, h3, h2, h1, h0] =>
    some (.place { tag := joinHalf t1 t0, lead := joinHalf d1 d0, length := joinHalf l1 l0,
                   areaA := joinHalf a1 a0, areaB := joinHalf b1 b0, slot := k, fwdA := joinLong e3 e2 e1 e0,
                   revA := joinLong f3 f2 f1 f0, fwdB := joinLong g3 g2 g1 g0, revB := joinLong h3 h2 h1 h0 })
  | _ => none

def parseRetire : List Byte → Option Request
  | [sel, k1, k0] => some (.retire sel (joinHalf k1 k0))
  | _ => none

def parseClearEvents : List Byte → Option Request
  | [m2, m1, m0] => some (.clearEvents (joinMask m2 m1 m0))
  | _ => none

def parseSetAttention : List Byte → Option Request
  | [m2, m1, m0, mode, i1, i0] => some (.setAttention (joinMask m2 m1 m0) mode (joinHalf i1 i0))
  | _ => none

/-- R170: the request code table (sec. 13.2) and the lengths it allows. -/
def parseRequest (code : Byte) (p : List Byte) : Parsed :=
  match code.toNat with
  | 0x01 => .ofOption (parseSetZone p)
  | 0x02 => .ofOption (parseSetChannel p)
  | 0x03 => .ofOption (parseSetLine p)
  | 0x04 => .ofOption (parseSetProfile p)
  | 0x05 => .ofOption (parseTwo .readMap p)
  | 0x06 => .ofOption (parseByte .mapAccess p)
  | 0x10 => .ofOption (parseDefineProgram p)
  | 0x11 => .ofOption (parseByte .readProgram p)
  | 0x12 => .ofOption (parseByte .freeze p)
  | 0x13 => .ofOption (parseByte .withdraw p)
  | 0x14 => .ofOption (parseByte .reinstate p)
  | 0x15 => .ofOption (parseByte .erase p)
  | 0x18 => .ofOption (parseSetSpeed p)
  | 0x19 => .ofOption (parseByte .readPosition p)
  | 0x20 => .ofOption (parseAnnounce p)
  | 0x21 => .ofOption (parseCancel p)
  | 0x22 => .ofOption (parseLookup p)
  | 0x23 => .ofOption (parseAmend p)
  | 0x24 => .ofOption (parseIdentify p)
  | 0x25 => .ofOption (parsePlace p)
  | 0x26 => .ofOption (parseRetire p)
  | 0x27 => .ofOption (parseNone .walkFirst p)
  | 0x28 => .ofOption (parseNone .walkNext p)
  | 0x29 => .ofOption (parseNone .readQueue p)
  | 0x30 => .ofOption (parseByte .enableZone p)
  | 0x31 => .ofOption (parseByte .disableZone p)
  | 0x32 => .ofOption (parseByte .readZone p)
  | 0x38 => .ofOption (parseTwo .readChannel p)
  | 0x39 => .ofOption (parseNone .readFaults p)
  | 0x40 => .ofOption (parseNone .halt p)
  | 0x41 => .ofOption (parseNone .resume p)
  | 0x42 => .ofOption (parseNone .resetLine p)
  | 0x48 => .ofOption (parseTwo .setAddress p)
  | 0x49 => .ofOption (parseNone .readLink p)
  | 0x50 => .ofOption (parseNone .readEvents p)
  | 0x51 => .ofOption (parseClearEvents p)
  | 0x52 => .ofOption (parseSetAttention p)
  | _ => .unknownRequest

/-- R171: the four requests taken from a group or broadcast address. -/
def groupTaken : Request → Bool
  | .halt => true
  | .resume => true
  | .setSpeed _ => true
  | .clearEvents _ => true
  | _ => false

/-! ### Replies (R173, sec. 13.1) -/

/-- Sec. 13.1: the code of a result. -/
def Result.code : Result → Byte
  | .accepted => 0x00
  | .acceptedClamped => 0x01
  | .unknownRequest => 0x02
  | .badLength => 0x03
  | .badValue => 0x04
  | .noSuchTag => 0x05
  | .tagInUse => 0x06
  | .tableFull => 0x07
  | .queueFull => 0x08
  | .mapClosed => 0x09
  | .mapLocked => 0x0A
  | .mapInvalid => 0x0B
  | .slotEmpty => 0x0C
  | .slotFrozen => 0x0D
  | .slotNotAssignable => 0x0E
  | .slotInUse => 0x0F
  | .overlap => 0x10
  | .wrongState => 0x11

/-- R173, sec. 13.1: the characters of a reply frame. -/
def Reply.bytes (r : Reply) : List Byte :=
  linkFrame (r.address :: BitVec.ofNat 8 (4 + r.payload.length) :: r.code :: r.result.code :: r.status1
    :: r.status2 :: r.payload)

/-- R162, R172: the levels of a reply on the line. -/
def Reply.levels (r : Reply) : List Bool := sentLevels r.bytes

/-! ### Drive bus frames (R189) -/

/-- R189: a drive bus frame: the start byte, the characters from the type byte on, and their check. -/
def driveFrame (body : List Byte) : List Byte := 0x5A :: body ++ halfBytes (crc body)

/-- Sec. 13.3, R189: the code of a mode. -/
def Mode.code : Mode → Nat
  | .run => 0
  | .protect => 1

/-- R189: the frame of an item of the drive queue. -/
def DriveItem.frame : DriveItem → List Byte
  | .order f _ _ => driveFrame ([0x01] ++ nat1 f.channel ++ [f.seq] ++ nat2 f.values.iF ++ nat2 f.values.iR
      ++ nat2 f.values.tF ++ nat2 f.values.tO1 ++ nat2 f.values.tR ++ nat2 f.values.tO2 ++ nat2 f.values.phi
      ++ nat1 f.mode.code)
  | .mark z seq a b => driveFrame ([0x02] ++ nat1 z ++ [seq] ++ optional1 (a.map Fin.val)
      ++ optional1 (b.map Fin.val))
  | .stop c _ => driveFrame ([0x03] ++ nat1 c)
  | .abort => driveFrame [0x04]

/-- R122: the levels of an item's frame on the drive bus, while DRV_DE is high. -/
def DriveItem.levels (i : DriveItem) : List Bool := sentLevels i.frame

/-- R189: the code of a reply status. -/
def ReplyStatus.code : ReplyStatus → Byte
  | .ok => 0
  | .limit => 1
  | .fault => 2

/-- R189: the status of a code. -/
def ReplyStatus.ofCode (b : Byte) : Option ReplyStatus :=
  match b.toNat with
  | 0 => some .ok
  | 1 => some .limit
  | 2 => some .fault
  | _ => none

/-- R189: the nine bytes of a readback. -/
def Readback.bytes (b : Readback) : List Byte := [b.seq] ++ nat4 b.qf ++ nat4 b.qr

/-- R189: the REPLY a conforming channel sends. -/
def replyFrame (c : Fin 32) (status : ReplyStatus) (readbacks : List Readback) : List Byte :=
  driveFrame ([0x81] ++ nat1 c ++ [status.code] ++ nat1 readbacks.length ++ readbacks.flatMap Readback.bytes)

/-- R189: the readbacks that stand in a run of bytes. -/
def parseReadbacks : Nat → List Byte → List Readback
  | n + 1, seq :: f3 :: f2 :: f1 :: f0 :: r3 :: r2 :: r1 :: r0 :: rest =>
    { seq := seq, qf := (joinLong f3 f2 f1 f0).toNat, qr := (joinLong r3 r2 r1 r0).toNat } :: parseReadbacks n rest
  | _, _ => []

/-- R133: what a frame received in an ORDER or STOP transaction is judged to be. -/
inductive ReplyJudgement where
  | good (status : ReplyStatus) (readbacks : List Readback)
  | wrongChannel
  | garbled
  deriving DecidableEq, Repr

/-- R122: the parity bits with which these characters are sent. -/
def evenParity (data : List Byte) : List Bool := data.map fun b => (characterOf b).parity

/-- R133, R189: a received frame is judged against the channel addressed. -/
def judgeReply (frame : List Byte) (parity : List Bool) (c : Fin 32) : ReplyJudgement :=
  match frame with
  | start :: kind :: channel :: status :: count :: rest =>
    if parity != evenParity frame || start != 0x5A || kind != 0x81 || !wholeDriveReply frame
        || !crcGood frame.tail then .garbled
    else match ReplyStatus.ofCode status with
      | none => .garbled
      | some st =>
        if channel.toNat = c.val then .good st (parseReadbacks count.toNat rest) else .wrongChannel
  | _ => .garbled

end Sys2Proof.Machine
end

