-- ==== Sys2Proof/Machine/Payloads.lean ====
section
/-! DEFINITION. The reply payloads (sec. 13.3) as functions of the state, and the status bytes (R174). -/

namespace Sys2Proof.Machine

/-! ### Codes of enumerated fields (sec. 13.2, 13.3) -/

def ZoneKind.code : ZoneKind → Nat
  | .paired => 0
  | .common => 1
  | .unpowered => 2

def MapAccess.code : MapAccess → Nat
  | .closed => 0
  | .opened => 1
  | .locked => 2

def SlotState.code : SlotState → Nat
  | .empty => 0
  | .opened => 1
  | .frozen => 2
  | .withdrawn => 3

def Edge.code : Edge → Nat
  | .rising => 0
  | .falling => 1

def Direction.code : Direction → Nat
  | .forward => 0
  | .reverse => 1

def Motion.code : Motion → Nat
  | .moving => 0
  | .stopped => 1
  | .parked => 2

def RecordState.code : RecordState → Nat
  | .tracking => 0
  | .exited => 1
  | .lost => 2

def Origin.code : Origin → Nat
  | .announced => 0
  | .unannounced => 1
  | .placed => 2

/-- Sec. 13.3: bits 0 and 1 of the closure byte. -/
def outcomeCode : Option PlatingOutcome → Nat
  | none => 0
  | some .met => 1
  | some .short => 2
  | some .unprogrammed => 3

def ZoneState.code : ZoneState → Nat
  | .disabled => 0
  | .running => 1
  | .protect => 2
  | .parked => 3
  | .faulted => 4
  | .halted => 5

def Phase.code : Phase → Nat
  | .unstarted => 0
  | .started => 1
  | .ended => 2

def TransactionEnd.code : TransactionEnd → Nat
  | .good => 0
  | .missing => 1
  | .garbled => 2
  | .wrongChannel => 3

def Cause.code : Cause → Nat
  | .deviation => 0
  | .noOrder => 1
  | .statusLimit => 2
  | .statusFault => 3
  | .noReply => 4

def DevPhase.code : DevPhase → Nat
  | .forward => 0
  | .reverse => 1

def AttnMode.code : AttnMode → Nat
  | .level => 0
  | .pulse => 1

/-- The bit of weight 2^i of a byte. -/
def bitAt (i : Nat) (b : Bool) : Nat := if b then 2 ^ i else 0

/-! ### Status bytes (R174, sec. 13.1) -/

/-- R174: some zone is FAULTED. -/
def State.anyFaulted (s : State) : Bool := zoneNumbers.any fun z => s.zones[z].state == .faulted

/-- R55, R174: 64 records are live. -/
def State.tableFull (s : State) : Bool := s.table.live.length == Config.tableSize

/-- R174: status byte 1. -/
def State.status1 (s : State) : Byte :=
  BitVec.ofNat 8 (bitAt 0 s.attn.attentionPending + 2 * s.pos.motion.code + bitAt 3 s.sup.halted
    + bitAt 4 s.anyFaulted + 32 * s.map.access.code + bitAt 7 s.tableFull)

/-- R174, R185: status byte 2. -/
def State.status2 (s : State) : Byte := BitVec.ofNat 8 s.attn.summaryCode

/-! ### The Line Map and the Program Store -/

/-- READ MAP, selector ZONE: 18 bytes. -/
def LineMap.zonePayload (m : LineMap) (z : Fin 16) : List Byte :=
  let e := m.zones[z]
  nat1 z ++ nat2 e.boundary ++ nat1 e.kind.code ++ nat1 e.profile ++ optional1 (e.channelA.map Fin.val)
    ++ optional1 (e.channelB.map Fin.val) ++ nat2 e.jLo ++ nat2 e.jHi ++ nat2 (m.zoneStart z)
    ++ nat2 (m.zoneEnd z) ++ nat2 (m.zoneLength z) ++ bool1 (m.enableable z)

/-- READ MAP, selector CHANNEL: 7 bytes. -/
def LineMap.channelPayload (m : LineMap) (c : Fin 32) : List Byte :=
  let e := m.channels[c]
  let user := m.userOf c
  nat1 c ++ nat2 e.iFmax ++ nat2 e.iRmax ++ optional1 (user.map fun u => u.1.val)
    ++ optional1 (user.map fun u => match u.2 with | .A => 0 | .B => 1)

/-- READ MAP, selector PROFILE: 20 bytes; T and N of an UNSET profile are sent as 0. -/
def LineMap.profilePayload (m : LineMap) (i : Fin 8) : List Byte :=
  let p := m.profiles[i]
  nat1 i ++ bool1 p.isSet ++ nat2 p.tF ++ nat2 p.tO1 ++ nat2 p.tR ++ nat2 p.tO2 ++ nat2 p.rho ++ nat2 p.phi
    ++ nat2 (if p.isSet then p.period else 0) ++ nat4 (if p.isSet then p.net.toNat else 0)

/-- READ MAP, selector LINE: the 36 bytes of the SET LINE payload. -/
def LineSettings.payload (l : LineSettings) : List Byte :=
  nat4 l.scale ++ bool1 l.swapped ++ nat1 l.entryEdge.code ++ nat1 l.exitEdge.code ++ nat2 l.holdOff
    ++ nat2 l.xExit ++ nat2 l.window ++ nat2 l.lMin ++ nat2 l.defaultLength ++ nat2 l.defaultAreaA
    ++ nat2 l.defaultAreaB ++ optional1 (l.defaultSlot.map Fin.val) ++ nat2 l.s0 ++ nat2 l.stopTime
    ++ nat2 l.parkTime ++ nat1 l.resumeDistance ++ nat2 l.restartDelay ++ nat1 l.jP ++ nat1 l.warnBand
    ++ nat1 l.tripBand ++ nat1 l.replyWindow ++ optional1 (l.group.map Fin.val)

/-- READ MAP, selector SUMMARY: 51 bytes. -/
def LineMap.summaryPayload (m : LineMap) : List Byte :=
  nat1 m.access.code ++ nat2 m.ePlate
    ++ zoneNumbers.flatMap fun z => nat2 (m.zoneLength z) ++ bool1 (m.enableable z)

/-- READ PROGRAM for one slot: 9 bytes. -/
def slotPayload (k : Fin 16) (p : Slot) : List Byte :=
  nat1 k ++ nat1 p.state.code ++ nat1 p.refs ++ nat2 p.qT ++ nat2 p.jMin ++ nat2 p.jMax

/-- READ PROGRAM for ALL: 32 bytes. -/
def State.slotsPayload (s : State) : List Byte :=
  (List.finRange 16).flatMap fun k => nat1 s.programs[k].state.code ++ nat1 s.programs[k].refs

/-! ### Position -/

/-- R44, R53: whether the level is the one after a selected edge. -/
def SensorState.blocked (n : SensorState) (e : Edge) : Bool :=
  match e with
  | .rising => n.high
  | .falling => !n.high

/-- READ POSITION, a sensor block: 13 bytes. -/
def State.sensorPayload (s : State) (n : SensorState) (e : Edge) : List Byte :=
  (match n.mark with
    | none => nat1 0 ++ nat4 0 ++ nat2 0 ++ nat4 0
    | some (c, d) => nat1 1 ++ longBytes c ++ nat2 d
        ++ position4 (positionDifference s.map.line.scale s.pos.count c))
    ++ nat1 n.ignored ++ bool1 (n.blocked e)

/-- READ POSITION: 42 bytes. In MOVING the stop mark and the travel are sent as 0. -/
def State.positionPayload (s : State) : List Byte :=
  longBytes s.pos.count ++ nat1 s.pos.direction.code ++ nat1 s.pos.motion.code
    ++ (match s.pos.motion, s.pos.stopMark with
        | .moving, _ => nat4 0 ++ nat4 0
        | _, none => nat4 0 ++ nat4 0
        | _, some m => longBytes m ++ position4 (positionDifference s.map.line.scale s.pos.count m))
    ++ nat2 s.pos.speed ++ s.sensorPayload s.pos.entry s.map.line.entryEdge
    ++ s.sensorPayload s.pos.exit s.map.line.exitEdge

/-! ### Carrier records -/

/-- Sec. 13.3: the marks byte. -/
def Marks.code (m : Marks) : Nat :=
  bitAt 0 m.clipped + bitAt 1 m.estimated + bitAt 2 m.gap + bitAt 3 m.amended

/-- Ch. 13: a reached mark, 0x80000000 for none. -/
def reached4 : Option Int → List Byte
  | some x => position4 x
  | none => [0x80, 0, 0, 0]

/-- The carrier record payload: 48 bytes. -/
def State.recordPayload (s : State) (r : Record) : List Byte :=
  nat1 r.index ++ [r.generation] ++ nat2 r.tag ++ nat1 r.state.code ++ nat1 r.origin.code ++ nat1 r.marks.code
    ++ nat2 r.length ++ nat2 r.areaA ++ nat2 r.areaB ++ optional1 (r.slot.map Fin.val) ++ nat4 r.fwdA
    ++ nat4 r.revA ++ nat4 r.fwdB ++ nat4 r.revB ++ nat1 r.pendingCount ++ reached4 r.reachedA
    ++ reached4 r.reachedB ++ nat1 (bitAt 7 r.platingClosed + outcomeCode r.outcome) ++ longBytes r.entryMark
    ++ position4 (s.lead r)

/-- The displaced-record copy in the same layout; what it does not hold reads 0, its reached marks none. -/
def DisplacedCopy.payload (d : DisplacedCopy) : List Byte :=
  nat1 d.index ++ [d.generation] ++ nat2 d.tag ++ nat1 0 ++ nat1 d.origin.code ++ nat1 d.marks.code ++ nat2 0
    ++ nat2 0 ++ nat2 0 ++ nat1 0 ++ nat4 d.fwdA ++ nat4 d.revA ++ nat4 d.fwdB ++ nat4 d.revB ++ nat1 0
    ++ reached4 none ++ reached4 none ++ nat1 (outcomeCode d.outcome) ++ nat4 0 ++ nat4 0

/-- READ QUEUE. -/
def State.queuePayload (s : State) : List Byte :=
  nat1 s.table.queue.length ++ s.table.queue.flatMap fun a => nat2 a.tag

/-! ### Zones, channels and faults -/

/-- READ ZONE, a side block: 23 bytes. -/
def sidePayload : Option LastOrder → List Byte
  | none => List.replicate 23 0
  | some o => nat1 1 ++ [o.seq] ++ nat1 o.mode.code ++ nat2 o.order.iF ++ nat2 o.order.iR ++ nat2 o.order.tF
      ++ nat2 o.order.tO1 ++ nat2 o.order.tR ++ nat2 o.order.tO2 ++ nat2 o.order.phi ++ nat4 o.aZ ++ nat2 o.jZ

/-- Whether some side of a snapshot on this face answers the test. -/
def Snapshot.onFace (n : Snapshot) (f : Face) (test : Side → Bool) : Bool :=
  n.sides.any fun d => d.face == f && test d

/-- READ ZONE, a snapshot slot: 4 bytes. -/
def Snapshot.payload (n : Snapshot) : List Byte :=
  [n.seq] ++ nat1 n.phase.code ++ nat1 n.mode.code
    ++ nat1 (bitAt 0 (n.onFace .A Side.closed) + bitAt 1 (n.onFace .B Side.closed)
        + bitAt 2 (n.onFace .A Side.late) + bitAt 3 (n.onFace .B Side.late))

/-- READ ZONE, the three snapshot slots: 12 bytes, those beyond the pending count sent as 0. -/
def pendingPayload (pending : List Snapshot) : List Byte :=
  let sent := (pending.take 3).flatMap Snapshot.payload
  sent ++ List.replicate (12 - sent.length) 0

/-- R102: the last order values of a side the zone's type uses. -/
def State.shownOrder (s : State) (z : Fin 16) (f : Face) : Option LastOrder :=
  if s.map.zones[z].fieldsUsed.any fun fc => fc.1 == f then
    match f with
    | .A => s.zones[z].lastA
    | .B => s.zones[z].lastB
  else none

/-- READ ZONE: 72 bytes. -/
def State.zonePayload (s : State) (z : Fin 16) : List Byte :=
  let q := s.zones[z]
  nat1 q.state.code ++ [q.lastSeq] ++ bool1 q.restartTimer.isSome ++ sidePayload (s.shownOrder z .A)
    ++ sidePayload (s.shownOrder z .B) ++ nat1 q.pending.length ++ pendingPayload q.pending ++ nat4 q.orphanFwd
    ++ nat4 q.orphanRev ++ nat2 q.late

/-- R137: the item in a channel's order place. -/
def State.orderPlace (s : State) (c : Fin 32) : Option DriveItem :=
  s.drive.queue.find? fun i => i.addressee == some c

/-- R137: a transaction addressed to the channel is on the bus. -/
def State.onBus (s : State) (c : Fin 32) : Bool :=
  match s.drive.bus with
  | some t => t.item.addressee == some c
  | none => false

/-- READ CHANNEL: 8 bytes. -/
def State.channelPayload (s : State) (c : Fin 32) : List Byte :=
  let k := s.drive.channels[c]
  nat1 k.misses ++ nat2 k.stale
    ++ (match k.lastStatus with | some st => [st.code] | none => [0xFF])
    ++ optional1 (k.lastEnd.map TransactionEnd.code)
    ++ (match s.orderPlace c with
        | some (.order f _ _) => nat1 1 ++ [f.seq]
        | some (.stop _ _) => nat1 2 ++ nat1 0
        | _ => nat1 0 ++ nat1 0)
    ++ bool1 (s.onBus c)

/-- READ FAULTS, a latch: 3 bytes. -/
def latchPayload : Option (Option (Fin 16) × Fin 32) → List Byte
  | none => nat1 0 ++ nat1 0 ++ nat1 0
  | some (z, c) => nat1 1 ++ optional1 (z.map Fin.val) ++ nat1 c

/-- R148: the latest-deviation field: the latest-major record while the MAJOR flag is set, else the latest-minor. -/
def State.latestDeviation (s : State) : Option Case :=
  if s.attn.isSet .major then s.monitor.latestMajor else s.monitor.latestMinor

/-- READ FAULTS, the latest-deviation field: 8 bytes, the class byte first. -/
def casePayload (cls : Nat) : Option Case → List Byte
  | none => List.replicate 8 0
  | some c => nat1 cls ++ nat1 c.cause.code ++ optional1 (c.zone.map Fin.val) ++ nat1 c.channel
      ++ optional1 (c.mode.map Mode.code)
      ++ (match c.deviation with | some d => nat2 d | none => [0xFF, 0xFF])
      ++ optional1 (c.phase.map DevPhase.code)

/-- READ FAULTS: 19 bytes. -/
def State.faultsPayload (s : State) : List Byte :=
  let faulted := zoneNumbers.filter fun z => s.zones[z].state == .faulted
  bool1 (s.attn.isSet .major) ++ bool1 (s.attn.isSet .minor) ++ latchPayload s.monitor.firstMajor
    ++ latchPayload s.monitor.firstMinor ++ casePayload (if s.attn.isSet .major then 1 else 2) s.latestDeviation
    ++ nat1 faulted.length ++ nat2 (faulted.map fun z => 2 ^ z.val).sum

/-! ### Plant link and attention -/

/-- READ LINK: 7 bytes. The speed byte is the BAUD strap as it was read: 3 at 19,200 too, where R161 gives the straps 0
and 3 the same speed (assumption 20, the model's choice). -/
def State.linkPayload (s : State) : List Byte :=
  nat1 s.link.crcErrors ++ nat1 s.link.framingErrors ++ nat1 s.link.overruns ++ nat1 s.link.groupMisuse
    ++ nat1 s.link.station ++ optional1 (s.map.line.group.map Fin.val) ++ nat1 s.link.baud.toNat

/-- Sec. 13.1: eighteen flags in three bytes. -/
def flags3 (x : BitVec 18) : List Byte := maskBytes (x.setWidth 24)

/-- READ EVENTS: 11 bytes. -/
def State.eventsPayload (s : State) : List Byte :=
  flags3 s.attn.flags ++ flags3 s.attn.enables ++ nat1 s.attn.mode.code ++ nat1 s.attn.interval
    ++ bool1 s.attn.pulseOn ++ bool1 s.attn.reminderTimer.isSome ++ nat1 s.attn.summaryCode

/-- SET ATTENTION: 5 bytes. -/
def State.attentionPayload (s : State) : List Byte :=
  flags3 s.attn.enables ++ nat1 s.attn.mode.code ++ nat1 s.attn.interval

end Sys2Proof.Machine
end

