-- ==== Sys2Proof/Machine/CarrierOwner.lean ====
section
/-! DEFINITION. The Position Tracker and the Carrier Table as owners of their requests (R43, R53, R59, R60, R68 to
R75). -/

namespace Sys2Proof.Machine

/-! ### Position Tracker -/

/-- R43: SET SPEED. -/
def ownSetSpeed (speed : Half) (s : State) : State × Answer :=
  let v := clamp 100 10000 speed.toNat
  (s.withPos { s.pos with speed := v },
    ⟨if v = speed.toNat then .accepted else .acceptedClamped, nat2 v⟩)

/-- R49, R53: both ignored-edge counts set to 0. -/
def clearIgnored (s : State) : State :=
  s.withPos { s.pos with entry := { s.pos.entry with ignored := 0 }, exit := { s.pos.exit with ignored := 0 } }

/-- R53: READ POSITION. -/
def ownReadPosition (clear : Byte) (s : State) : State × Answer :=
  match flagOf clear with
  | none => refuse s .badValue
  | some true => accept (clearIgnored s) s.positionPayload
  | some false => accept s s.positionPayload

/-! ### Announcements -/

/-- R59: ANNOUNCE. -/
def ownAnnounce (f : AnnounceFields) (s : State) : State × Answer :=
  match announcementOf s.map.line.lMin f with
  | none => refuse s .badValue
  | some a =>
    if s.tagHeld a.tag then refuse s .tagInUse
    else if Config.queueSize ≤ s.table.queue.length then refuse s .queueFull
    else match takeProgram a.slot s with
      | .error e => refuse s e
      | .ok t => accept (t.withTable { t.table with queue := t.table.queue ++ [a] })
          (nat1 (t.table.queue.length + 1))

/-- R60: CANCEL ANNOUNCEMENT. -/
def ownCancel (tag : Half) (s : State) : State × Answer :=
  match tagOf tag with
  | none => refuse s .badValue
  | some t => match s.table.queue.find? fun a => a.tag == t with
    | none => refuse s .noSuchTag
    | some a =>
      let rest := removeFirst (fun b => b.tag == t) s.table.queue
      accept (releaseProgram a.slot (s.withTable { s.table with queue := rest })) (nat1 rest.length)

/-- R75: READ QUEUE. -/
def ownReadQueue (s : State) : State × Answer := accept s s.queuePayload

/-! ### Records -/

/-- The reply that returns a record, or NO_SUCH_TAG where there is none. -/
def answerRecord (found : Option Record) (s : State) : State × Answer :=
  match found with
  | none => refuse s .noSuchTag
  | some r => accept s (s.recordPayload r)

/-- R68: LOOKUP by tag. -/
def lookupTag (key : Long) (s : State) : State × Answer :=
  match inRange 1 65535 key with
  | none => refuse s .badValue
  | some t => answerRecord (findTag s.table.live t) s

/-- R68: LOOKUP by index. -/
def lookupIndex (key : Long) (s : State) : State × Answer :=
  if key.toNat < Config.tableSize then answerRecord (s.table.live.find? fun r => r.index.val == key.toNat) s
  else refuse s .badValue

/-- R68: LOOKUP by position, in the half-open span of R57. -/
def lookupPosition (key : Long) (s : State) : State × Answer :=
  answerRecord (s.table.live.find? fun r => decide (s.trail r ≤ key.toInt) && decide (key.toInt < s.lead r)) s

/-- R62, R68: LOOKUP of the displaced-record copy. -/
def lookupDisplaced (s : State) : State × Answer :=
  match s.table.displaced with
  | none => refuse s .noSuchTag
  | some d => accept s d.payload

/-- R68: LOOKUP. -/
def ownLookup (selector : Byte) (key : Long) (s : State) : State × Answer :=
  match selector.toNat with
  | 0 => lookupTag key s
  | 1 => lookupIndex key s
  | 2 => lookupPosition key s
  | 3 => lookupDisplaced s
  | _ => refuse s .badValue

/-- R69, check 3: a new length would overlap the record's successor. -/
def State.lengthOverlaps (s : State) (r : Record) (length : Option Nat) : Bool :=
  match length, successorOf r.index r.generation s.table.live with
  | some l, some q => decide (separation s.map.line.scale r.entryMark q.entryMark < l)
  | _, _ => false

/-- R69: a record with the present parts written and the AMENDED mark added. -/
def Record.amendedBy (r : Record) (a : Amendment) : Record :=
  { r with
    length := a.length.getD r.length
    areaA := (a.areas.map Prod.fst).getD r.areaA
    areaB := (a.areas.map Prod.snd).getD r.areaB
    slot := a.program.getD r.slot
    marks := { r.marks with amended := true } }

/-- R52, R69: a taken AMEND on a state in which the program reference has been moved. -/
def applyAmend (r : Record) (a : Amendment) (s : State) : State :=
  let t := modifyRecord r.index r.generation (fun q => q.amendedBy a) s
  if a.length.isSome then platingEndWatch r.index r.generation t else t

/-- The reply that returns a record as it now stands. -/
def acceptRecord (index : Fin 64) (generation : BitVec 8) (s : State) : State × Answer :=
  accept s (match findRecord s.table.live index generation with
    | some r => s.recordPayload r
    | none => [])

/-- R69: AMEND. -/
def ownAmend (f : AmendFields) (s : State) : State × Answer :=
  match amendmentOf s.map.line.lMin f with
  | none => refuse s .badValue
  | some a => match findTag s.table.live a.tag with
    | none => refuse s .noSuchTag
    | some r =>
      if s.lengthOverlaps r a.length then refuse s .overlap
      else match moveProgram r.slot (a.program.getD r.slot) s with
        | .error e => refuse s e
        | .ok t => acceptRecord r.index r.generation (applyAmend r a t)

/-- R70: IDENTIFY, check 1: the index, the tag, and the program if one is carried. -/
def identityOf (index : Byte) (tag : Half) (slot : Option Byte) : Option (Fin 64 × Nat × Option (Fin 16)) := do
  let i ← indexOf 64 index
  let t ← tagOf tag
  let k ← optionalPart (indexOf 16) slot
  some (i, t, k)

/-- R70: a taken IDENTIFY on a state in which the program reference has been moved. -/
def applyIdentify (r : Record) (tag : Nat) (slot : Option (Fin 16)) (s : State) : State :=
  modifyRecord r.index r.generation (fun q => { q with tag := tag, slot := slot }) s

/-- R70: IDENTIFY. -/
def ownIdentify (index generation : Byte) (tag : Half) (slot : Option Byte) (s : State) : State × Answer :=
  match identityOf index tag slot with
  | none => refuse s .badValue
  | some (i, t, k) => match findRecord s.table.live i generation with
    | none => refuse s .noSuchTag
    | some r =>
      if r.tag ≠ 0 then refuse s .wrongState
      else if s.tagHeld t then refuse s .tagInUse
      else
        let program := match k with
          | some k => some k
          | none => r.slot
        match moveProgram r.slot program s with
        | .error e => refuse s e
        | .ok u => acceptRecord r.index r.generation (applyIdentify r t program u)

/-- R71: the entry mark of a record placed at a lead. -/
def State.placedMark (s : State) (lead : Nat) : Count :=
  s.pos.count - BitVec.ofNat 32 (lead * s.map.line.scale / 1000)

/-- R71, R57: the separation of two neighbours is less than the length of the one behind, by the words of R71, or of
the one in front, whose span then reaches over the other (assumption 6). -/
def overlaps (scale : Nat) (front behind : Record) : Bool :=
  decide (separation scale front.entryMark behind.entryMark < max front.length behind.length)

/-- R71, check 4: the new record is too near the record it would stand behind, or the one it would stand ahead of. -/
def State.placeOverlaps (s : State) (new : Record) : Bool :=
  let scale := s.map.line.scale
  let ahead := s.table.live.takeWhile fun r => decide (0 < separation scale r.entryMark new.entryMark)
  (match ahead.getLast? with
    | some r => overlaps scale r new
    | none => false)
  || (match (s.table.live.drop ahead.length).head? with
    | some r => overlaps scale new r
    | none => false)

/-- R71: the record a PLACE makes. -/
def placedRecord (p : Placement) (index : Fin 64) (generation : BitVec 8) (mark : Count) : Record :=
  { Record.fresh index generation mark .placed with
    tag := p.tag, length := p.length, areaA := p.areaA, areaB := p.areaB, slot := p.slot, fwdA := p.fwdA,
    revA := p.revA, fwdB := p.fwdB, revB := p.revB }

/-- R71: a taken PLACE on a state in which the reference has been taken: the record, its target tests and the
watches' tests. -/
def applyPlace (new : Record) (s : State) : State :=
  let made := putRecord (insertInLine s.map.line.scale new s.table.live) new s
  let tested := testTarget new.index new.generation .B (testTarget new.index new.generation .A made)
  exitWindowWatch new.index new.generation (platingEndWatch new.index new.generation tested)

/-- R71: PLACE. -/
def ownPlace (f : PlaceFields) (s : State) : State × Answer :=
  match placementOf s.map.line.lMin f with
  | none => refuse s .badValue
  | some p =>
    if p.tag ≠ 0 ∧ s.tagHeld p.tag = true then refuse s .tagInUse
    else match s.nextIndex with
      | none => refuse s .tableFull
      | some (i, g) =>
        let new := placedRecord p i g (s.placedMark p.lead)
        if Config.tableSize ≤ s.table.live.length then refuse s .tableFull
        else if s.placeOverlaps new then refuse s .overlap
        else match takeProgram p.slot s with
          | .error e => refuse s e
          | .ok t => accept (applyPlace new t) (nat1 i ++ [g] ++ position4 (s.lead new))

/-- R72: the record a RETIRE names: by tag, or by index and generation; the error is its refusal. -/
def State.retireTarget (s : State) (selector : Byte) (key : Half) : Except Result Record :=
  match selector.toNat with
  | 0 => match tagOf key with
    | none => .error .badValue
    | some t => match findTag s.table.live t with
      | some r => .ok r
      | none => .error .noSuchTag
  | 1 => match indexOf 64 (key.extractLsb' 8 8) with
    | none => .error .badValue
    | some i => match findRecord s.table.live i (key.extractLsb' 0 8) with
      | some r => .ok r
      | none => .error .noSuchTag
  | _ => .error .badValue

/-- R72: RETIRE; the reply carries the record as it stood. -/
def ownRetire (selector : Byte) (key : Half) (s : State) : State × Answer :=
  match s.retireTarget selector key with
  | .error e => refuse s e
  | .ok r => accept (removeRecord r s) (s.recordPayload r)

/-! ### The walk (R73, R74) -/

/-- R74: a record is returned and the cursor set at it; END sets the cursor to none. -/
def answerWalk (found : Option Record) (s : State) : State × Answer :=
  match found with
  | some r => accept (s.withTable { s.table with cursor := .atRecord r.index r.generation })
      (nat1 0 ++ s.recordPayload r)
  | none => accept (s.withTable { s.table with cursor := .nowhere }) (nat1 1)

/-- R74: WALK FIRST. -/
def ownWalkFirst (s : State) : State × Answer := answerWalk s.table.live.head? s

/-- R74: the record WALK NEXT returns. -/
def State.nextOnWalk (s : State) : Option Record :=
  match s.table.cursor with
  | .nowhere => none
  | .atRecord i g => successorOf i g s.table.live
  | .aheadOf i g => findRecord s.table.live i g

/-- R74: WALK NEXT. -/
def ownWalkNext (s : State) : State × Answer := answerWalk s.nextOnWalk s

end Sys2Proof.Machine
end

