-- ==== Sys2Proof/Machine/MapOwner.lean ====
section
/-! DEFINITION. The Line Map as owner of its requests (sec. 1.5 to 1.9, R21): the checks of an edit and what a
taken edit does. -/

namespace Sys2Proof.Machine

/-- R13: a zone is in service when its state is anything other than DISABLED. -/
def State.inService (s : State) (z : Fin 16) : Bool := s.zones[z].state != .disabled

/-- R11 position 1, R14: the refusal of the map access state, if it refuses. -/
def State.accessRefusal (s : State) : Option Result :=
  match s.map.access with
  | .locked => some .mapLocked
  | .opened => none
  | .closed => if zoneNumbers.any s.inService then some .mapClosed else none

/-- R10, condition 1: S0 and the boundaries never decrease, and none exceeds 65,000. -/
def LineMap.boundariesRise (m : LineMap) : Bool :=
  zoneNumbers.all fun z => decide (m.zoneStart z ≤ m.zoneEnd z) && decide (m.zoneEnd z ≤ 65000)

/-- R2: the channel fields agree with the type. -/
def ZoneEntry.agrees (e : ZoneEntry) : Bool :=
  match e.kind with
  | .paired => true
  | .common => e.channelB.isNone
  | .unpowered => e.channelA.isNone && e.channelB.isNone

/-- R10: the validity checks on a map as it would stand, against the live records. -/
def LineMap.valid (m : LineMap) (live : List Record) : Bool :=
  m.boundariesRise
    && decide m.channelUses.Nodup
    && zoneNumbers.all (fun z => decide (m.zoneLength z ≤ 15 * m.line.lMin))
    && decide ((m.zones[(15 : Fin 16)]).boundary ≤ m.line.xExit)
    && live.all (fun r => decide (m.line.lMin ≤ r.length))
    && decide (m.line.warnBand < m.line.tripBand)
    && zoneNumbers.all (fun z => decide ((m.zones[z]).jLo ≤ (m.zones[z]).jHi) && (m.zones[z]).agrees)
    && decide (m.line.lMin ≤ m.line.defaultLength)
    && !(m.line.defaultAreaA == 0 && m.line.defaultAreaB == 0)

/-- R11 position 3, R13: the edit keeps the type and channels of every zone in service and leaves it enableable,
and leaves the encoder scale and sense alone while a record is live. -/
def State.keepsRunning (s : State) (m : LineMap) : Bool :=
  zoneNumbers.all (fun z => !s.inService z ||
      (m.zones[z].kind == s.map.zones[z].kind && m.zones[z].channelA == s.map.zones[z].channelA
        && m.zones[z].channelB == s.map.zones[z].channelB && m.enableable z))
    && (s.table.live.isEmpty || (m.line.scale == s.map.line.scale && m.line.swapped == s.map.line.swapped))

/-- R16, R52: a taken edit replaces the map, and a change of E_plate, X_exit or W is tested by its watch. -/
def applyEdit (m : LineMap) (s : State) : State :=
  let s1 := s.withMap m
  let s2 := if m.ePlate = s.map.ePlate then s1 else platingEndWatchAll s1
  if m.line.xExit = s.map.line.xExit ∧ m.line.window = s.map.line.window then s2 else exitWindowWatchAll s2

/-- R11: the four checks of an edit in their order; `none` is an edit with a field out of its range. -/
def takeEdit (edit : Option LineMap) (s : State) : State × Answer :=
  match s.accessRefusal with
  | some r => refuse s r
  | none => match edit with
    | none => refuse s .badValue
    | some m =>
      if !s.keepsRunning m then refuse s .wrongState
      else if !m.valid s.table.live then refuse s .mapInvalid
      else accept (applyEdit m s) []

/-- R17: SET ZONE. -/
def ownSetZone (f : ZoneFields) (s : State) : State × Answer :=
  takeEdit ((zoneEntryOf f).map fun ze => { s.map with zones := bankSet s.map.zones ze.1 ze.2 }) s

/-- R5, R17: SET CHANNEL. -/
def ownSetChannel (channel : Byte) (iFmax iRmax : Half) (s : State) : State × Answer :=
  takeEdit ((indexOf 32 channel).map fun c =>
    { s.map with channels := bankSet s.map.channels c { iFmax := iFmax.toNat, iRmax := iRmax.toNat } }) s

/-- R6, R17: SET LINE. -/
def ownSetLine (f : LineFields) (s : State) : State × Answer :=
  takeEdit ((lineSettingsOf f).map fun l => { s.map with line := l }) s

/-- R21: SET PROFILE, which passes positions 3 and 4 of R11 whatever it carries. -/
def ownSetProfile (f : ProfileFields) (s : State) : State × Answer :=
  match s.accessRefusal with
  | some r => refuse s r
  | none => match profileOf f with
    | none => refuse s .badValue
    | some (i, p) => accept (s.withMap { s.map with profiles := bankSet s.map.profiles i p }) []

/-- R18: an item number checked against the range of its selector. -/
def readItem (n : Nat) (item : Byte) (payload : Fin n → List Byte) (s : State) : State × Answer :=
  match indexOf n item with
  | none => refuse s .badValue
  | some i => accept s (payload i)

/-- R18: READ MAP. -/
def ownReadMap (selector item : Byte) (s : State) : State × Answer :=
  match selector.toNat with
  | 0 => readItem 16 item s.map.zonePayload s
  | 1 => readItem 32 item s.map.channelPayload s
  | 2 => readItem 8 item s.map.profilePayload s
  | 3 => accept s s.map.line.payload
  | 4 => accept s s.map.summaryPayload
  | _ => refuse s .badValue

/-- The map access state replaced. -/
def State.withAccess (s : State) (a : MapAccess) : State := s.withMap { s.map with access := a }

/-- R15: MAP ACCESS. -/
def ownMapAccess (operation : Byte) (s : State) : State × Answer :=
  match operation.toNat, s.map.access with
  | 0, .locked => refuse s .mapLocked
  | 1, .locked => refuse s .mapLocked
  | 0, _ => accept (s.withAccess .opened) []
  | 1, _ => accept (s.withAccess .closed) []
  | 2, _ => accept (s.withAccess .locked) []
  | _, _ => refuse s .badValue

end Sys2Proof.Machine
end

