-- ==== Sys2Proof/Machine/ProgramOwner.lean ====
section
/-! DEFINITION. The Program Store as owner of its requests (R26 to R30, R34). -/

namespace Sys2Proof.Machine

/-- Sec. 2.3, Slot requests: the slot number is checked first. -/
def onSlot (slot : Byte) (act : Fin 16 → State × Answer) (s : State) : State × Answer :=
  match indexOf 16 slot with
  | none => refuse s .badValue
  | some k => act k

/-- A taken slot request that moves the slot to a state. -/
def setSlotState (k : Fin 16) (x : SlotState) (s : State) : State × Answer :=
  accept (s.modifySlot k fun p => { p with state := x }) []

/-- R26: DEFINE PROGRAM. -/
def ownDefineProgram (slot : Byte) (qT jMin jMax : Half) (s : State) : State × Answer :=
  match programValuesOf slot qT jMin jMax with
  | none => refuse s .badValue
  | some (k, q, lo, hi) =>
    match s.programs[k].state with
    | .empty => accept (s.modifySlot k fun _ => { state := .opened, refs := 0, qT := q, jMin := lo, jMax := hi }) []
    | .opened => accept (s.modifySlot k fun p => { p with qT := q, jMin := lo, jMax := hi }) []
    | .frozen => refuse s .slotFrozen
    | .withdrawn => refuse s .slotNotAssignable

/-- R34: READ PROGRAM; 0xFF is ALL. -/
def ownReadProgram (slot : Byte) (s : State) : State × Answer :=
  if slot = 0xFF then accept s s.slotsPayload
  else onSlot slot (fun k => accept s (slotPayload k s.programs[k])) s

/-- R27: FREEZE. -/
def ownFreeze (slot : Byte) (s : State) : State × Answer :=
  onSlot slot (fun k => match s.programs[k].state with
    | .opened => setSlotState k .frozen s
    | .frozen => accept s []
    | .empty => refuse s .slotEmpty
    | .withdrawn => refuse s .slotNotAssignable) s

/-- R28: WITHDRAW. -/
def ownWithdraw (slot : Byte) (s : State) : State × Answer :=
  onSlot slot (fun k => match s.programs[k].state with
    | .opened => setSlotState k .withdrawn s
    | .frozen => setSlotState k .withdrawn s
    | .withdrawn => accept s []
    | .empty => refuse s .slotEmpty) s

/-- R29: REINSTATE. -/
def ownReinstate (slot : Byte) (s : State) : State × Answer :=
  onSlot slot (fun k => match s.programs[k].state with
    | .withdrawn => setSlotState k .frozen s
    | .empty => refuse s .slotEmpty
    | .opened => refuse s .wrongState
    | .frozen => refuse s .wrongState) s

/-- R30: ERASE. -/
def ownErase (slot : Byte) (s : State) : State × Answer :=
  onSlot slot (fun k =>
    if 0 < s.programs[k].refs then refuse s .slotInUse
    else accept (s.modifySlot k fun p => { state := .empty, refs := p.refs, qT := 0, jMin := 0, jMax := 0 }) []) s

end Sys2Proof.Machine
end

