-- ==== Sys2Proof/Machine/SystemOwner.lean ====
section
/-! DEFINITION. The Line Supervisor, the Plant Link Interface and the Attention Unit as owners of their requests
(R152 to R158, R176, R177, R179, R180, R184, R186). -/

namespace Sys2Proof.Machine

/-! ### Halt, resume and line reset -/

/-- R152: a halt. The ABORT is posted before the zones are told. -/
def haltLine (s : State) : State :=
  if s.sup.halted then s
  else raise .halt (zoneNumbers.foldl tellHalt (postItem .abort (s.withSup { s.sup with halted := true })))

/-- R153: HALT. -/
def ownHalt (s : State) : State × Answer := accept (haltLine s) []

/-- R154: RESUME. -/
def ownResume (s : State) : State × Answer :=
  if !s.sup.halted then refuse s .wrongState
  else if s.sup.haltNActive then refuse s .wrongState
  else accept (zoneNumbers.foldl tellResume (s.withSup { s.sup with halted := false })) []

/-- R77: a sequencer after a line reset, which keeps the last sequence number. -/
def Sequencer.lineReset (q : Sequencer) : Sequencer := { Sequencer.powerOn with lastSeq := q.lastSeq }

/-- R14, R156: a line reset turns OPEN into CLOSED. -/
def MapAccess.lineReset : MapAccess → MapAccess
  | .opened => .closed
  | .closed => .closed
  | .locked => .locked

/-- R46, R49, R156: a sensor after a line reset. -/
def SensorState.lineReset (n : SensorState) : SensorState := { n with mark := none, ignored := 0 }

/-- R156: the items of the table emptied or cleared, the event flags last. -/
def clearForReset (s : State) : State :=
  { s with
    map := { s.map with access := s.map.access.lineReset }
    programs := Vector.ofFn fun k : Fin 16 => { s.programs[k] with refs := 0 }
    pos := { s.pos with entry := s.pos.entry.lineReset, exit := s.pos.exit.lineReset }
    table := { CarrierTable.powerOn with generations := s.table.generations }
    zones := Vector.ofFn fun z : Fin 16 => s.zones[z].lineReset
    drive := { DriveBus.powerOn with bus := s.drive.bus }
    monitor := Monitor.empty
    attn := s.attn.clearFlags (BitVec.allOnes 18) }

/-- R156, R158: a line reset, with the STOP items that follow it. -/
def resetLineNow (s : State) : State :=
  let t := clearForReset s
  postStops t.map.channelUses none t

/-- R156: RESET LINE. -/
def ownResetLine (s : State) : State × Answer := accept (resetLineNow s) []

/-! ### Station requests -/

/-- R176: the address and group of a SET ADDRESS. -/
def stationOf (address group : Byte) : Option (Nat × Option (Fin 15)) := do
  let a ← inRange 1 239 address
  let g ← indexOrNone 15 group
  some (a, g)

/-- R176: SET ADDRESS. -/
def ownSetAddress (address group : Byte) (s : State) : State × Answer :=
  match stationOf address group with
  | none => refuse s .badValue
  | some (a, g) =>
    accept ((s.withLink { s.link with station := a }).withMap { s.map with line := { s.map.line with group := g } })
      []

/-- R177: READ LINK: the counters are copied into the reply and then set to 0. -/
def ownReadLink (s : State) : State × Answer :=
  accept (s.withLink { s.link with crcErrors := 0, framingErrors := 0, overruns := 0, groupMisuse := 0 })
    s.linkPayload

/-! ### Attention requests -/

/-- R186: READ EVENTS. -/
def ownReadEvents (s : State) : State × Answer := accept s s.eventsPayload

/-- R149: the Monitor's latches and records when these flags are cleared. -/
def Monitor.cleared (m : Monitor) (mask : BitVec 18) : Monitor :=
  { firstMajor := if mask.getLsbD Event.major.bit then none else m.firstMajor
    firstMinor := if mask.getLsbD Event.minor.bit then none else m.firstMinor
    latestMajor := if mask.getLsbD Event.major.bit then none else m.latestMajor
    latestMinor := if mask.getLsbD Event.minor.bit then none else m.latestMinor }

/-- R180: this clear requests the test pulse. -/
def Attention.testPulse (a : Attention) (mask : BitVec 18) : Bool :=
  mask.getLsbD Event.major.bit && !a.isSet .major && a.isEnabled .major

/-- R179, R180: a taken CLEAR EVENTS on the Attention Unit. -/
def Attention.clearBy (a : Attention) (mask : BitVec 18) : Attention :=
  let b := a.clearFlags mask
  if a.testPulse mask then b.requestPulse else b

/-- R179: CLEAR EVENTS. -/
def ownClearEvents (mask : Mask) (s : State) : State × Answer :=
  match flagMaskOf mask with
  | none => refuse s .badValue
  | some m =>
    let t := (s.withAttn (s.attn.clearBy m)).withMonitor (s.monitor.cleared m)
    accept t (flags3 t.attn.flags)

/-- R183, R184: the enables, mode and interval replaced; a changed interval restarts a running reminder timer. -/
def Attention.configure (a : Attention) (enables : BitVec 18) (mode : AttnMode) (interval : Nat) : Attention :=
  Attention.syncReminder { a with
    enables := enables
    mode := mode
    interval := interval
    reminderTimer := if interval = a.interval then a.reminderTimer else none }

/-- R184: SET ATTENTION. -/
def ownSetAttention (mask : Mask) (mode : Byte) (interval : Half) (s : State) : State × Answer :=
  match flagMaskOf mask, attnModeOf mode with
  | some m, some md =>
    let t := s.withAttn (s.attn.configure m md (min interval.toNat 60))
    (t, ⟨if 60 < interval.toNat then .acceptedClamped else .accepted, t.attentionPayload⟩)
  | _, _ => refuse s .badValue

end Sys2Proof.Machine
end

