-- ==== Sys2Proof/Machine/ZoneOwner.lean ====
section
/-! DEFINITION. The Zone Sequencers, the Drive Bus Controller and the Regulation Monitor as owners of their
requests (R84, R85, R102, R137, R150). -/

namespace Sys2Proof.Machine

/-- R84, R135: the miss counter of each of these channels cleared. -/
def clearMisses (channels : List (Fin 32)) (s : State) : State :=
  channels.foldl (fun t c => t.modifyChannel c fun k => { k with misses := 0 }) s

/-- R84: the state a zone enters when it is enabled now. -/
def State.enabledInto (s : State) : ZoneState :=
  if s.sup.halted then .halted
  else match s.pos.motion with
    | .moving => .running
    | .stopped => .protect
    | .parked => .parked

/-- R84: a zone enters its new state; RUNNING and PROTECT build the first snapshot. -/
def enterState (z : Fin 16) (state : ZoneState) (s : State) : State :=
  match state with
  | .running => enterService z .running s
  | .protect => enterService z .protect s
  | other => s.modifyZone z fun q => { q with state := other }

/-- R84, check 2: the zone is RUNNING, PROTECT, PARKED or HALTED. -/
def ZoneState.refusesEnable : ZoneState → Bool
  | .disabled => false
  | .faulted => false
  | _ => true

/-- R84: ENABLE ZONE. The first snapshot's computation may raise LIMITED (assumption 23). -/
def ownEnableZone (zone : Byte) (s : State) : State × Answer :=
  match indexOf 16 zone with
  | none => refuse s .badValue
  | some z =>
    if s.zones[z].state.refusesEnable then refuse s .wrongState
    else if !s.map.enableable z then refuse s .mapInvalid
    else accept (enterState z s.enabledInto (clearMisses s.map.zones[z].channels s)) (nat1 s.enabledInto.code)

/-- R85: DISABLE ZONE. The releases of what it discards may raise SHORTFALL (assumption 23). -/
def ownDisableZone (zone : Byte) (s : State) : State × Answer :=
  match indexOf 16 zone with
  | none => refuse s .badValue
  | some z => if s.zones[z].state = .disabled then accept s [] else accept (leaveService z .disabled s) []

/-- R102: READ ZONE. -/
def ownReadZone (zone : Byte) (s : State) : State × Answer :=
  match indexOf 16 zone with
  | none => refuse s .badValue
  | some z => accept s (s.zonePayload z)

/-- R137: the channel number and clear option of a READ CHANNEL. -/
def channelReadOf (channel clear : Byte) : Option (Fin 32 × Bool) := do
  let c ← indexOf 32 channel
  let b ← flagOf clear
  some (c, b)

/-- R137: READ CHANNEL. -/
def ownReadChannel (channel clear : Byte) (s : State) : State × Answer :=
  match channelReadOf channel clear with
  | none => refuse s .badValue
  | some (c, true) => accept (s.modifyChannel c fun k => { k with stale := 0 }) (s.channelPayload c)
  | some (c, false) => accept s (s.channelPayload c)

/-- R150: READ FAULTS. -/
def ownReadFaults (s : State) : State × Answer := accept s s.faultsPayload

end Sys2Proof.Machine
end

