-- ==== Sys2Proof/Machine/Receiver.lean ====
section
/-! DEFINITION. The receiver of the plant link (ch. 10): its counters, the judgement of a complete frame, the
delivery of a request to its owner, and the reply. -/

namespace Sys2Proof.Machine

/-- R170: the owner of a request takes it, in one event. -/
def serve : Request → State → State × Answer
  | .setZone f => ownSetZone f
  | .setChannel c iF iR => ownSetChannel c iF iR
  | .setLine f => ownSetLine f
  | .setProfile f => ownSetProfile f
  | .readMap selector item => ownReadMap selector item
  | .mapAccess operation => ownMapAccess operation
  | .defineProgram slot qT jMin jMax => ownDefineProgram slot qT jMin jMax
  | .readProgram slot => ownReadProgram slot
  | .freeze slot => ownFreeze slot
  | .withdraw slot => ownWithdraw slot
  | .reinstate slot => ownReinstate slot
  | .erase slot => ownErase slot
  | .setSpeed speed => ownSetSpeed speed
  | .readPosition clear => ownReadPosition clear
  | .announce f => ownAnnounce f
  | .cancelAnnouncement tag => ownCancel tag
  | .lookup selector key => ownLookup selector key
  | .amend f => ownAmend f
  | .identify index generation tag slot => ownIdentify index generation tag slot
  | .place f => ownPlace f
  | .retire selector key => ownRetire selector key
  | .walkFirst => ownWalkFirst
  | .walkNext => ownWalkNext
  | .readQueue => ownReadQueue
  | .enableZone zone => ownEnableZone zone
  | .disableZone zone => ownDisableZone zone
  | .readZone zone => ownReadZone zone
  | .readChannel channel clear => ownReadChannel channel clear
  | .readFaults => ownReadFaults
  | .halt => ownHalt
  | .resume => ownResume
  | .resetLine => ownResetLine
  | .setAddress address group => ownSetAddress address group
  | .readLink => ownReadLink
  | .readEvents => ownReadEvents
  | .clearEvents mask => ownClearEvents mask
  | .setAttention mask mode interval => ownSetAttention mask mode interval

/-! ### Receiver state and counters (R165, R175) -/

/-- R165: the receiver enters a state. -/
def State.withReceiver (s : State) (r : Receiver) : State := s.withLink { s.link with receiver := r }

/-- R169: a CRC error is counted and LINK raised. -/
def countCrc (s : State) : State :=
  raise .link (s.withLink { s.link with crcErrors := satAdd Config.byteTop s.link.crcErrors 1 })

/-- R167, R168: a parity/framing error is counted and LINK raised. -/
def countFraming (s : State) : State :=
  raise .link (s.withLink { s.link with framingErrors := satAdd Config.byteTop s.link.framingErrors 1 })

/-- R171: a group misuse is counted and LINK raised. -/
def countMisuse (s : State) : State :=
  raise .link (s.withLink { s.link with groupMisuse := satAdd Config.byteTop s.link.groupMisuse 1 })

/-- R172: an overrun is counted and LINK raised. -/
def countOverrun (s : State) : State :=
  raise .link (s.withLink { s.link with overruns := satAdd Config.byteTop s.link.overruns 1 })

/-- R172: a character, or by R168 a break, in REPLY before the reply has begun: the first one counts. In every
other receiver state, and while the reply is sent, nothing is taken. -/
def overrunNow (s : State) : State :=
  match s.link.receiver with
  | .reply r false false => countOverrun (s.withReceiver (.reply r false true))
  | _ => s

/-- R167: the frame in FRAME is abandoned. -/
def abandonFrame (s : State) : State := countFraming (s.withReceiver .hunt)

/-- R167, R168: what is kept of a break, replaced. -/
def State.withLineBreak (s : State) (b : LineBreak) : State := s.withLink { s.link with lineBreak := b }

/-- R162, R168: a character has come in HUNT. Its start bit fell from the idle level, so the line had left the level
of the stop bit that abandoned a frame (assumption 8). -/
def LineBreak.afterCharacter : LineBreak → LineBreak
  | .begun => .clear
  | other => other

/-- R162, R168: the state after a character has come in HUNT. -/
def State.heard (s : State) : State := s.withLineBreak s.link.lineBreak.afterCharacter

/-- R167: a character whose stop bit read at the break level has abandoned a frame. -/
def LineBreak.afterStopError : LineBreak → LineBreak
  | .counted => .counted
  | _ => .begun

/-- R167: a frame abandoned on a stop bit at the break level: the break that may follow counts no further. -/
def abandonOnBreak (s : State) : State := abandonFrame (s.withLineBreak s.link.lineBreak.afterStopError)

/-- R162: LINK_DE is high. -/
def State.linkDe (s : State) : Bool :=
  match s.link.receiver with
  | .reply _ true _ => !s.inReset
  | _ => false

/-- R122: DRV_DE is high. -/
def State.drvDe (s : State) : Bool :=
  match s.drive.bus with
  | some t => t.phase == .sending && !s.inReset
  | none => false

/-! ### Judging a complete frame (R169 to R173) -/

/-- R169: what an address is to this station. -/
inductive Addressing where
  | own
  | group
  | other
  deriving DecidableEq, Repr

/-- R169: the address read against the station address and the group number in force. -/
def State.addressing (s : State) (addr : Byte) : Addressing :=
  if addr.toNat = s.link.station then .own
  else if addr = 0xFF then .group
  else match s.map.line.group with
    | some g => if addr.toNat = 0xF0 + g.val then .group else .other
    | none => .other

/-- R173: the reply to a request at this address with this code, formed of a result and the part as it then
stands (R174). -/
def State.replyWith (s : State) (addr code : Byte) (a : Answer) : Reply :=
  { address := addr, code := code + 0x80, result := a.result, status1 := s.status1, status2 := s.status2,
    payload := a.payload }

/-- R170, R172: the receiver enters REPLY, with the reply that will be sent. -/
def enterReply (addr code : Byte) (sa : State × Answer) : State :=
  sa.1.withReceiver (.reply (sa.1.replyWith addr code sa.2) false false)

/-- R169, R171: a frame ends with nothing to send. -/
def endFrame (s : State) : State := s.withReceiver .hunt

/-- R170: an addressed request is handed to its owner and answered. -/
def takeAddressed (addr : Byte) (r : Request) (s : State) : State := enterReply addr (requestCode r) (serve r s)

/-- R171: a group or broadcast request is taken without an answer, or is group misuse. -/
def takeGroup (r : Request) (s : State) : State :=
  if groupTaken r then endFrame (serve r s).1 else endFrame (countMisuse s)

/-- R169 step 3, R170, R171: a whole frame with a good CRC that holds this request, sent to this address. -/
def deliver (addr : Byte) (r : Request) (s : State) : State :=
  match s.addressing addr with
  | .own => takeAddressed addr r s
  | .group => takeGroup r s
  | .other => endFrame s

/-- R170: an addressed frame that holds no request is refused by the Plant Link Interface. -/
def refuseAddressed (addr code : Byte) (result : Result) (s : State) : State :=
  enterReply addr code (refuse s result)

/-- R169 step 3 for a frame that holds no request of the table at an allowed length. -/
def rejectUnparsed (addr code : Byte) (result : Result) (s : State) : State :=
  match s.addressing addr with
  | .own => refuseAddressed addr code result s
  | .group => endFrame (countMisuse s)
  | .other => endFrame s

/-- R169: a complete frame is judged. -/
def judgeFrame (frame : List Byte) (s : State) : State :=
  match frame with
  | _start :: addr :: _length :: code :: rest =>
    if !crcGood frame.tail then endFrame (countCrc s)
    else if 0x80 ≤ code.toNat then endFrame s
    else match parseRequest code (rest.take (rest.length - 2)) with
      | .unknownRequest => rejectUnparsed addr code .unknownRequest s
      | .badLength => rejectUnparsed addr code .badLength s
      | .request r => deliver addr r s
  | _ => endFrame s

/-! ### Characters (R165, R166) -/

/-- R166: a frame of these characters has its last one. -/
def frameComplete (got : List Byte) : Bool :=
  match got with
  | _start :: _address :: length :: rest => rest.length == length.toNat + 2
  | _ => false

/-- R166, R167: the third character has come and is no length. -/
def badLengthCharacter (got : List Byte) : Bool :=
  match got with
  | [_start, _address, length] => decide (length.toNat = 0) || decide (251 ≤ length.toNat)
  | _ => false

/-- R166: a character is taken into the frame. -/
def takeIntoFrame (got : List Byte) (s : State) : State :=
  if badLengthCharacter got then abandonFrame s
  else if frameComplete got then judgeFrame got s
  else s.withReceiver (.frame got)

/-- R162, R165: the character has neither a parity error nor a stop error. -/
def goodCharacter (c : Character) : Bool := !parityError c && !stopError c

/-- R165: a character in HUNT: a good start byte opens a frame, any other is discarded. -/
def huntCharacter (c : Character) (s : State) : State :=
  let t := s.heard
  if goodCharacter c && c.data == 0xC3 then t.withReceiver (.frame [0xC3]) else t

/-- R166, R167: a character in FRAME: one with an error abandons the frame. -/
def frameCharacter (got : List Byte) (c : Character) (s : State) : State :=
  if stopError c then abandonOnBreak s
  else if parityError c then abandonFrame s
  else takeIntoFrame (got ++ [c.data]) s

/-- R165, R167, R172: a character is received. -/
def receiveCharacter (c : Character) (s : State) : State :=
  match s.link.receiver with
  | .hunt => huntCharacter c s
  | .frame got => frameCharacter got c s
  | .reply _ _ _ => overrunNow s

/-- A command that stands for the last character of a whole frame, the earlier ones included where the receiver has
not taken them (assumption 4): from HUNT, and from a FRAME whose characters begin this one, the frame is complete
and its outcome follows, a start byte in HUNT having been heard; in REPLY its characters are lost as R172 gives; it
cannot come where another frame is being followed. -/
def arriving (frame : List Byte) (outcome : State → State) (s : State) : State :=
  match s.link.receiver with
  | .hunt => (outcome s).heard
  | .frame got => if got.isPrefixOf frame then outcome s else s
  | .reply _ _ _ => overrunNow s

/-- The frame of a request arrives. -/
def requestArrives (addr : Byte) (r : Request) (s : State) : State :=
  arriving (requestFrame addr r) (deliver addr r) s

end Sys2Proof.Machine
end

