-- ==== Sys2Proof/Machine/CarrierRequests.lean ====
section
/-! DEFINITION. The requests of the plant link to the Position Tracker and the Carrier Table (ch. 3, 4), as commands: the request's frame
arrives (R169 to R171), and its owner's step is in the owner's file. -/

namespace Sys2Proof.Machine

/-- R43: SET_SPEED. -/
def execSetSpeed (addr : Byte) (speed : Half) (s : State) : Host.Outcome State Fault Refusal :=
  s.takes (requestArrives addr (.setSpeed speed))

/-- R53: READ_POSITION. -/
def execReadPosition (addr clear : Byte) (s : State) : Host.Outcome State Fault Refusal :=
  s.takes (requestArrives addr (.readPosition clear))

/-- R59: ANNOUNCE. -/
def execAnnounce (addr : Byte) (f : AnnounceFields) (s : State) : Host.Outcome State Fault Refusal :=
  s.takes (requestArrives addr (.announce f))

/-- R60: CANCEL_ANNOUNCEMENT. -/
def execCancelAnnouncement (addr : Byte) (tag : Half) (s : State) : Host.Outcome State Fault Refusal :=
  s.takes (requestArrives addr (.cancelAnnouncement tag))

/-- R68: LOOKUP. -/
def execLookup (addr selector : Byte) (key : Long) (s : State) : Host.Outcome State Fault Refusal :=
  s.takes (requestArrives addr (.lookup selector key))

/-- R69: AMEND. -/
def execAmend (addr : Byte) (f : AmendFields) (s : State) : Host.Outcome State Fault Refusal :=
  s.takes (requestArrives addr (.amend f))

/-- R70: IDENTIFY. -/
def execIdentify (addr index generation : Byte) (tag : Half) (slot : Option Byte) (s : State) : Host.Outcome State Fault Refusal :=
  s.takes (requestArrives addr (.identify index generation tag slot))

/-- R71: PLACE. -/
def execPlace (addr : Byte) (f : PlaceFields) (s : State) : Host.Outcome State Fault Refusal :=
  s.takes (requestArrives addr (.place f))

/-- R72: RETIRE. -/
def execRetire (addr selector : Byte) (key : Half) (s : State) : Host.Outcome State Fault Refusal :=
  s.takes (requestArrives addr (.retire selector key))

/-- R74: WALK_FIRST. -/
def execWalkFirst (addr : Byte) (s : State) : Host.Outcome State Fault Refusal :=
  s.takes (requestArrives addr .walkFirst)

/-- R74: WALK_NEXT. -/
def execWalkNext (addr : Byte) (s : State) : Host.Outcome State Fault Refusal :=
  s.takes (requestArrives addr .walkNext)

/-- R75: READ_QUEUE. -/
def execReadQueue (addr : Byte) (s : State) : Host.Outcome State Fault Refusal :=
  s.takes (requestArrives addr .readQueue)

end Sys2Proof.Machine
end

