-- ==== Sys2Proof/Machine/DriveEvents.lean ====
section
/-! DEFINITION. The events of the drive bus (sec. 7.1, 7.4, 7.5). Each acts on the transaction on the bus; where no
transaction is in the phase it belongs to, what arrives is received and discarded (R132). -/

namespace Sys2Proof.Machine

/-- The transaction on the bus enters a phase. -/
def State.withBusPhase (s : State) (t : Transaction) (p : BusPhase) : State :=
  s.withDrive { s.drive with bus := some { t with phase := p } }

/-- R122, R131, R132: the last character of the frame on the bus is sent. A MARK or ABORT transaction ends; an
ORDER or STOP starts its reply window. -/
def frameSent (s : State) : State :=
  match s.drive.bus with
  | some t =>
    if t.phase = .sending then
      match t.item.addressee with
      | none => endTransaction s
      | some _ => s.withBusPhase t .waiting
    else s
  | none => s

/-- R122: DRIVE_FRAME_SENT. -/
def execDriveFrameSent (s : State) : Host.Outcome State Fault Refusal := s.takes frameSent

/-- R132: the first character of a frame begins within the reply window. -/
def replyBegun (s : State) : State :=
  match s.drive.bus with
  | some t => if t.phase = .waiting then s.withBusPhase t .receiving else s
  | none => s

/-- R132: REPLY_BEGINS. -/
def execReplyBegins (s : State) : Host.Outcome State Fault Refusal := s.takes replyBegun

/-- R132, R133: the ORDER or STOP transaction that can take a reply frame, and the channel it addresses. A
transaction that still waits counts too: the frame's end then stands for its beginning as well (assumption 4). -/
def State.awaiting (s : State) : Option (DriveItem × Fin 32) :=
  match s.drive.bus with
  | some t => if t.phase = .sending then none else t.item.addressee.map fun c => (t.item, c)
  | none => none

/-- R133: the frame received is judged, and the transaction ends by R134 or R135. -/
def endByJudgement (item : DriveItem) (c : Fin 32) (j : ReplyJudgement) (s : State) : State :=
  match j with
  | .good status readbacks => goodEnd item c status readbacks s
  | .wrongChannel => badEnd item c .wrongChannel s
  | .garbled => badEnd item c .garbled s

/-- R133: the last character of a reply frame is received. -/
def replyEnds (data : List Byte) (parity : List Bool) (s : State) : State :=
  match s.awaiting with
  | some (item, c) => endByJudgement item c (judgeReply data parity c) s
  | none => s

/-- R133: REPLY_FRAME_END. -/
def execReplyFrameEnd (data : List Byte) (parity : List Bool) (s : State) : Host.Outcome State Fault Refusal :=
  s.takes (replyEnds data parity)

/-- R132, R133: the reply frame is broken off. -/
def replyBreaksOff (s : State) : State :=
  match s.awaiting with
  | some (item, c) => badEnd item c .garbled s
  | none => s

/-- R132: REPLY_BROKEN_OFF. -/
def execReplyBrokenOff (s : State) : Host.Outcome State Fault Refusal := s.takes replyBreaksOff

/-- R132: no character has begun by the end of the reply window. Once a frame has begun, the window's end no longer
ends the transaction. -/
def windowEnds (s : State) : State :=
  match s.drive.bus with
  | some t =>
    if t.phase = .waiting then
      match t.item.addressee with
      | some c => badEnd t.item c .missing s
      | none => s
    else s
  | none => s

/-- R132: REPLY_WINDOW_END. -/
def execReplyWindowEnd (s : State) : Host.Outcome State Fault Refusal := s.takes windowEnds

end Sys2Proof.Machine
end

