-- ==== Sys2Proof/Machine/LinkEvents.lean ====
section
/-! DEFINITION. The events of the plant link (sec. 10.3, 10.7). -/

namespace Sys2Proof.Machine

/-- R169: COMPLETE_FRAME. -/
def execCompleteFrame (frame : List Byte) (s : State) : Host.Outcome State Fault Refusal :=
  s.takes fun s => if wholeLinkFrame frame then arriving frame (judgeFrame frame) s else s

/-- R165, R166: CHARACTER_RECEIVED. -/
def execCharacterReceived (data : Byte) (parity stop : Bool) (s : State) : Host.Outcome State Fault Refusal :=
  s.takes (receiveCharacter { data := data, parity := parity, stop := stop })

/-- R167: the frame in FRAME is abandoned; outside FRAME there is none. After a stop bit at the break level the break
that may follow counts no further. -/
def abandonFor (cause : AbandonCause) (s : State) : State :=
  match s.link.receiver, cause with
  | .frame _, .stopError => abandonOnBreak s
  | .frame _, .breakBegins => abandonOnBreak s
  | .frame _, .parityError => abandonFrame s
  | .frame _, .badLength => abandonFrame s
  | _, _ => s

/-- R167: ABANDONMENT. -/
def execAbandonment (cause : AbandonCause) (s : State) : Host.Outcome State Fault Refusal :=
  s.takes (abandonFor cause)

/-- R167: the gap timer expires; it runs in FRAME alone. -/
def gapExpires (s : State) : State :=
  match s.link.receiver with
  | .frame _ => abandonFrame s
  | _ => s

/-- R167: GAP. -/
def execGap (s : State) : Host.Outcome State Fault Refusal := s.takes gapExpires

/-- R168: what a break does in each receiver state. It is counted once until the line has returned to idle; in HUNT,
one whose first character has abandoned a frame counts nothing more. In FRAME the abandonment of the character that
began it comes with it, and with it the count of R167 (assumption 8). -/
def countBreak (s : State) : State :=
  match s.link.receiver, s.link.lineBreak with
  | .frame _, _ => abandonFrame s
  | _, .counted => s
  | .hunt, .begun => s
  | .hunt, .clear => countFraming s
  | .reply _ _ _, _ => overrunNow s

/-- R168: a break reaches 2 character times. -/
def breakReached (s : State) : State := (countBreak s).withLineBreak .counted

/-- R168: BREAK. -/
def execLineBreak (s : State) : Host.Outcome State Fault Refusal := s.takes breakReached

/-- R168: LINE_RETURNS_TO_IDLE. -/
def execLineReturnsToIdle (s : State) : Host.Outcome State Fault Refusal := s.takes fun s => s.withLineBreak .clear

/-- R172: OVERRUN. -/
def execOverrun (s : State) : Host.Outcome State Fault Refusal := s.takes overrunNow

/-- R172: the turnaround ends and the reply begins. -/
def turnaroundEnds (s : State) : State :=
  match s.link.receiver with
  | .reply r false counted => s.withReceiver (.reply r true counted)
  | _ => s

/-- R172: TURNAROUND. -/
def execTurnaround (s : State) : Host.Outcome State Fault Refusal := s.takes turnaroundEnds

/-- R172: the last stop bit of the reply ends. -/
def replyHasGone (s : State) : State :=
  match s.link.receiver with
  | .reply _ true _ => s.withReceiver .hunt
  | _ => s

/-- R172: REPLY_SENT. -/
def execReplySent (s : State) : Host.Outcome State Fault Refusal := s.takes replyHasGone

end Sys2Proof.Machine
end

