-- ==== Sys2Proof/Machine/MapRequests.lean ====
section
/-! DEFINITION. The requests of the plant link to the Line Map (ch. 1, R21), as commands: the request's frame
arrives (R169 to R171), and its owner's step is in the owner's file. -/

namespace Sys2Proof.Machine

/-- R17: SET_ZONE. -/
def execSetZone (addr : Byte) (f : ZoneFields) (s : State) : Host.Outcome State Fault Refusal :=
  s.takes (requestArrives addr (.setZone f))

/-- R5: SET_CHANNEL. -/
def execSetChannel (addr channel : Byte) (iFmax iRmax : Half) (s : State) : Host.Outcome State Fault Refusal :=
  s.takes (requestArrives addr (.setChannel channel iFmax iRmax))

/-- R6: SET_LINE. -/
def execSetLine (addr : Byte) (f : LineFields) (s : State) : Host.Outcome State Fault Refusal :=
  s.takes (requestArrives addr (.setLine f))

/-- R21: SET_PROFILE. -/
def execSetProfile (addr : Byte) (f : ProfileFields) (s : State) : Host.Outcome State Fault Refusal :=
  s.takes (requestArrives addr (.setProfile f))

/-- R18: READ_MAP. -/
def execReadMap (addr selector item : Byte) (s : State) : Host.Outcome State Fault Refusal :=
  s.takes (requestArrives addr (.readMap selector item))

/-- R15: MAP_ACCESS. -/
def execMapAccess (addr operation : Byte) (s : State) : Host.Outcome State Fault Refusal :=
  s.takes (requestArrives addr (.mapAccess operation))

end Sys2Proof.Machine
end

