-- ==== Sys2Proof/Machine/PlantEvents.lean ====
section
/-! DEFINITION. The events of the conveyor, the sensors, the stop circuit, the reset pin and the zones' timers. -/

namespace Sys2Proof.Machine

/-! ### Reset (R160, R161) -/

/-- R161: the station address of a strap value. -/
def strapStation (addr : Byte) : Nat := if 1 ≤ addr.toNat ∧ addr.toNat ≤ 239 then addr.toNat else 239

/-- R160, R161: every block at its power-on values, with the straps and the input levels as sampled; the queue of
waiting commands is not the part's. -/
def powerOnState (pins : Pins) (waiting : List Instr) : State :=
  { State.reset with
    pos := Position.powerOn pins.encA pins.encB pins.entryHigh pins.exitHigh
    link := PlantLink.powerOn (strapStation pins.addr) pins.baud
    sup := { halted := false, haltNActive := !pins.haltNHigh }
    pending := waiting }

/-- R160: POWER_ON_RESET. With HALT_N active the line is halted by R152. -/
def execPowerOnReset (pins : Pins) (s : State) : Host.Outcome State Fault Refusal :=
  .next (if pins.haltNHigh then powerOnState pins s.pending else haltLine (powerOnState pins s.pending))

/-- R160: what RESET_N going low cuts short on the two links. -/
def State.cutShort (s : State) : State :=
  (s.withLink { s.link with receiver := .hunt }).withDrive { s.drive with bus := none }

/-- R160: RESET_N_LOW. The blocks take their power-on values when RESET_N goes high (assumption 9). -/
def execResetNLow (s : State) : Host.Outcome State Fault Refusal := .next { s.cutShort with inReset := true }

/-! ### The encoder (R35 to R39) -/

/-- R35: the state of the pair after a step in a sense. -/
def nextPair (sense : QuadSense) (a b : Bool) : Bool × Bool :=
  match sense with
  | .aLeads => if a == b then (!a, b) else (a, !b)
  | .bLeads => if a == b then (a, !b) else (!a, b)

/-- R35: whether a step in a sense is a forward one under the encoder sense setting. -/
def stepsForward (swapped : Bool) (sense : QuadSense) : Bool :=
  match sense with
  | .aLeads => !swapped
  | .bLeads => swapped

/-- R35, R36: the pair, the pulse count and the direction after a step. -/
def Position.stepped (p : Position) (swapped : Bool) (sense : QuadSense) : Position :=
  let pair := nextPair sense p.encA p.encB
  let forward := stepsForward swapped sense
  { p with
    encA := pair.1
    encB := pair.2
    count := if forward then p.count + 1 else p.count - 1
    direction := if forward then .forward else .reverse }

/-- R39: the travel since the stop meets the resume distance. -/
def resumes (line : LineSettings) (count mark : Count) : Bool :=
  decide (line.resumeDistance * line.scale ≤ (pulsesBetween count mark).natAbs * 1000)

/-- R39: the motion state becomes MOVING. -/
def resumeMotion (s : State) : State :=
  changeMotion .moving (s.withPos { s.pos with
    motion := .moving, stopMark := none, parkTimer := none, stopTimer := some s.map.line.stopTime })

/-- R38, R39: what a pulse does to the motion state: it restarts the stop timer, or is tested for resumption. -/
def pulseMotion (s : State) : State :=
  match s.pos.motion, s.pos.stopMark with
  | .moving, _ => s.withPos { s.pos with stopTimer := some s.map.line.stopTime }
  | _, some mark => if resumes s.map.line s.pos.count mark then resumeMotion s else s
  | _, none => s

/-- R35 to R39, R50 to R52: a valid quadrature step, taken whole. -/
def encoderStep (sense : QuadSense) (s : State) : State :=
  exitWindowWatchAll (platingEndWatchAll (pulseMotion
    (s.withPos (s.pos.stepped s.map.line.swapped sense))))

/-- R35: ENCODER_PULSE. -/
def execEncoderPulse (sense : QuadSense) (s : State) : Host.Outcome State Fault Refusal :=
  s.takes (encoderStep sense)

/-- R35: SKIPPED_STATE. -/
def execSkippedState (s : State) : Host.Outcome State Fault Refusal :=
  s.takes fun s => s.withPos { s.pos with encA := !s.pos.encA, encB := !s.pos.encB }

/-! ### The motion timers (R38, R40) -/

/-- R38: the stop timer expires. -/
def stopTimerExpires (s : State) : State :=
  match s.pos.motion, s.pos.stopTimer with
  | .moving, some _ => changeMotion .stopped (s.withPos { s.pos with
      motion := .stopped, stopMark := some s.pos.count, stopTimer := none, parkTimer := some s.map.line.parkTime })
  | _, _ => s

/-- R38: STOP_TIMER_EXPIRY. -/
def execStopTimerExpiry (s : State) : Host.Outcome State Fault Refusal := s.takes stopTimerExpires

/-- R40: the park timer expires. -/
def parkTimerExpires (s : State) : State :=
  match s.pos.motion, s.pos.parkTimer with
  | .stopped, some _ => changeMotion .parked (s.withPos { s.pos with motion := .parked, parkTimer := none })
  | _, _ => s

/-- R40: PARK_TIMER_EXPIRY. -/
def execParkTimerExpiry (s : State) : Host.Outcome State Fault Refusal := s.takes parkTimerExpires

/-! ### The sensors (R44 to R49) -/

/-- The state of one sensor. -/
def Position.sensor (p : Position) : Sensor → SensorState
  | .entry => p.entry
  | .exit => p.exit

/-- The state of one sensor, replaced. -/
def Position.withSensor (p : Position) (which : Sensor) (n : SensorState) : Position :=
  match which with
  | .entry => { p with entry := n }
  | .exit => { p with exit := n }

/-- R6: the edge setting of one sensor. -/
def LineSettings.edge (l : LineSettings) : Sensor → Edge
  | .entry => l.entryEdge
  | .exit => l.exitEdge

/-- R44: the level of an input after an edge. -/
def Edge.levelAfter : Edge → Bool
  | .rising => true
  | .falling => false

/-- R46: the hold-off mark ignores an edge taken now. -/
def State.heldOff (s : State) (mark : Option (Count × Nat)) : Bool :=
  match mark with
  | none => false
  | some (c, d) => decide (positionDifference s.map.line.scale s.pos.count c < d)

/-- R45, R46: the edge passes both filters. -/
def State.acceptsEdge (s : State) (which : Sensor) : Bool :=
  s.pos.direction == .forward && !s.heldOff (s.pos.sensor which).mark

/-- R47, R48: the arrival an accepted edge hands the Carrier Table. -/
def arrival : Sensor → State → State
  | .entry => entryArrival
  | .exit => exitArrival

/-- R44 to R49: a selected edge is filtered, and accepted or counted as ignored. -/
def takeEdge (which : Sensor) (s : State) : State :=
  let n := s.pos.sensor which
  let high := (s.map.line.edge which).levelAfter
  if s.acceptsEdge which then
    arrival which (s.withPos (s.pos.withSensor which
      { n with high := high, mark := some (s.pos.count, s.map.line.holdOff) }))
  else s.withPos (s.pos.withSensor which
    { n with high := high, ignored := satAdd Config.byteTop n.ignored 1 })

/-- R44: SENSOR_EDGE. -/
def execSensorEdge (which : Sensor) (s : State) : Host.Outcome State Fault Refusal := s.takes (takeEdge which)

/-- R44: SENSOR_OTHER_EDGE. -/
def execSensorOtherEdge (which : Sensor) (s : State) : Host.Outcome State Fault Refusal :=
  s.takes fun s => s.withPos (s.pos.withSensor which
    { s.pos.sensor which with high := !(s.map.line.edge which).levelAfter })

/-! ### The stop circuit (R152) -/

/-- R152: HALT_N_ACTIVE. -/
def execHaltNActive (s : State) : Host.Outcome State Fault Refusal :=
  s.takes fun s => haltLine (s.withSup { s.sup with haltNActive := true })

/-- R152: HALT_N_INACTIVE. -/
def execHaltNInactive (s : State) : Host.Outcome State Fault Refusal :=
  s.takes fun s => s.withSup { s.sup with haltNActive := false }

/-! ### The zones' timers (R81, R88, R91) -/

/-- R81: the period timer of a RUNNING or PROTECT zone expires; in another state no period timer runs. -/
def periodTimerExpires (z : Fin 16) (s : State) : State :=
  match s.zones[z].state, s.zones[z].periodTimer with
  | .running, some _ => takeBoundary z s
  | .protect, some _ => takeBoundary z s
  | _, _ => s

/-- R81: PERIOD_BOUNDARY. -/
def execPeriodBoundary (zone : Fin 16) (s : State) : Host.Outcome State Fault Refusal :=
  s.takes (periodTimerExpires zone)

/-- R88, R91, R151: a running restart timer expires; while HALTED is set no zone leaves HALTED by it. -/
def restartTimerExpires (z : Fin 16) (s : State) : State :=
  match s.zones[z].restartTimer with
  | none => s
  | some _ =>
    if s.sup.halted then s.modifyZone z fun q => { q with restartTimer := none } else restartExpires z s

/-- R88, R91: RESTART_TIMER_EXPIRY. -/
def execRestartTimerExpiry (zone : Fin 16) (s : State) : Host.Outcome State Fault Refusal :=
  s.takes (restartTimerExpires zone)

end Sys2Proof.Machine
end

