-- ==== Sys2Proof/Machine/ProgramRequests.lean ====
section
/-! DEFINITION. The requests of the plant link to the Program Store (sec. 2.3), as commands: the request's frame
arrives (R169 to R171), and its owner's step is in the owner's file. -/

namespace Sys2Proof.Machine

/-- R26: DEFINE_PROGRAM. -/
def execDefineProgram (addr slot : Byte) (qT jMin jMax : Half) (s : State) : Host.Outcome State Fault Refusal :=
  s.takes (requestArrives addr (.defineProgram slot qT jMin jMax))

/-- R34: READ_PROGRAM. -/
def execReadProgram (addr slot : Byte) (s : State) : Host.Outcome State Fault Refusal :=
  s.takes (requestArrives addr (.readProgram slot))

/-- R27: FREEZE. -/
def execFreeze (addr slot : Byte) (s : State) : Host.Outcome State Fault Refusal :=
  s.takes (requestArrives addr (.freeze slot))

/-- R28: WITHDRAW. -/
def execWithdraw (addr slot : Byte) (s : State) : Host.Outcome State Fault Refusal :=
  s.takes (requestArrives addr (.withdraw slot))

/-- R29: REINSTATE. -/
def execReinstate (addr slot : Byte) (s : State) : Host.Outcome State Fault Refusal :=
  s.takes (requestArrives addr (.reinstate slot))

/-- R30: ERASE. -/
def execErase (addr slot : Byte) (s : State) : Host.Outcome State Fault Refusal :=
  s.takes (requestArrives addr (.erase slot))

end Sys2Proof.Machine
end

