-- ==== Sys2Proof/Machine/SystemRequests.lean ====
section
/-! DEFINITION. The requests of the plant link to the Line Supervisor, the Plant Link Interface and the Attention Unit (ch. 9 to 11), as commands: the request's frame
arrives (R169 to R171), and its owner's step is in the owner's file. -/

namespace Sys2Proof.Machine

/-- R153: HALT. -/
def execHalt (addr : Byte) (s : State) : Host.Outcome State Fault Refusal :=
  s.takes (requestArrives addr .halt)

/-- R154: RESUME. -/
def execResume (addr : Byte) (s : State) : Host.Outcome State Fault Refusal :=
  s.takes (requestArrives addr .resume)

/-- R156: RESET_LINE. -/
def execResetLine (addr : Byte) (s : State) : Host.Outcome State Fault Refusal :=
  s.takes (requestArrives addr .resetLine)

/-- R176: SET_ADDRESS. -/
def execSetAddress (addr address group : Byte) (s : State) : Host.Outcome State Fault Refusal :=
  s.takes (requestArrives addr (.setAddress address group))

/-- R177: READ_LINK. -/
def execReadLink (addr : Byte) (s : State) : Host.Outcome State Fault Refusal :=
  s.takes (requestArrives addr .readLink)

/-- R186: READ_EVENTS. -/
def execReadEvents (addr : Byte) (s : State) : Host.Outcome State Fault Refusal :=
  s.takes (requestArrives addr .readEvents)

/-- R179: CLEAR_EVENTS. -/
def execClearEvents (addr : Byte) (mask : Mask) (s : State) : Host.Outcome State Fault Refusal :=
  s.takes (requestArrives addr (.clearEvents mask))

/-- R184: SET_ATTENTION. -/
def execSetAttention (addr : Byte) (mask : Mask) (mode : Byte) (interval : Half) (s : State) : Host.Outcome State Fault Refusal :=
  s.takes (requestArrives addr (.setAttention mask mode interval))

end Sys2Proof.Machine
end

