-- ==== Sys2Proof/Machine/ZoneRequests.lean ====
section
/-! DEFINITION. The requests of the plant link to the Zone Sequencers, the Drive Bus Controller and the Regulation Monitor (R84, R85, R102, R137, R150), as commands: the request's frame
arrives (R169 to R171), and its owner's step is in the owner's file. -/

namespace Sys2Proof.Machine

/-- R84: ENABLE_ZONE. -/
def execEnableZone (addr zone : Byte) (s : State) : Host.Outcome State Fault Refusal :=
  s.takes (requestArrives addr (.enableZone zone))

/-- R85: DISABLE_ZONE. -/
def execDisableZone (addr zone : Byte) (s : State) : Host.Outcome State Fault Refusal :=
  s.takes (requestArrives addr (.disableZone zone))

/-- R102: READ_ZONE. -/
def execReadZone (addr zone : Byte) (s : State) : Host.Outcome State Fault Refusal :=
  s.takes (requestArrives addr (.readZone zone))

/-- R137: READ_CHANNEL. -/
def execReadChannel (addr channel clear : Byte) (s : State) : Host.Outcome State Fault Refusal :=
  s.takes (requestArrives addr (.readChannel channel clear))

/-- R150: READ_FAULTS. -/
def execReadFaults (addr : Byte) (s : State) : Host.Outcome State Fault Refusal :=
  s.takes (requestArrives addr .readFaults)

end Sys2Proof.Machine
end

