-- ==== Sys2Proof/Machine/Dispatch.lean ====
section
/-! DEFINITION. One arm per command of spec/opcode_table.json. -/

namespace Sys2Proof.Machine

def exec (i : Instr) (s : State) : Host.Outcome State Fault Refusal :=
  match i with
  | .powerOnReset pins => Sys2Proof.Machine.execPowerOnReset pins s
  | .encoderPulse sense => Sys2Proof.Machine.execEncoderPulse sense s
  | .stopTimerExpiry => Sys2Proof.Machine.execStopTimerExpiry s
  | .parkTimerExpiry => Sys2Proof.Machine.execParkTimerExpiry s
  | .sensorEdge sensor => Sys2Proof.Machine.execSensorEdge sensor s
  | .haltNActive => Sys2Proof.Machine.execHaltNActive s
  | .haltNInactive => Sys2Proof.Machine.execHaltNInactive s
  | .periodBoundary zone => Sys2Proof.Machine.execPeriodBoundary zone s
  | .restartTimerExpiry zone => Sys2Proof.Machine.execRestartTimerExpiry zone s
  | .driveFrameSent => Sys2Proof.Machine.execDriveFrameSent s
  | .replyFrameEnd data parity => Sys2Proof.Machine.execReplyFrameEnd data parity s
  | .replyBrokenOff => Sys2Proof.Machine.execReplyBrokenOff s
  | .replyWindowEnd => Sys2Proof.Machine.execReplyWindowEnd s
  | .pulseTimerExpiry => Sys2Proof.Machine.execPulseTimerExpiry s
  | .reminderTimerExpiry => Sys2Proof.Machine.execReminderTimerExpiry s
  | .completeFrame frame => Sys2Proof.Machine.execCompleteFrame frame s
  | .abandonment cause => Sys2Proof.Machine.execAbandonment cause s
  | .gap => Sys2Proof.Machine.execGap s
  | .lineBreak => Sys2Proof.Machine.execLineBreak s
  | .overrun => Sys2Proof.Machine.execOverrun s
  | .turnaround => Sys2Proof.Machine.execTurnaround s
  | .replySent => Sys2Proof.Machine.execReplySent s
  | .setZone addr f => Sys2Proof.Machine.execSetZone addr f s
  | .setChannel addr channel iFmax iRmax => Sys2Proof.Machine.execSetChannel addr channel iFmax iRmax s
  | .setLine addr f => Sys2Proof.Machine.execSetLine addr f s
  | .setProfile addr f => Sys2Proof.Machine.execSetProfile addr f s
  | .readMap addr selector item => Sys2Proof.Machine.execReadMap addr selector item s
  | .mapAccess addr operation => Sys2Proof.Machine.execMapAccess addr operation s
  | .defineProgram addr slot qT jMin jMax => Sys2Proof.Machine.execDefineProgram addr slot qT jMin jMax s
  | .readProgram addr slot => Sys2Proof.Machine.execReadProgram addr slot s
  | .freeze addr slot => Sys2Proof.Machine.execFreeze addr slot s
  | .withdraw addr slot => Sys2Proof.Machine.execWithdraw addr slot s
  | .reinstate addr slot => Sys2Proof.Machine.execReinstate addr slot s
  | .erase addr slot => Sys2Proof.Machine.execErase addr slot s
  | .setSpeed addr speed => Sys2Proof.Machine.execSetSpeed addr speed s
  | .readPosition addr clear => Sys2Proof.Machine.execReadPosition addr clear s
  | .announce addr f => Sys2Proof.Machine.execAnnounce addr f s
  | .cancelAnnouncement addr tag => Sys2Proof.Machine.execCancelAnnouncement addr tag s
  | .lookup addr selector key => Sys2Proof.Machine.execLookup addr selector key s
  | .amend addr f => Sys2Proof.Machine.execAmend addr f s
  | .identify addr index generation tag slot => Sys2Proof.Machine.execIdentify addr index generation tag slot s
  | .place addr f => Sys2Proof.Machine.execPlace addr f s
  | .retire addr selector key => Sys2Proof.Machine.execRetire addr selector key s
  | .walkFirst addr => Sys2Proof.Machine.execWalkFirst addr s
  | .walkNext addr => Sys2Proof.Machine.execWalkNext addr s
  | .readQueue addr => Sys2Proof.Machine.execReadQueue addr s
  | .enableZone addr zone => Sys2Proof.Machine.execEnableZone addr zone s
  | .disableZone addr zone => Sys2Proof.Machine.execDisableZone addr zone s
  | .readZone addr zone => Sys2Proof.Machine.execReadZone addr zone s
  | .readChannel addr channel clear => Sys2Proof.Machine.execReadChannel addr channel clear s
  | .readFaults addr => Sys2Proof.Machine.execReadFaults addr s
  | .halt addr => Sys2Proof.Machine.execHalt addr s
  | .resume addr => Sys2Proof.Machine.execResume addr s
  | .resetLine addr => Sys2Proof.Machine.execResetLine addr s
  | .setAddress addr address group => Sys2Proof.Machine.execSetAddress addr address group s
  | .readLink addr => Sys2Proof.Machine.execReadLink addr s
  | .readEvents addr => Sys2Proof.Machine.execReadEvents addr s
  | .clearEvents addr mask => Sys2Proof.Machine.execClearEvents addr mask s
  | .setAttention addr mask mode interval => Sys2Proof.Machine.execSetAttention addr mask mode interval s
  | .resetNLow => Sys2Proof.Machine.execResetNLow s
  | .skippedState => Sys2Proof.Machine.execSkippedState s
  | .sensorOtherEdge sensor => Sys2Proof.Machine.execSensorOtherEdge sensor s
  | .characterReceived data parity stop => Sys2Proof.Machine.execCharacterReceived data parity stop s
  | .lineReturnsToIdle => Sys2Proof.Machine.execLineReturnsToIdle s
  | .replyBegins => Sys2Proof.Machine.execReplyBegins s

end Sys2Proof.Machine
end

