-- ==== Sys2Proof/Machine/Step.lean ====
section
/-! DEFINITION. One step: the command at the front of the queue is taken, with the rest of the queue left waiting. -/

namespace Sys2Proof.Machine

/-- The command at the front of the queue is run. On an empty queue the part idles: no time passes in the model, and
every timer's expiry is a command of its own (assumption 1). -/
def step (s : State) : Host.Outcome State Fault Refusal :=
  match s.pending with
  | [] => .next s
  | c :: rest => exec c { s with pending := rest }

/-- No row of spec/opcode_table.json has bits, so no word spells a command, and the state is left unchanged. -/
def State.withFetchWord (s : State) (_nbits _w : Nat) : State := s

end Sys2Proof.Machine
end

