-- ==== Sys2Proof/Safety.lean ====
section
/-! DEFINITION. What counts as a safe run: the laws that the manual states of the whole part, as predicates of one
state that a step is to keep, and the words in which statements about requests are made. -/

namespace Sys2Proof.Machine

/-! ### Requests -/

/-- The command of spec/opcode_table.json that a request to an address is. -/
def requestCommand (addr : Byte) : Request → Instr
  | .setZone f => .setZone addr f
  | .setChannel c iF iR => .setChannel addr c iF iR
  | .setLine f => .setLine addr f
  | .setProfile f => .setProfile addr f
  | .readMap selector item => .readMap addr selector item
  | .mapAccess operation => .mapAccess addr operation
  | .defineProgram slot qT jMin jMax => .defineProgram addr slot qT jMin jMax
  | .readProgram slot => .readProgram addr slot
  | .freeze slot => .freeze addr slot
  | .withdraw slot => .withdraw addr slot
  | .reinstate slot => .reinstate addr slot
  | .erase slot => .erase addr slot
  | .setSpeed speed => .setSpeed addr speed
  | .readPosition clear => .readPosition addr clear
  | .announce f => .announce addr f
  | .cancelAnnouncement tag => .cancelAnnouncement addr tag
  | .lookup selector key => .lookup addr selector key
  | .amend f => .amend addr f
  | .identify index generation tag slot => .identify addr index generation tag slot
  | .place f => .place addr f
  | .retire selector key => .retire addr selector key
  | .walkFirst => .walkFirst addr
  | .walkNext => .walkNext addr
  | .readQueue => .readQueue addr
  | .enableZone zone => .enableZone addr zone
  | .disableZone zone => .disableZone addr zone
  | .readZone zone => .readZone addr zone
  | .readChannel channel clear => .readChannel addr channel clear
  | .readFaults => .readFaults addr
  | .halt => .halt addr
  | .resume => .resume addr
  | .resetLine => .resetLine addr
  | .setAddress address group => .setAddress addr address group
  | .readLink => .readLink addr
  | .readEvents => .readEvents addr
  | .clearEvents mask => .clearEvents addr mask
  | .setAttention mask mode interval => .setAttention addr mask mode interval

/-- R162: the command by which a character comes. -/
def characterCommand (c : Character) : Instr := .characterReceived c.data c.parity c.stop

/-- R160, R165, R169: the part is out of reset, its receiver is in HUNT, and the address is its own: a request sent
to the address is taken by its owner. -/
structure Listening (s : State) (addr : Byte) : Prop where
  awake : s.inReset = false
  hunting : s.link.receiver = .hunt
  own : addr.toNat = s.link.station

/-- The same receiver, and an address to which no station answers: broadcast, or the group in force (R169). -/
structure ListeningToGroup (s : State) (addr : Byte) : Prop where
  awake : s.inReset = false
  hunting : s.link.receiver = .hunt
  foreign : addr.toNat ≠ s.link.station
  group : addr = 0xFF ∨ ∃ g, s.map.line.group = some g ∧ addr.toNat = 0xF0 + g.val

/-- R173, R174: the state t with the reply of this result and payload waiting to be sent, its status bytes those
of t; the characters of the request's frame have been heard (R162, R168). -/
def State.answering (t : State) (addr code : Byte) (result : Result) (payload : List Byte) : State :=
  let r : Reply := { address := addr, code := code + 0x80, result := result, status1 := t.status1,
                     status2 := t.status2, payload := payload }
  { t with link := { t.link with receiver := .reply r false false, lineBreak := t.link.lineBreak.afterCharacter } }

/-- R173: a result with which a request was taken. -/
def Result.taken : Result → Bool
  | .accepted => true
  | .acceptedClamped => true
  | _ => false

/-- R5, R6, R17: the map as it would stand after a SET ZONE, SET CHANNEL or SET LINE: `some none` where a field is
out of its range, `none` for another request. -/
def State.mapEdit (s : State) : Request → Option (Option LineMap)
  | .setZone f => some ((zoneEntryOf f).map fun ze => { s.map with zones := bankSet s.map.zones ze.1 ze.2 })
  | .setChannel channel iFmax iRmax => some ((indexOf 32 channel).map fun c =>
      { s.map with channels := bankSet s.map.channels c { iFmax := iFmax.toNat, iRmax := iRmax.toNat } })
  | .setLine f => some ((lineSettingsOf f).map fun l => { s.map with line := l })
  | _ => none

/-- A number in one byte, as a request carries it. -/
def byteOf (n : Nat) : Byte := BitVec.ofNat 8 n

/-! ### Halt and motion (R151 to R154, R76, R86 to R91) -/

/-- R151, R152, R154, R90: while HALT_N is active the line is HALTED; while it is HALTED every zone is DISABLED,
FAULTED or HALTED with no restart timer running; and a restart timer runs only in PARKED and HALTED (R76). -/
structure HaltLaw (s : State) : Prop where
  active : s.sup.haltNActive = true → s.sup.halted = true
  held : s.sup.halted = true → ∀ z : Fin 16,
    (s.zones[z].state = .disabled ∨ s.zones[z].state = .faulted ∨ s.zones[z].state = .halted)
      ∧ s.zones[z].restartTimer = none
  timers : ∀ z : Fin 16, s.zones[z].restartTimer ≠ none →
    s.zones[z].state = .parked ∨ s.zones[z].state = .halted

/-- Sec. 3.3, R86 to R89: each motion state has its own timer and stop mark, a RUNNING zone is on a MOVING line, a
PROTECT zone on a STOPPED one, and a PARKED zone's restart timer runs only on a MOVING line. -/
structure MotionLaw (s : State) : Prop where
  stopTimer : s.pos.motion = .moving ↔ s.pos.stopTimer ≠ none
  parkTimer : s.pos.motion = .stopped ↔ s.pos.parkTimer ≠ none
  stopMark : s.pos.motion = .moving ↔ s.pos.stopMark = none
  running : ∀ z : Fin 16, s.zones[z].state = .running → s.pos.motion = .moving
  protect : ∀ z : Fin 16, s.zones[z].state = .protect → s.pos.motion = .stopped
  timers : ∀ z : Fin 16, s.zones[z].restartTimer ≠ none →
    s.zones[z].state = .halted ∨ (s.zones[z].state = .parked ∧ s.pos.motion = .moving)

/-! ### The map (R10, R12, R13) -/

/-- R10 with R12, R13: the map passes its validity checks (the law of the line's geometry among them; condition 5
speaks of records and is left to `LineOrderLaw`), and every zone in service stays enableable. -/
structure MapLaw (s : State) : Prop where
  valid : s.map.valid [] = true
  enableable : ∀ z : Fin 16, s.inService z = true → s.map.enableable z = true

/-! ### Zones and snapshots (R76, R78) -/

/-- R78: the phases of a pending list, oldest first: every ENDED one ahead of at most one STARTED and at most one
UNSTARTED. -/
def phasesInOrder : List Phase → Bool
  | [] => true
  | .ended :: rest => phasesInOrder rest
  | [.started] => true
  | [.started, .unstarted] => true
  | [.unstarted] => true
  | _ => false

/-- R76, R78: the pending list of one zone: at most three snapshots (the first half of the law of snapshot capacity),
their phases in order, and at most two outside RUNNING and PROTECT, each with an open side; an UNSTARTED one, and a
running period timer, exactly in RUNNING and PROTECT. -/
structure ServiceLaw (q : Sequencer) : Prop where
  capacity : q.pending.length ≤ 3
  room : q.state ≠ .running → q.state ≠ .protect → q.pending.length ≤ 2
  phases : phasesInOrder (q.pending.map Snapshot.phase) = true
  openSide : ∀ n ∈ q.pending, n.sides.any (fun d => !d.closed) = true
  unstarted : (q.state = .running ∨ q.state = .protect) ↔ q.pending.any Snapshot.isUnstarted = true
  timer : (q.state = .running ∨ q.state = .protect) ↔ q.periodTimer ≠ none

/-! ### The drive queue (R127, R131) -/

/-- R127: the law of the drive queue: every place holds at most one item. R131: while an item waits, a transaction
is on the bus. -/
structure QueueLaw (s : State) : Prop where
  places : (s.drive.queue.map DriveItem.place).Nodup
  busy : s.inReset = false → s.drive.queue ≠ [] → s.drive.bus ≠ none

/-! ### The Carrier Table (R31, R55, R56) -/

/-- The nonzero tags of the live records and of the queued announcements taken together. -/
def State.heldTags (s : State) : List Nat :=
  (s.table.live.map Record.tag ++ s.table.queue.map Announcement.tag).filter fun t => t != 0

/-- R55, R56, R59: no index and no nonzero tag stands twice, an index's generation is its live record's, and at
most 64 records are live and 8 announcements queued. -/
structure TableLaw (s : State) : Prop where
  indexes : (s.table.live.map Record.index).Nodup
  generations : ∀ r ∈ s.table.live, s.table.generations[r.index] = r.generation
  tags : s.heldTags.Nodup
  room : s.table.live.length ≤ 64
  queue : s.table.queue.length ≤ 8

/-- R57: the law of line order, with R10 condition 5: every live record's span reaches back no further than any record
behind it, and its length is at least the L_min in force. -/
structure LineOrderLaw (s : State) : Prop where
  order : s.table.live.Pairwise fun front behind =>
    (front.length : Int) ≤ separation s.map.line.scale front.entryMark behind.entryMark
  lengths : ∀ r ∈ s.table.live, s.map.line.lMin ≤ r.length

/-- R31: how many live records and queued announcements name a slot. -/
def State.naming (s : State) (k : Fin 16) : Nat :=
  s.table.live.countP (fun r => r.slot == some k) + s.table.queue.countP fun a => a.slot == some k

/-- R31: the law of reference counts. -/
structure ReferenceLaw (s : State) : Prop where
  counts : ∀ k : Fin 16, s.programs[k].refs = s.naming k
  empty : ∀ k : Fin 16, s.programs[k].state = .empty → s.programs[k].refs = 0

/-- R50 to R52: the position watches have reported every record whose condition holds: a live record with its trail
at or beyond E_plate has its plating-closed mark, and a TRACKING record's lead is not beyond X_exit + W. -/
structure WatchLaw (s : State) : Prop where
  plating : ∀ r ∈ s.table.live, (s.map.ePlate : Int) ≤ s.trail r → r.platingClosed = true
  exit : ∀ r ∈ s.table.live, r.state = .tracking → s.lead r ≤ (s.map.line.xExit + s.map.line.window : Nat)

/-! ### Attention and regulation (R139, R149, R183) -/

/-- R183: the reminder timer runs exactly while its three conditions hold together. R139, R145, R146, R149: a
class's first-fault latch and latest record are filled exactly while its flag is set. -/
structure AttentionLaw (s : State) : Prop where
  reminder : s.attn.reminderTimer ≠ none ↔ s.attn.reminderHolds = true
  firstMajor : s.monitor.firstMajor ≠ none ↔ s.attn.isSet .major = true
  latestMajor : s.monitor.latestMajor ≠ none ↔ s.attn.isSet .major = true
  firstMinor : s.monitor.firstMinor ≠ none ↔ s.attn.isSet .minor = true
  latestMinor : s.monitor.latestMinor ≠ none ↔ s.attn.isSet .minor = true

/-! ### Ranges of what the part counts and holds -/

/-- R6: the ranges of the line settings. -/
structure LineRanges (l : LineSettings) : Prop where
  encoder : 100 ≤ l.scale ∧ l.scale ≤ 100000
  sensors : 5 ≤ l.holdOff ∧ l.holdOff ≤ 200 ∧ l.xExit ≤ 65000 ∧ 10 ≤ l.window ∧ l.window ≤ 500
  lengths : 100 ≤ l.lMin ∧ l.lMin ≤ 2000 ∧ 100 ≤ l.defaultLength ∧ l.defaultLength ≤ 2000
  areas : l.defaultAreaA ≤ 9999 ∧ l.defaultAreaB ≤ 9999
  start : l.s0 ≤ 65000
  motion : 200 ≤ l.stopTime ∧ l.stopTime ≤ 10000 ∧ 10 ≤ l.parkTime ∧ l.parkTime ≤ 3600
    ∧ 1 ≤ l.resumeDistance ∧ l.resumeDistance ≤ 50
  zones : l.restartDelay ≤ 10000 ∧ l.jP ≤ 100
  bands : 1 ≤ l.warnBand ∧ l.warnBand ≤ 50 ∧ 2 ≤ l.tripBand ∧ l.tripBand ≤ 90
  drive : 1 ≤ l.replyWindow ∧ l.replyWindow ≤ 10

/-- The ranges the manual gives: the line settings (R6), the densities of the zones (R1), the ratings (R5), the SET
profiles (R19, R21), the program values (R24), the error counters (R175), the ignored-edge counts (R49), the miss and
stale counters (R135, R136), the late counters and orphan accounts (R76), the charge accounts, tags, lengths and areas
of records (R54) and of announcements (R59), the nominal speed (R43), the station address (R161, R176) and the reminder
interval (R183). -/
structure RangeLaw (s : State) : Prop where
  line : LineRanges s.map.line
  densities : ∀ z : Fin 16, 1 ≤ s.map.zones[z].jLo ∧ s.map.zones[z].jLo ≤ 2000 ∧ 1 ≤ s.map.zones[z].jHi
    ∧ s.map.zones[z].jHi ≤ 2000
  ratings : ∀ c : Fin 32, s.map.channels[c].iFmax ≤ 65535 ∧ s.map.channels[c].iRmax ≤ 65535
  profiles : ∀ i : Fin 8, s.map.profiles[i].isSet = true →
    10 ≤ s.map.profiles[i].tF ∧ s.map.profiles[i].tF ≤ 2000 ∧ s.map.profiles[i].tO1 ≤ 100
    ∧ s.map.profiles[i].tR ≤ 200 ∧ s.map.profiles[i].tO2 ≤ 100 ∧ 100 ≤ s.map.profiles[i].rho
    ∧ s.map.profiles[i].rho ≤ 500 ∧ s.map.profiles[i].phi < s.map.profiles[i].period
    ∧ 5 * (s.map.profiles[i].period : Int) ≤ s.map.profiles[i].net
  programs : ∀ k : Fin 16, s.programs[k].state ≠ .empty → 1 ≤ s.programs[k].qT ∧ s.programs[k].qT ≤ 20000
    ∧ 1 ≤ s.programs[k].jMin ∧ s.programs[k].jMin ≤ s.programs[k].jMax ∧ s.programs[k].jMax ≤ 2000
  link : s.link.crcErrors ≤ 255 ∧ s.link.framingErrors ≤ 255 ∧ s.link.overruns ≤ 255 ∧ s.link.groupMisuse ≤ 255
  ignored : s.pos.entry.ignored ≤ 255 ∧ s.pos.exit.ignored ≤ 255
  channels : ∀ c : Fin 32, s.drive.channels[c].misses ≤ 3 ∧ s.drive.channels[c].stale ≤ 65535
  zones : ∀ z : Fin 16, s.zones[z].late ≤ 65535 ∧ s.zones[z].orphanFwd ≤ 4294967295
    ∧ s.zones[z].orphanRev ≤ 4294967295
  accounts : ∀ r ∈ s.table.live, r.fwdA ≤ 4294967295 ∧ r.revA ≤ 4294967295 ∧ r.fwdB ≤ 4294967295
    ∧ r.revB ≤ 4294967295
  records : ∀ r ∈ s.table.live, r.tag ≤ 65535 ∧ r.length ≤ 2000 ∧ r.areaA ≤ 9999 ∧ r.areaB ≤ 9999
  announced : ∀ a ∈ s.table.queue, 1 ≤ a.tag ∧ a.tag ≤ 65535 ∧ a.length ≤ 2000 ∧ a.areaA ≤ 9999 ∧ a.areaB ≤ 9999
  speed : 100 ≤ s.pos.speed ∧ s.pos.speed ≤ 10000
  station : 1 ≤ s.link.station ∧ s.link.station ≤ 239
  interval : s.attn.interval ≤ 60

/-! ### Words about the drive bus and the zones -/

/-- R127: the item waits in the drive queue, or is on the bus. -/
def State.sends (t : State) (item : DriveItem) : Prop :=
  item ∈ t.drive.queue ∨ ∃ b : Transaction, t.drive.bus = some b ∧ b.item = item

/-- R79, R100: the ORDER of every side of the snapshot waits or is on the bus. -/
def State.sendsOrders (t : State) (z : Fin 16) (n : Snapshot) : Prop :=
  ∀ d ∈ n.sides, ∃ flush : Bool,
    t.sends (.order { channel := d.channel, seq := n.seq, values := d.order, mode := n.mode } flush z)

/-- R98, R99: a clamp acts in the computation of some side of the snapshot. -/
def State.clampActs (s : State) (z : Fin 16) (n : Snapshot) : Bool :=
  n.sides.any fun d => (s.setpoint n.mode z d.face d.channel d.entries).limited

/-- R79, R86: from s to t the zone goes into this state and its UNSTARTED snapshot is recomputed in the new state's mode
at the position of t: its number, entries, areas and marks are kept, the ordered values of each side come from the
computation of the mode, the profile is the one then in force (R23), the demands are kept with them (R33), and the last
order values follow. LIMITED is raised where a clamp acted (R98, R99). The ORDER of each side is posted, where no
channel stands twice among the snapshots that are recomputed together. -/
def Recomputed (s t : State) (z : Fin 16) (into : ZoneState) : Prop :=
  ∀ (older : List Snapshot) (n : Snapshot), s.zones[z].pending = older ++ [n] → n.phase = .unstarted →
    (∀ o ∈ older, o.phase ≠ .unstarted) →
    let u : State := { s with pos := t.pos, zones := bankSet s.zones z { s.zones[z] with state := into } }
    let m : Snapshot := { n with
      mode := into.mode
      profile := s.map.profiles[s.map.zones[z].profile]
      sides := n.sides.map fun d =>
        let p := u.setpoint into.mode z d.face d.channel d.entries
        { d with order := p.order, qfOrd := p.qfOrd, qrOrd := p.qrOrd, jZ := p.jZ, demands := p.demands } }
    t.zones[z] = { s.zones[z] with
      state := into, pending := older ++ [m], lastA := m.lastOrder .A, lastB := m.lastOrder .B }
    ∧ (u.clampActs z m = true → t.attn.isSet .limited = true)
    ∧ ((n.sides.map Side.channel).Nodup →
      (∀ y : Fin 16, y ≠ z → s.zones[y].state = s.zones[z].state → ∀ o ∈ s.zones[y].pending, o.phase = .unstarted →
        ∀ d ∈ n.sides, ∀ e ∈ o.sides, d.channel ≠ e.channel) →
      t.sendsOrders z m)

/-- R105: an open side that a readback from this channel with this number matches. -/
structure MatchesOpen (s : State) (c : Fin 32) (seq : BitVec 8) (z : Fin 16) (n : Snapshot) (d : Side) : Prop where
  pending : n ∈ s.zones[z].pending
  number : n.seq = seq
  run : n.phase ≠ .unstarted
  side : d ∈ n.sides
  channel : d.channel = c
  stillOpen : d.closed = false

/-- The entry names the record. -/
def Entry.names (e : Entry) (r : Record) : Bool := e.index == r.index && e.generation == r.generation

/-! ### Building a snapshot (R79, R82) -/

/-- R79, R93, R23, R33: the snapshot that the zone builds on this state: the next number, UNSTARTED, in the mode of the
zone's state, with the profile it read; one side for each channel of the zone's type, with the entries of its face and
all that the computation of the mode gives for them. -/
structure SnapshotOf (s : State) (z : Fin 16) (n : Snapshot) : Prop where
  number : n.seq = s.zones[z].lastSeq + 1
  phase : n.phase = .unstarted
  mode : n.mode = if s.zones[z].state = .protect then .protect else .run
  profile : n.profile = s.map.profiles[s.map.zones[z].profile]
  sides : n.sides = s.map.zones[z].sides.map fun fc =>
    let entries := s.entriesOf z fc.1
    let p := s.setpoint n.mode z fc.1 fc.2 entries
    { face := fc.1, channel := fc.2, order := p.order, qfOrd := p.qfOrd, qrOrd := p.qrOrd, aZ := totalArea entries,
      jZ := p.jZ, late := false, closed := false, entries := entries, demands := p.demands }

/-- R66: the Carrier Table with each entry of the snapshot held. -/
def State.holding (s : State) (n : Snapshot) : CarrierTable :=
  { s.table with live := s.table.live.map fun r => { r with
      pendingCount := r.pendingCount + (n.sides.flatMap Side.entries).countP fun e => e.names r } }

/-- R79, R98 to R100: in t the snapshot built on the state s has had its ORDERs posted, where it uses no channel twice,
and LIMITED is set where it was set in s or a clamp acted. -/
structure SnapshotPosted (s t : State) (z : Fin 16) (n : Snapshot) : Prop where
  orders : (n.sides.map Side.channel).Nodup → t.sendsOrders z n
  limited : t.attn.isSet .limited = (s.attn.isSet .limited || s.clampActs z n)

/-- R82: from s to t the zone enters service in this state: it builds its first snapshot in that state, which is
appended behind what was pending, and the lead-in starts with its T. -/
def EntersService (s t : State) (z : Fin 16) (into : ZoneState) : Prop :=
  let u : State := { s with zones := bankSet s.zones z { s.zones[z] with state := into, restartTimer := none } }
  ∃ n : Snapshot, SnapshotOf u z n ∧ SnapshotPosted u t z n ∧ (TableLaw s → t.table = s.holding n)
    ∧ t.zones[z] = { s.zones[z] with
        state := into, restartTimer := none, periodTimer := some n.period, lastSeq := n.seq
        pending := s.zones[z].pending ++ [n], lastA := n.lastOrder .A, lastB := n.lastOrder .B }

/-! ### What the watches and the calls do to a record (R64 to R66) -/

/-- R65: the first of the three outcomes that holds. -/
def Record.outcomeNow (r : Record) : PlatingOutcome :=
  if r.slot = none then .unprogrammed
  else if (0 < r.areaA → r.reachedA ≠ none) ∧ (0 < r.areaB → r.reachedB ≠ none) then .met
  else .short

/-- R65: the plating-closed mark is set, the pending count is 0 and the outcome is none. -/
def Record.decides (r : Record) : Bool := r.platingClosed && decide (r.pendingCount = 0 ∧ r.outcome = none)

/-- R65: the record with its outcome, where that is decided now. -/
def Record.settled (r : Record) : Record := if r.decides then { r with outcome := some r.outcomeNow } else r

/-- R65: the outcome is decided now, and is SHORT. -/
def Record.fallsShort (r : Record) : Bool := r.decides && decide (r.outcomeNow = .short)

/-- R50, R65: the plating-end watch reports the record. -/
def State.plates (s : State) (r : Record) : Bool := !r.platingClosed && decide ((s.map.ePlate : Int) ≤ s.trail r)

/-- R51, R64: the exit-window watch reports the record. -/
def State.losesSight (s : State) (r : Record) : Bool :=
  decide (r.state = .tracking ∧ ((s.map.line.xExit + s.map.line.window : Nat) : Int) < s.lead r)

/-- R65: the record after the plating-end watch has tested it. -/
def State.plated (s : State) (r : Record) : Record :=
  if s.plates r then ({ r with platingClosed := true } : Record).settled else r

/-- R64, R65: the record after both watches have tested it. -/
def State.watched (s : State) (r : Record) : Record :=
  if s.losesSight r then { s.plated r with state := .lost } else s.plated r

/-- R16, R52: from s to t the map is replaced by m, and every other block is kept but for what the watches do. -/
structure MapReplaced (s t : State) (m : LineMap) : Prop where
  frame : t = { s with
    map := m
    table := { s.table with live := t.table.live }
    attn := { s.attn with
      flags := t.attn.flags, pulseOn := t.attn.pulseOn, reminderTimer := t.attn.reminderTimer } }
  /-- The plating-end watch is tested where E_plate moved, the exit-window watch where X_exit or W did. -/
  watches : TableLaw s →
    let plating := decide (m.ePlate ≠ s.map.ePlate)
    let exits := decide (m.line.xExit ≠ s.map.line.xExit ∨ m.line.window ≠ s.map.line.window)
    let short := plating && s.table.live.any fun r =>
      t.plates r && ({ r with platingClosed := true } : Record).fallsShort
    let lost := exits && s.table.live.any t.losesSight
    let afterPlating := if short then s.attn.raiseFlag .shortfall else s.attn
    t.table.live = s.table.live.map (fun r =>
      let kept := if plating then t.plated r else r
      if exits && t.losesSight r then { kept with state := .lost } else kept)
    ∧ t.attn = (if lost then afterPlating.raiseFlag .missedExit else afterPlating)
    ∧ t.attn.isSet .shortfall = (s.attn.isSet .shortfall || short)
    ∧ t.attn.isSet .missedExit = (s.attn.isSet .missedExit || lost)
  /-- R178: every other flag is as it was. -/
  flags : ∀ e : Event, e ≠ .missedExit → e ≠ .shortfall → t.attn.isSet e = s.attn.isSet e
  /-- R178, R182: in PULSE mode an enabled flag newly set requests a pulse. -/
  pulse : t.attn.pulseOn = (s.attn.pulseOn
    || (s.attn.mode == .pulse && t.attn.flags &&& ~~~s.attn.flags &&& s.attn.enables != 0))
  still : m.ePlate = s.map.ePlate → m.line.xExit = s.map.line.xExit → m.line.window = s.map.line.window →
    t = { s with map := m }

/-- R66, R65: the record after k release entry calls. -/
def Record.released (k : Nat) (r : Record) : Record :=
  if k = 0 then r else ({ r with pendingCount := r.pendingCount - k } : Record).settled

/-- R66, R65: from s to t these entries are released, and that is all that happens to the Carrier Table; SHORTFALL is
set where it was, or where an outcome decided by it is SHORT. -/
structure Releases (s t : State) (entries : List Entry) : Prop where
  table : t.table = { s.table with
    live := s.table.live.map fun r => r.released (entries.countP fun e => e.names r) }
  shortfall : t.attn.isSet .shortfall = (s.attn.isSet .shortfall || s.table.live.any fun r =>
    let k := entries.countP fun e => e.names r
    decide (0 < k) && ({ r with pendingCount := r.pendingCount - k } : Record).fallsShort)

/-! ### Leaving service (R83) -/

/-- R83, steps 2 and 3: leaving service discards the snapshot: it is UNSTARTED, or STARTED with its MARK still
waiting. -/
def State.discards (s : State) (z : Fin 16) (n : Snapshot) : Bool :=
  n.phase == .unstarted || (n.phase == .started && s.drive.queue.any (isMarkOf z n.seq))

/-- R80, R118: the entries that leaving service releases: those of the open sides of what it discards. -/
def State.discardedEntries (s : State) (z : Fin 16) : List Entry :=
  (s.zones[z].pending.filter (s.discards z)).flatMap fun n => (n.sides.filter fun d => !d.closed).flatMap Side.entries

/-- R83, R80: from s to t the zone, with a lawful pending list, leaves service into this state: both timers are stopped,
what is discarded is gone with its waiting MARK and ORDERs, and every other piece of the sequencer is kept. -/
structure LeavesService (s t : State) (z : Fin 16) (into : ZoneState) : Prop where
  zone : t.zones[z] = { s.zones[z] with
    state := into, periodTimer := none, restartTimer := none
    pending := s.zones[z].pending.filter fun n => !s.discards z n }
  withdrawn : QueueLaw s → ∀ n ∈ s.zones[z].pending, s.discards z n = true → ∀ i ∈ t.drive.queue,
    isMarkOf z n.seq i = false ∧ ∀ d ∈ n.sides, isOrder d.channel n.seq i = false

/-! ### Pending counts (R66) -/

/-- R66, R118: the entries of pending snapshots that have not been released: those of open sides (assumption 17
for a half-closed snapshot). -/
def State.pendingEntries (s : State) : List Entry :=
  zoneNumbers.flatMap fun z => s.zones[z].pending.flatMap fun n =>
    (n.sides.filter fun d => !d.closed).flatMap Side.entries

/-- R66: a live record's pending count is the number of pending entries that name it; with it, what R78, R79 and R93
make of a snapshot: its sides are on different channels, A_z is the sum of the areas of a side's entries, and no entry
has area 0. -/
structure HoldLaw (s : State) : Prop where
  counts : ∀ r ∈ s.table.live, r.pendingCount = s.pendingEntries.countP fun e => e.names r
  areas : ∀ z : Fin 16, ∀ n ∈ s.zones[z].pending, ∀ d ∈ n.sides,
    d.aZ = totalArea d.entries ∧ ∀ e ∈ d.entries, 0 < e.area
  channels : ∀ z : Fin 16, ∀ n ∈ s.zones[z].pending, (n.sides.map Side.channel).Nodup

/-! ### Charge (R111) -/

/-- The forward charge in every account that a closure of one zone's sides can add to. -/
def State.forwardHeld (s : State) (z : Fin 16) : Nat :=
  s.zones[z].orphanFwd + (s.table.live.map fun r => r.fwdA + r.fwdB).sum

/-- The reverse charge in the same accounts. -/
def State.reverseHeld (s : State) (z : Fin 16) : Nat :=
  s.zones[z].orphanRev + (s.table.live.map fun r => r.revA + r.revB).sum

end Sys2Proof.Machine
end

