-- ==== Sys2Proof/Certificates/Slice0/Obligations.lean ====
section
/-! DEFINITION. The statements for the provers: what a step is, what each command does, and the laws a step keeps. -/

section

open Sys2Proof Sys2Proof.Machine

/-! ### The step, the frames and the addresses -/

/-- A step takes the command at the front of the queue and leaves the rest waiting; on an empty queue the
model idles, which is its own choice (assumption 1). -/
def Obligations.FrontCommandIsRun : Prop :=
  (∀ (c : Instr) (rest : List Instr) (s : State),
    step { s with pending := c :: rest } = exec c { s with pending := rest })
  ∧ ∀ s : State, s.pending = [] → step s = .next s

/-- Sec. 9.5: the values after power-on reset that the manual gives, of every block: R4, R5, R6, R14, R19, R24, R36,
R42, R43, R46, R49, R55, R77, R127, R138, R139, R165, R175, R178, R181 and R183. -/
def Obligations.ResetHasGivenValues : Prop :=
  (∀ z : Fin 16, State.reset.map.zones[z] = { boundary := 0, kind := .unpowered, profile := 0, channelA := none,
                                              channelB := none, jLo := 1, jHi := 2000 })
  ∧ (∀ c : Fin 32, State.reset.map.channels[c] = { iFmax := 0, iRmax := 0 })
  ∧ (∀ p : Fin 8, State.reset.map.profiles[p] =
      { isSet := false, tF := 0, tO1 := 0, tR := 0, tO2 := 0, rho := 0, phi := 0 })
  ∧ State.reset.map.access = .closed
  ∧ State.reset.map.line =
      { scale := 1000, swapped := false, entryEdge := .rising, exitEdge := .rising, holdOff := 50, xExit := 0,
        window := 100, lMin := 500, defaultLength := 600, defaultAreaA := 1000, defaultAreaB := 1000,
        defaultSlot := none, s0 := 0, stopTime := 1000, parkTime := 300, resumeDistance := 5, restartDelay := 2000,
        jP := 20, warnBand := 10, tripBand := 25, replyWindow := 2, group := none }
  ∧ (∀ k : Fin 16, State.reset.programs[k] = { state := .empty, refs := 0, qT := 0, jMin := 0, jMax := 0 })
  ∧ State.reset.pos.count = 0 ∧ State.reset.pos.direction = .forward ∧ State.reset.pos.motion = .stopped
  ∧ State.reset.pos.stopMark = some 0 ∧ State.reset.pos.stopTimer = none ∧ State.reset.pos.parkTimer = some 300
  ∧ State.reset.pos.speed = 1000 ∧ State.reset.pos.entry.mark = none ∧ State.reset.pos.exit.mark = none
  ∧ State.reset.pos.entry.ignored = 0 ∧ State.reset.pos.exit.ignored = 0
  ∧ State.reset.table.live = [] ∧ (∀ i : Fin 64, State.reset.table.generations[i] = 0)
  ∧ State.reset.table.queue = [] ∧ State.reset.table.cursor = .nowhere ∧ State.reset.table.displaced = none
  ∧ (∀ z : Fin 16, State.reset.zones[z] =
      { state := .disabled, periodTimer := none, restartTimer := none, lastSeq := 0, pending := [], orphanFwd := 0,
        orphanRev := 0, late := 0, lastA := none, lastB := none })
  ∧ State.reset.drive.queue = [] ∧ State.reset.drive.bus = none
  ∧ (∀ c : Fin 32, State.reset.drive.channels[c] = { misses := 0, stale := 0, lastStatus := none, lastEnd := none })
  ∧ State.reset.monitor = { firstMajor := none, firstMinor := none, latestMajor := none, latestMinor := none }
  ∧ State.reset.link.receiver = .hunt ∧ State.reset.link.crcErrors = 0 ∧ State.reset.link.framingErrors = 0
  ∧ State.reset.link.overruns = 0 ∧ State.reset.link.groupMisuse = 0
  ∧ State.reset.attn = { flags := 0, enables := 0, mode := .level, interval := 0, pulseOn := false,
                         reminderTimer := none }

/-- R160, R161: POWER_ON_RESET gives every block its power-on values with the straps and levels sampled and the line
halted when HALT_N is active; RESET_N_LOW cuts both links short; and while RESET_N is low no other command changes
anything. That the blocks keep their values until RESET_N goes high is the model's choice (assumption 9). -/
def Obligations.ResetPins : Prop :=
  (∀ (p : Pins) (s : State), ∃ t : State, exec (.powerOnReset p) s = .next t
    ∧ t.map = State.reset.map ∧ t.programs = State.reset.programs ∧ t.table = State.reset.table
    ∧ t.zones = State.reset.zones ∧ t.monitor = State.reset.monitor
    ∧ t.pos = { State.reset.pos with
        encA := p.encA, encB := p.encB
        entry := { State.reset.pos.entry with high := p.entryHigh }
        exit := { State.reset.pos.exit with high := p.exitHigh } }
    ∧ t.link = { State.reset.link with
        station := if p.addr.toNat = 0 ∨ 240 ≤ p.addr.toNat then 239 else p.addr.toNat
        baud := p.baud }
    ∧ t.sup = { halted := !p.haltNHigh, haltNActive := !p.haltNHigh }
    ∧ t.inReset = false ∧ t.pending = s.pending
    ∧ (p.haltNHigh = true → t.drive = State.reset.drive ∧ t.attn = State.reset.attn)
    ∧ (p.haltNHigh = false →
        t.drive = { State.reset.drive with bus := some { item := .abort, window := 2, phase := .sending } }
        ∧ t.attn = { State.reset.attn with flags := Event.halt.mask }))
  ∧ (∀ s : State, exec .resetNLow s = .next { s with
      inReset := true
      link := { s.link with receiver := .hunt }
      drive := { s.drive with bus := none } })
  ∧ ∀ (i : Instr) (s : State), s.inReset = true → (∀ p, i ≠ .powerOnReset p) → i ≠ .resetNLow → exec i s = .next s

/-- Sec. 13.2, R188: the request code and payload of every request read back as that request. -/
def Obligations.RequestReadsBack : Prop :=
  ∀ r : Request, parseRequest (requestCode r) (requestPayload r) = .request r

/-- R163, R164: the complete frame that carries a request to an address is a whole frame, and its check is good. That
a request row of the table stands for its whole frame, so that the two do the same in every state, with the receiver in
HUNT, FRAME or REPLY, is the model's choice (assumption 4). -/
def Obligations.FrameCarriesItsRequest : Prop :=
  ∀ (addr : Byte) (r : Request), wholeLinkFrame (requestFrame addr r) = true
    ∧ crcGood (requestFrame addr r).tail = true
    ∧ ∀ s : State, exec (.completeFrame (requestFrame addr r)) s = exec (requestCommand addr r) s

/-- R162, R165, R166: from HUNT, a whole frame that comes character by character, each with good parity and stop bit,
is followed to its end, and on its last character it is judged. What is kept of a break is the model's choice
(assumption 8). -/
def Obligations.CharactersMakeTheFrame : Prop :=
  ∀ (frame : List Byte) (s : State), wholeLinkFrame frame = true → s.inReset = false → s.link.receiver = .hunt →
    Sys2Proof.core.run frame.length
      ({ s with pending := frame.map fun b => characterCommand (characterOf b) } : State)
    = Host.Outcome.next (judgeFrame frame ({ s with
        pending := []
        link := { s.link with
          receiver := .frame frame.dropLast, lineBreak := s.link.lineBreak.afterCharacter } } : State))

/-- Ch. 0 and R173: a refused request leaves the part as it was and its reply carries no payload. -/
def Obligations.RefusedRequestLeavesThePart : Prop :=
  ∀ (r : Request) (s : State), (serve r s).2.result.taken = false →
    (serve r s).1 = s ∧ (serve r s).2.payload = []
    ∧ ∀ addr : Byte, Listening s addr →
        exec (requestCommand addr r) s = .next (s.answering addr (requestCode r) (serve r s).2.result [])

/-- R169 to R171: a request to the station's own address, as its command or as the complete frame that carries it, is
answered by its owner's step; to the group in force or to broadcast, the four group requests are taken without an
answer and every other one is counted as group misuse; to any other address nothing happens. A complete frame without
a good CRC counts a CRC error whatever its address; a reply code is dropped, and so is a frame for another station,
whatever it holds; at this station an unknown code or a length that is not allowed is refused; at a group address
either is group misuse. From HUNT the command stands for its whole frame (assumption 4), whose characters end what was
kept of a break that had only begun (assumption 8). -/
def Obligations.AddressDecides : Prop :=
  (∀ (r : Request) (addr : Byte) (s : State),
    (Listening s addr →
      let answered := (serve r s).1.answering addr (requestCode r) (serve r s).2.result (serve r s).2.payload
      exec (requestCommand addr r) s = .next answered
      ∧ exec (.completeFrame (requestFrame addr r)) s = .next answered)
    ∧ (ListeningToGroup s addr → groupTaken r = true → ∃ t : State, exec (requestCommand addr r) s = .next t
        ∧ t = (serve r s).1.heard)
    ∧ (ListeningToGroup s addr → groupTaken r = false → exec (requestCommand addr r) s = .next { s with
        link := { s.link with
          groupMisuse := min 255 (s.link.groupMisuse + 1), lineBreak := s.link.lineBreak.afterCharacter }
        attn := s.attn.raiseFlag .link })
    ∧ (s.inReset = false → s.link.receiver = .hunt → addr.toNat ≠ s.link.station → addr ≠ 0xFF →
        (∀ g, s.map.line.group = some g → addr.toNat ≠ 0xF0 + g.val) →
        exec (requestCommand addr r) s = .next s.heard))
  ∧ ∀ (addr code : Byte) (payload : List Byte) (s : State), payload.length ≤ 249 →
    s.inReset = false → s.link.receiver = .hunt →
    (∀ frame : List Byte, wholeLinkFrame frame = true → crcGood frame.tail = false →
      exec (.completeFrame frame) s = .next { s with
        link := { s.link with
          crcErrors := min 255 (s.link.crcErrors + 1), lineBreak := s.link.lineBreak.afterCharacter }
        attn := s.attn.raiseFlag .link })
    ∧ let frame := linkFrame (addr :: byteOf (payload.length + 1) :: code :: payload)
      (128 ≤ code.toNat → exec (.completeFrame frame) s = .next s.heard)
      ∧ (code.toNat < 128 → addr.toNat ≠ s.link.station → addr ≠ 0xFF →
          (∀ g, s.map.line.group = some g → addr.toNat ≠ 0xF0 + g.val) →
          exec (.completeFrame frame) s = .next s.heard)
      ∧ (code.toNat < 128 → Listening s addr → parseRequest code payload = .unknownRequest →
          exec (.completeFrame frame) s = .next (s.answering addr code .unknownRequest []))
      ∧ (code.toNat < 128 → Listening s addr → parseRequest code payload = .badLength →
          exec (.completeFrame frame) s = .next (s.answering addr code .badLength []))
      ∧ (code.toNat < 128 → ListeningToGroup s addr → (∀ r, parseRequest code payload ≠ .request r) →
          exec (.completeFrame frame) s = .next { s with
            link := { s.link with
              groupMisuse := min 255 (s.link.groupMisuse + 1), lineBreak := s.link.lineBreak.afterCharacter }
            attn := s.attn.raiseFlag .link })

/-- R167, R168: a frame in FRAME is abandoned by a character with an error, a gap, a break, or a length character of 0
or 251 to 255: it is dropped, one parity/framing error is counted, LINK is raised and the receiver is in HUNT. A
stop bit at the break level leaves it kept that a break may have begun, whose count this was.
How a break is remembered is the model's choice (assumption 8). -/
def Obligations.FrameIsAbandoned : Prop :=
  ∀ (got : List Byte) (s : State), s.inReset = false → s.link.receiver = .frame got →
    let dropped (kept : LineBreak) : State := { s with
      link := { s.link with
        receiver := .hunt, framingErrors := min 255 (s.link.framingErrors + 1), lineBreak := kept }
      attn := s.attn.raiseFlag .link }
    let perhaps : LineBreak := if s.link.lineBreak = .counted then .counted else .begun
    exec .gap s = .next (dropped s.link.lineBreak)
    ∧ (∀ cause, exec (.abandonment cause) s = .next (dropped
        (if cause = .stopError ∨ cause = .breakBegins then perhaps else s.link.lineBreak)))
    ∧ exec .lineBreak s = .next (dropped .counted)
    ∧ (∀ (data : Byte) (parity : Bool), exec (.characterReceived data parity false) s = .next (dropped perhaps))
    ∧ (∀ c : Character, stopError c = false → parityError c = true →
        exec (characterCommand c) s = .next (dropped s.link.lineBreak))
    ∧ (∀ b : Byte, got.length = 2 → (b.toNat = 0 ∨ 251 ≤ b.toNat) →
        exec (characterCommand (characterOf b)) s = .next (dropped s.link.lineBreak))

/-- R162: a byte's character reads back without an error, its levels are a start bit, the data least significant first,
even parity and a stop bit at the idle level, and any one of its data and parity bits changed makes a parity error.
R165, R166, R168: in HUNT a good 0xC3 opens a frame and any other character is discarded; in FRAME a good character that
neither ends the frame nor is a bad length is taken into it; in HUNT a break not yet counted counts once, and one whose
first character abandoned a frame counts no more; a break already counted counts no more until the line has returned to
idle. R172, R168: in REPLY, the first character or break before the reply has begun counts one overrun and the later
ones count nothing; the turnaround's end begins the reply, whose contents stay as they were formed; while it is sent
nothing is taken; and its end returns the receiver to HUNT. R162, R173: LINK_DE is high exactly while a reply is sent,
and the reply's frame and levels are those of section 13.1. That a one has the idle level, and a zero and the start bit
the opposite one, is presumed (assumption 24). How a break is remembered is the model's choice (assumption 8). -/
def Obligations.CharactersAndBreaks : Prop :=
  (∀ b : Byte, (characterOf b).data = b ∧ parityError (characterOf b) = false ∧ stopError (characterOf b) = false
    ∧ (∃ parity : Bool, lineLevels (characterOf b) = [false, b.getLsbD 0, b.getLsbD 1, b.getLsbD 2, b.getLsbD 3,
        b.getLsbD 4, b.getLsbD 5, b.getLsbD 6, b.getLsbD 7, parity, true]
      ∧ (lineLevels (characterOf b)).countP (fun x => x) % 2 = 1)
    ∧ parityError { characterOf b with parity := !(characterOf b).parity } = true
    ∧ ∀ i : Fin 8, parityError { characterOf b with data := b ^^^ (1#8 <<< i.val) } = true)
  ∧ (∀ r : Reply,
    let body : List Byte := [r.address, BitVec.ofNat 8 (4 + r.payload.length), r.code, r.result.code, r.status1,
      r.status2] ++ r.payload
    r.bytes = 0xC3 :: body ++ [(crc body >>> 8).setWidth 8, (crc body).setWidth 8]
    ∧ r.levels = r.bytes.flatMap fun b => lineLevels (characterOf b))
  ∧ (∀ s : State, s.linkDe = true ↔
      s.inReset = false ∧ ∃ (r : Reply) (counted : Bool), s.link.receiver = .reply r true counted)
  ∧ ∀ s : State, s.inReset = false →
    let keeping (b : LineBreak) : State := { s with link := { s.link with lineBreak := b } }
    let heard : LineBreak := if s.link.lineBreak = .begun then .clear else s.link.lineBreak
    (s.link.receiver = .hunt →
      exec (characterCommand (characterOf 0xC3)) s
        = .next { s with link := { s.link with receiver := .frame [0xC3], lineBreak := heard } }
      ∧ (∀ c : Character, (c.data ≠ 0xC3 ∨ parityError c = true ∨ stopError c = true) →
          exec (characterCommand c) s = .next (keeping heard))
      ∧ (s.link.lineBreak = .clear → exec .lineBreak s = .next { s with
          link := { s.link with framingErrors := min 255 (s.link.framingErrors + 1), lineBreak := .counted }
          attn := s.attn.raiseFlag .link })
      ∧ (s.link.lineBreak = .begun → exec .lineBreak s = .next (keeping .counted)))
    ∧ (∀ (got : List Byte) (b : Byte), s.link.receiver = .frame got →
        frameComplete (got ++ [b]) = false → badLengthCharacter (got ++ [b]) = false →
        exec (characterCommand (characterOf b)) s
          = .next { s with link := { s.link with receiver := .frame (got ++ [b]) } })
    ∧ (s.link.lineBreak = .counted → (∀ got, s.link.receiver ≠ .frame got) → exec .lineBreak s = .next s)
    ∧ exec .lineReturnsToIdle s = .next (keeping .clear)
    ∧ ∀ (r : Reply) (counted : Bool),
      (s.link.receiver = .reply r false false →
        let first (b : LineBreak) : State := { s with
          link := { s.link with
            receiver := .reply r false true, overruns := min 255 (s.link.overruns + 1), lineBreak := b }
          attn := s.attn.raiseFlag .link }
        exec .overrun s = .next (first s.link.lineBreak)
        ∧ (∀ data parity stop, exec (.characterReceived data parity stop) s = .next (first s.link.lineBreak))
        ∧ (s.link.lineBreak ≠ .counted → exec .lineBreak s = .next (first .counted)))
      ∧ ((s.link.receiver = .reply r false true ∨ s.link.receiver = .reply r true counted) →
        exec .overrun s = .next s ∧ (∀ data parity stop, exec (.characterReceived data parity stop) s = .next s)
        ∧ exec .lineBreak s = .next (keeping .counted))
      ∧ (s.link.receiver = .reply r false counted → exec .turnaround s
        = .next { s with link := { s.link with receiver := .reply r true counted } })
      ∧ (s.link.receiver = .reply r true counted →
        exec .replySent s = .next { s with link := { s.link with receiver := .hunt } })

/-! ### The Line Map and the Program Store -/

/-- R16, R17, R21, R52: SET ZONE, SET CHANNEL and SET LINE that the map access state admits (R14), with every field in
its range, that pass the other checks of R11 complete: they replace the entry or the record they name whole and are
answered ACCEPTED. Besides the map only the live records and the event flags (with the pulse and the reminder timer)
can change, by the position watches: where E_plate moves, a record whose trail is at or beyond it gets its
plating-closed mark, and its outcome where its pending count is 0, SHORTFALL being raised for a SHORT one; where X_exit
or W moves, a TRACKING record whose lead is beyond their sum becomes LOST, and MISSED_EXIT is raised. SET PROFILE with
its fields in their ranges and its validity condition completes too: it makes its profile SET and changes nothing else.
That these raises are no events of the edit itself, of which R16 says that it raises none, is read from R52
(assumption 22). -/
def Obligations.MapEditIsTaken : Prop :=
  ∀ (addr : Byte) (s : State), Listening s addr →
    (s.map.access = .opened ∨ (s.map.access = .closed ∧ ∀ z : Fin 16, s.zones[z].state = .disabled)) →
    let taken (c : Instr) (code : Byte) (m : LineMap) : Prop :=
      s.keepsRunning m = true → m.valid s.table.live = true →
        ∃ t : State, exec c s = .next (t.answering addr code .accepted []) ∧ MapReplaced s t m
    (∀ (f : ZoneFields) (z : Fin 16) (e : ZoneEntry), zoneEntryOf f = some (z, e) →
      taken (.setZone addr f) 0x01 { s.map with zones := bankSet s.map.zones z e })
    ∧ (∀ (c : Fin 32) (iFmax iRmax : Half),
      taken (.setChannel addr (byteOf c) iFmax iRmax) 0x02
        { s.map with channels := bankSet s.map.channels c { iFmax := iFmax.toNat, iRmax := iRmax.toNat } })
    ∧ (∀ (f : LineFields) (l : LineSettings), lineSettingsOf f = some l →
      taken (.setLine addr f) 0x03 { s.map with line := l })
    ∧ (∀ (f : ProfileFields) (i : Fin 8), f.profile = byteOf i →
        10 ≤ f.tF.toNat → f.tF.toNat ≤ 2000 → f.tO1.toNat ≤ 100 → f.tR.toNat ≤ 200 → f.tO2.toNat ≤ 100 →
        100 ≤ f.rho.toNat → f.rho.toNat ≤ 500 →
        let period := f.tF.toNat + f.tO1.toNat + f.tR.toNat + f.tO2.toNat
        f.phi.toNat < period → f.rho.toNat * f.tR.toNat + 5 * period ≤ 100 * f.tF.toNat →
        let p : Profile :=
          { isSet := true, tF := f.tF.toNat, tO1 := f.tO1.toNat, tR := f.tR.toNat, tO2 := f.tO2.toNat,
            rho := f.rho.toNat, phi := f.phi.toNat }
        let t : State := { s with map := { s.map with profiles := bankSet s.map.profiles i p } }
        exec (.setProfile addr f) s = .next (t.answering addr 0x04 .accepted []))

/-- R11, R13, R14: an edit is refused by the first check it fails: the map access state, the ranges of its fields,
the zones in service and the live records, the validity of the map; the map stays as it was. R14, R21: SET PROFILE is
refused by the map access state, and then when its profile number, a field, φ or the validity condition fails. -/
def Obligations.MapEditIsRefused : Prop :=
  (∀ (addr : Byte) (r : Request) (edit : Option LineMap) (s : State), Listening s addr → s.mapEdit r = some edit →
    let refusal (x : Result) : Prop :=
      exec (requestCommand addr r) s = .next (s.answering addr (requestCode r) x [])
    (s.map.access = .locked → refusal .mapLocked)
    ∧ (s.map.access = .closed → (∃ z : Fin 16, s.zones[z].state ≠ .disabled) → refusal .mapClosed)
    ∧ ((s.map.access = .opened ∨ (s.map.access = .closed ∧ ∀ z : Fin 16, s.zones[z].state = .disabled)) →
        (edit = none → refusal .badValue)
        ∧ ∀ m, edit = some m →
          (s.keepsRunning m = false → refusal .wrongState)
          ∧ (s.keepsRunning m = true → m.valid s.table.live = false → refusal .mapInvalid)))
  ∧ ∀ (addr : Byte) (f : ProfileFields) (s : State), Listening s addr →
    let refusal (x : Result) : Prop := exec (.setProfile addr f) s = .next (s.answering addr 0x04 x [])
    let period := f.tF.toNat + f.tO1.toNat + f.tR.toNat + f.tO2.toNat
    let inRanges : Prop := f.profile.toNat ≤ 7 ∧ 10 ≤ f.tF.toNat ∧ f.tF.toNat ≤ 2000 ∧ f.tO1.toNat ≤ 100
      ∧ f.tR.toNat ≤ 200 ∧ f.tO2.toNat ≤ 100 ∧ 100 ≤ f.rho.toNat ∧ f.rho.toNat ≤ 500 ∧ f.phi.toNat < period
      ∧ f.rho.toNat * f.tR.toNat + 5 * period ≤ 100 * f.tF.toNat
    (s.map.access = .locked → refusal .mapLocked)
    ∧ (s.map.access = .closed → (∃ z : Fin 16, s.zones[z].state ≠ .disabled) → refusal .mapClosed)
    ∧ ((s.map.access = .opened ∨ (s.map.access = .closed ∧ ∀ z : Fin 16, s.zones[z].state = .disabled)) →
        ¬ inRanges → refusal .badValue)

/-- R15: MAP ACCESS, in each map access state, and an operation outside the three. -/
def Obligations.MapAccessRequest : Prop :=
  ∀ (addr : Byte) (s : State), Listening s addr →
    let becomes (a : MapAccess) : Host.Outcome State Fault Refusal :=
      .next (({ s with map := { s.map with access := a } } : State).answering addr 0x06 .accepted [])
    let locked : Host.Outcome State Fault Refusal := .next (s.answering addr 0x06 .mapLocked [])
    exec (.mapAccess addr 0) s = (if s.map.access = .locked then locked else becomes .opened)
    ∧ exec (.mapAccess addr 1) s = (if s.map.access = .locked then locked else becomes .closed)
    ∧ exec (.mapAccess addr 2) s = becomes .locked
    ∧ ∀ op : Byte, 2 < op.toNat → exec (.mapAccess addr op) s = .next (s.answering addr 0x06 .badValue [])

/-- R15: once LOCKED, the map access state remains LOCKED until power-on reset, and no command changes a zone
entry, a channel entry, a profile or a line setting other than the group number. -/
def Obligations.LockedMapStaysLocked : Prop :=
  ∀ (i : Instr) (s t : State), s.map.access = .locked → (∀ p, i ≠ .powerOnReset p) → exec i s = .next t →
    t.map.access = .locked ∧ t.map.zones = s.map.zones ∧ t.map.channels = s.map.channels
    ∧ t.map.profiles = s.map.profiles ∧ t.map.line = { s.map.line with group := t.map.line.group }

/-- R26: DEFINE PROGRAM. -/
def Obligations.DefineProgramRequest : Prop :=
  ∀ (addr slot : Byte) (qT jMin jMax : Half) (s : State), Listening s addr →
    let inRanges := 1 ≤ qT.toNat ∧ qT.toNat ≤ 20000 ∧ 1 ≤ jMin.toNat ∧ jMin.toNat ≤ 2000
      ∧ 1 ≤ jMax.toNat ∧ jMax.toNat ≤ 2000 ∧ jMin.toNat ≤ jMax.toNat
    let stored (k : Fin 16) (p : Slot) : State := { s with programs := bankSet s.programs k p }
    (¬ (slot.toNat ≤ 15 ∧ inRanges) →
      exec (.defineProgram addr slot qT jMin jMax) s = .next (s.answering addr 0x10 .badValue []))
    ∧ ∀ k : Fin 16, slot = byteOf k → inRanges →
      exec (.defineProgram addr slot qT jMin jMax) s = .next (match s.programs[k].state with
        | .empty => (stored k { state := .opened, refs := 0, qT := qT.toNat, jMin := jMin.toNat,
                                jMax := jMax.toNat }).answering addr 0x10 .accepted []
        | .opened => (stored k { state := .opened, refs := s.programs[k].refs, qT := qT.toNat, jMin := jMin.toNat,
                                 jMax := jMax.toNat }).answering addr 0x10 .accepted []
        | .frozen => s.answering addr 0x10 .slotFrozen []
        | .withdrawn => s.answering addr 0x10 .slotNotAssignable [])

/-- R27 to R30: FREEZE, WITHDRAW, REINSTATE and ERASE in each slot state, and a slot number above 15. -/
def Obligations.SlotStateRequests : Prop :=
  ∀ (addr : Byte) (k : Fin 16) (s : State), Listening s addr →
    let p := s.programs[k]
    let becomes (code : Byte) (q : Slot) : State :=
      ({ s with programs := bankSet s.programs k q } : State).answering addr code .accepted []
    let kept (code : Byte) (x : Result) : State := s.answering addr code x []
    exec (.freeze addr (byteOf k)) s = .next (match p.state with
      | .opened => becomes 0x12 { p with state := .frozen }
      | .frozen => kept 0x12 .accepted
      | .empty => kept 0x12 .slotEmpty
      | .withdrawn => kept 0x12 .slotNotAssignable)
    ∧ exec (.withdraw addr (byteOf k)) s = .next (match p.state with
      | .opened => becomes 0x13 { p with state := .withdrawn }
      | .frozen => becomes 0x13 { p with state := .withdrawn }
      | .withdrawn => kept 0x13 .accepted
      | .empty => kept 0x13 .slotEmpty)
    ∧ exec (.reinstate addr (byteOf k)) s = .next (match p.state with
      | .withdrawn => becomes 0x14 { p with state := .frozen }
      | .empty => kept 0x14 .slotEmpty
      | .opened => kept 0x14 .wrongState
      | .frozen => kept 0x14 .wrongState)
    ∧ exec (.erase addr (byteOf k)) s = .next (if p.refs = 0
        then becomes 0x15 { state := .empty, refs := 0, qT := 0, jMin := 0, jMax := 0 }
        else kept 0x15 .slotInUse)
    ∧ ∀ slot : Byte, 15 < slot.toNat →
      exec (.freeze addr slot) s = .next (kept 0x12 .badValue)
      ∧ exec (.withdraw addr slot) s = .next (kept 0x13 .badValue)
      ∧ exec (.reinstate addr slot) s = .next (kept 0x14 .badValue)
      ∧ exec (.erase addr slot) s = .next (kept 0x15 .badValue)

/-! ### Reading -/

/-- R18, R34, R68, R75, R102, R150, R186: READ MAP, READ PROGRAM, LOOKUP, READ QUEUE, READ ZONE, READ FAULTS and
READ EVENTS answer with what stands and change nothing but the receiver; an item outside its range is BAD_VALUE and
a record that is not there NO_SUCH_TAG. How the displaced-record copy is sent is the model's reading (assumption 12). -/
def Obligations.ReadsChangeNothing : Prop :=
  ∀ (addr : Byte) (s : State), Listening s addr →
    let tells (code : Byte) (payload : List Byte) : Host.Outcome State Fault Refusal :=
      .next (s.answering addr code .accepted payload)
    let refuses (code : Byte) (x : Result) : Host.Outcome State Fault Refusal := .next (s.answering addr code x [])
    (∀ z : Fin 16, exec (.readMap addr 0 (byteOf z)) s = tells 0x05 (s.map.zonePayload z)
      ∧ exec (.readZone addr (byteOf z)) s = tells 0x32 (s.zonePayload z))
    ∧ (∀ c : Fin 32, exec (.readMap addr 1 (byteOf c)) s = tells 0x05 (s.map.channelPayload c))
    ∧ (∀ i : Fin 8, exec (.readMap addr 2 (byteOf i)) s = tells 0x05 (s.map.profilePayload i))
    ∧ (∀ item, exec (.readMap addr 3 item) s = tells 0x05 s.map.line.payload
      ∧ exec (.readMap addr 4 item) s = tells 0x05 s.map.summaryPayload)
    ∧ (∀ selector item : Byte, 4 < selector.toNat → exec (.readMap addr selector item) s = refuses 0x05 .badValue)
    ∧ (∀ item : Byte, 15 < item.toNat → exec (.readMap addr 0 item) s = refuses 0x05 .badValue
      ∧ exec (.readZone addr item) s = refuses 0x32 .badValue)
    ∧ (∀ item : Byte, 31 < item.toNat → exec (.readMap addr 1 item) s = refuses 0x05 .badValue)
    ∧ (∀ item : Byte, 7 < item.toNat → exec (.readMap addr 2 item) s = refuses 0x05 .badValue)
    ∧ (∀ k : Fin 16, exec (.readProgram addr (byteOf k)) s = tells 0x11 (slotPayload k s.programs[k]))
    ∧ exec (.readProgram addr 0xFF) s = tells 0x11 s.slotsPayload
    ∧ (∀ k : Byte, 15 < k.toNat → k ≠ 0xFF → exec (.readProgram addr k) s = refuses 0x11 .badValue)
    ∧ exec (.readQueue addr) s = tells 0x29 s.queuePayload
    ∧ exec (.readFaults addr) s = tells 0x39 s.faultsPayload
    ∧ exec (.readEvents addr) s = tells 0x50 s.eventsPayload
    ∧ (∀ key : Long, 1 ≤ key.toNat → key.toNat ≤ 65535 → exec (.lookup addr 0 key) s =
        match s.table.live.find? fun r => r.tag == key.toNat with
        | some r => tells 0x22 (s.recordPayload r)
        | none => refuses 0x22 .noSuchTag)
    ∧ (∀ key : Long, key.toNat ≤ 63 → exec (.lookup addr 1 key) s =
        match s.table.live.find? fun r => r.index.val == key.toNat with
        | some r => tells 0x22 (s.recordPayload r)
        | none => refuses 0x22 .noSuchTag)
    ∧ (∀ key : Long, exec (.lookup addr 2 key) s =
        match s.table.live.find? fun r => decide (s.trail r ≤ key.toInt) && decide (key.toInt < s.lead r) with
        | some r => tells 0x22 (s.recordPayload r)
        | none => refuses 0x22 .noSuchTag)
    ∧ (∀ key : Long, exec (.lookup addr 3 key) s =
        match s.table.displaced with
        | some d => tells 0x22 d.payload
        | none => refuses 0x22 .noSuchTag)
    ∧ (∀ key : Long, exec (.lookup addr 0 0) s = refuses 0x22 .badValue
        ∧ (65535 < key.toNat → exec (.lookup addr 0 key) s = refuses 0x22 .badValue)
        ∧ (63 < key.toNat → exec (.lookup addr 1 key) s = refuses 0x22 .badValue)
        ∧ ∀ selector : Byte, 3 < selector.toNat → exec (.lookup addr selector key) s = refuses 0x22 .badValue)

/-- R53, R137, R177: READ POSITION, READ CHANNEL and READ LINK report what stands, and then clear the ignored-edge
counts or the stale-readback counter when asked, and the four error counters always. The speed byte of READ LINK is the
BAUD strap as it was read, which at 19,200 is the model's choice between the codes 0 and 3 (assumption 20). -/
def Obligations.ReadsThatClear : Prop :=
  ∀ (addr : Byte) (s : State), Listening s addr →
    exec (.readPosition addr 0) s = .next (s.answering addr 0x19 .accepted s.positionPayload)
    ∧ exec (.readPosition addr 1) s = .next (({ s with pos := { s.pos with
        entry := { s.pos.entry with ignored := 0 }, exit := { s.pos.exit with ignored := 0 } } } : State).answering
        addr 0x19 .accepted s.positionPayload)
    ∧ (∀ c : Fin 32, exec (.readChannel addr (byteOf c) 0) s
        = .next (s.answering addr 0x38 .accepted (s.channelPayload c))
      ∧ exec (.readChannel addr (byteOf c) 1) s = .next (({ s with drive := { s.drive with
          channels := bankSet s.drive.channels c { s.drive.channels[c] with stale := 0 } } } : State).answering
          addr 0x38 .accepted (s.channelPayload c)))
    ∧ (∀ x c : Byte, 1 < x.toNat → exec (.readPosition addr x) s = .next (s.answering addr 0x19 .badValue [])
      ∧ exec (.readChannel addr c x) s = .next (s.answering addr 0x38 .badValue []))
    ∧ (∀ c x : Byte, 31 < c.toNat → exec (.readChannel addr c x) s = .next (s.answering addr 0x38 .badValue []))
    ∧ exec (.readLink addr) s = .next (({ s with link := { s.link with
        crcErrors := 0, framingErrors := 0, overruns := 0, groupMisuse := 0 } } : State).answering
        addr 0x49 .accepted s.linkPayload)

/-! ### The Carrier Table -/

/-- R43: SET SPEED stores the speed brought into 100 to 10,000 and answers with the value in force; taken from a
group address it does the same without a reply. -/
def Obligations.SetSpeedRequest : Prop :=
  ∀ (addr : Byte) (v : Half) (s : State),
    let speed := min 10000 (max 100 v.toNat)
    let t : State := { s with pos := { s.pos with speed := speed } }
    (Listening s addr → exec (.setSpeed addr v) s = .next (t.answering addr 0x18
      (if 100 ≤ v.toNat ∧ v.toNat ≤ 10000 then .accepted else .acceptedClamped) (nat2 speed)))
    ∧ (ListeningToGroup s addr → exec (.setSpeed addr v) s = .next t.heard)

/-- R59, R31: an ANNOUNCE that passes its checks is appended as the newest, its reference taken; the checks refuse
in their order. -/
def Obligations.AnnounceRequest : Prop :=
  ∀ (addr : Byte) (f : AnnounceFields) (s : State), Listening s addr →
    let refusal (x : Result) : Prop := exec (.announce addr f) s = .next (s.answering addr 0x20 x [])
    (announcementOf s.map.line.lMin f = none → refusal .badValue)
    ∧ ∀ a : Announcement, announcementOf s.map.line.lMin f = some a →
      (s.tagHeld a.tag = true → refusal .tagInUse)
      ∧ (s.tagHeld a.tag = false → 8 ≤ s.table.queue.length → refusal .queueFull)
      ∧ (s.tagHeld a.tag = false → s.table.queue.length < 8 →
        let queued : CarrierTable := { s.table with queue := s.table.queue ++ [a] }
        (a.slot = none → exec (.announce addr f) s = .next
          (({ s with table := queued } : State).answering addr 0x20 .accepted (nat1 (s.table.queue.length + 1))))
        ∧ ∀ k : Fin 16, a.slot = some k →
          (s.programs[k].state = .empty → refusal .slotEmpty)
          ∧ (s.programs[k].state = .withdrawn → refusal .slotNotAssignable)
          ∧ ((s.programs[k].state = .opened ∨ s.programs[k].state = .frozen) →
            exec (.announce addr f) s = .next (({ s with
              table := queued
              programs := bankSet s.programs k { s.programs[k] with refs := s.programs[k].refs + 1 } }
              : State).answering addr 0x20 .accepted (nat1 (s.table.queue.length + 1)))))

/-- R60: CANCEL ANNOUNCEMENT removes the announcement with the tag, releases its slot's reference and answers with
the number now queued; tag 0 is BAD_VALUE and a tag no announcement holds NO_SUCH_TAG. -/
def Obligations.CancelRequest : Prop :=
  ∀ (addr : Byte) (tag : Half) (s : State), Listening s addr →
    (tag = 0 → exec (.cancelAnnouncement addr tag) s = .next (s.answering addr 0x21 .badValue []))
    ∧ (tag ≠ 0 → (∀ a ∈ s.table.queue, a.tag ≠ tag.toNat) →
        exec (.cancelAnnouncement addr tag) s = .next (s.answering addr 0x21 .noSuchTag []))
    ∧ ∀ (ahead behind : List Announcement) (a : Announcement), tag ≠ 0 → s.table.queue = ahead ++ a :: behind →
        a.tag = tag.toNat → (∀ b ∈ ahead, b.tag ≠ tag.toNat) →
        exec (.cancelAnnouncement addr tag) s = .next (({ s with
          table := { s.table with queue := ahead ++ behind }
          programs := match a.slot with
            | none => s.programs
            | some k => bankSet s.programs k { s.programs[k] with refs := s.programs[k].refs - 1 } }
          : State).answering addr 0x21 .accepted (nat1 (ahead.length + behind.length)))

/-- R69, R31, R52: the checks of AMEND refuse in their order; a taken one moves the reference where the program
changes, writes the present parts and adds the AMENDED mark, a new length is tested by the plating-end watch, and the
reply carries the record as it then stands. -/
def Obligations.AmendRequest : Prop :=
  ∀ (addr : Byte) (f : AmendFields) (s : State), Listening s addr →
    let refusal (x : Result) : Prop := exec (.amend addr f) s = .next (s.answering addr 0x23 x [])
    (amendmentOf s.map.line.lMin f = none → refusal .badValue)
    ∧ ∀ a : Amendment, amendmentOf s.map.line.lMin f = some a →
      ((s.table.live.find? fun r => r.tag == a.tag) = none → refusal .noSuchTag)
      ∧ ∀ r : Record, (s.table.live.find? fun r => r.tag == a.tag) = some r →
        (s.lengthOverlaps r a.length = true → refusal .overlap)
        ∧ (s.lengthOverlaps r a.length = false →
          (∀ e, moveProgram r.slot (a.program.getD r.slot) s = .error e → refusal e)
          ∧ ∀ u : State, moveProgram r.slot (a.program.getD r.slot) s = .ok u →
            let written := modifyRecord r.index r.generation (fun q => { q with
              length := a.length.getD q.length
              areaA := (a.areas.map Prod.fst).getD q.areaA
              areaB := (a.areas.map Prod.snd).getD q.areaB
              slot := a.program.getD q.slot
              marks := { q.marks with amended := true } }) u
            let t := if a.length = none then written else platingEndWatch r.index r.generation written
            exec (.amend addr f) s = .next (t.answering addr 0x23 .accepted
              (match findRecord t.table.live r.index r.generation with
                | some q => t.recordPayload q
                | none => [])))

/-- R70: a taken IDENTIFY gives a record of tag 0 its tag and, when one is carried, its program; the checks refuse in
their order. -/
def Obligations.IdentifyRequest : Prop :=
  ∀ (addr index generation : Byte) (tag : Half) (slot : Option Byte) (s : State), Listening s addr →
    let c := Instr.identify addr index generation tag slot
    let refusal (x : Result) : Prop := exec c s = .next (s.answering addr 0x24 x [])
    (identityOf index tag slot = none → refusal .badValue)
    ∧ ∀ (i : Fin 64) (t : Nat) (k : Option (Fin 16)), identityOf index tag slot = some (i, t, k) →
      ((s.table.live.find? fun r => r.index == i && r.generation == generation) = none → refusal .noSuchTag)
      ∧ ∀ r : Record, (s.table.live.find? fun r => r.index == i && r.generation == generation) = some r →
        (r.tag ≠ 0 → refusal .wrongState)
        ∧ (r.tag = 0 → s.tagHeld t = true → refusal .tagInUse)
        ∧ (r.tag = 0 → s.tagHeld t = false →
          let program := if k = none then r.slot else k
          (∀ e, moveProgram r.slot program s = .error e → refusal e)
          ∧ ∀ u : State, moveProgram r.slot program s = .ok u →
            let v := modifyRecord r.index r.generation (fun q => { q with tag := t, slot := program }) u
            exec c s = .next (v.answering addr 0x24 .accepted
              (match findRecord v.table.live r.index r.generation with
                | some q => v.recordPayload q
                | none => [])))

/-- R71, R55: a taken PLACE makes a record at the lowest free index with its generation moved on, at the entry mark
the lead gives, with the carried tag, length, areas, program and accounts, and answers with index, generation and
lead; the checks refuse in their order. The overlap check refuses by the words of R71 and by the spans of R57
(assumption 6). -/
def Obligations.PlaceRequest : Prop :=
  ∀ (addr : Byte) (f : PlaceFields) (s : State), Listening s addr →
    let refusal (x : Result) : Prop := exec (.place addr f) s = .next (s.answering addr 0x25 x [])
    (placementOf s.map.line.lMin f = none → refusal .badValue)
    ∧ ∀ p : Placement, placementOf s.map.line.lMin f = some p →
      (p.tag ≠ 0 → s.tagHeld p.tag = true → refusal .tagInUse)
      ∧ ((p.tag = 0 ∨ s.tagHeld p.tag = false) →
        (64 ≤ s.table.live.length → refusal .tableFull)
        ∧ ∀ i : Fin 64, s.table.live.length < 64 → freeIndex s.table.live = some i →
          let new := placedRecord p i (s.table.generations[i] + 1)
            (s.pos.count - BitVec.ofNat 32 (p.lead * s.map.line.scale / 1000))
          (s.placeOverlaps new = true → refusal .overlap)
          ∧ (s.placeOverlaps new = false →
            (∀ e, takeProgram p.slot s = .error e → refusal e)
            ∧ ∀ u : State, takeProgram p.slot s = .ok u → ∃ t : State,
              exec (.place addr f) s = .next (t.answering addr 0x25 .accepted
                (nat1 i ++ [new.generation] ++ position4 (s.lead new)))
              ∧ t = applyPlace new u
              ∧ t.table.generations = bankSet s.table.generations i (s.table.generations[i] + 1)
              ∧ t.table.live.length = s.table.live.length + 1
              ∧ t.zones = s.zones ∧ t.drive = s.drive ∧ t.pos = s.pos ∧ t.map = s.map))

/-- R72, R73: a taken RETIRE removes the record, in any state, releases its reference and moves a cursor that points
at it; the reply carries the record as it stood. -/
def Obligations.RetireRequest : Prop :=
  ∀ (addr selector : Byte) (key : Half) (s : State), Listening s addr →
    (∀ e, s.retireTarget selector key = .error e →
      exec (.retire addr selector key) s = .next (s.answering addr 0x26 e []))
    ∧ (∀ (r : Record) (ahead behind : List Record), s.retireTarget selector key = .ok r →
      s.table.live = ahead ++ r :: behind → (∀ q ∈ ahead, q.index ≠ r.index ∨ q.generation ≠ r.generation) →
      exec (.retire addr selector key) s = .next (({ s with
        table := { s.table with
          live := ahead ++ behind
          cursor := if s.table.cursor = .atRecord r.index r.generation
              ∨ s.table.cursor = .aheadOf r.index r.generation then
            (match behind with
              | q :: _ => .aheadOf q.index q.generation
              | [] => .nowhere)
            else s.table.cursor }
        programs := match r.slot with
          | none => s.programs
          | some k => bankSet s.programs k { s.programs[k] with refs := s.programs[k].refs - 1 } }
        : State).answering addr 0x26 .accepted (s.recordPayload r)))
    ∧ ∀ tag : Half, (tag = 0 → s.retireTarget 0 tag = .error .badValue)
      ∧ (tag ≠ 0 → s.retireTarget 0 tag = match s.table.live.find? fun r => r.tag == tag.toNat with
          | some r => .ok r
          | none => .error .noSuchTag)

/-- R74: WALK FIRST returns the leading record and sets the cursor at it; WALK NEXT returns the record the cursor is
ahead at, or the successor of the one it is at; without such a record the answer is END and the cursor none. -/
def Obligations.WalkRequests : Prop :=
  ∀ (addr : Byte) (s : State), Listening s addr →
    let returned (code : Byte) (r : Record) : Host.Outcome State Fault Refusal :=
      .next (({ s with table := { s.table with cursor := .atRecord r.index r.generation } } : State).answering
        addr code .accepted (0 :: s.recordPayload r))
    let ended (code : Byte) : Host.Outcome State Fault Refusal :=
      .next (({ s with table := { s.table with cursor := .nowhere } } : State).answering addr code .accepted [1])
    (exec (.walkFirst addr) s = match s.table.live with
      | r :: _ => returned 0x27 r
      | [] => ended 0x27)
    ∧ (s.table.cursor = .nowhere → exec (.walkNext addr) s = ended 0x28)
    ∧ (∀ (ahead behind : List Record) (r : Record), s.table.live = ahead ++ r :: behind →
      (∀ q ∈ ahead, q.index ≠ r.index ∨ q.generation ≠ r.generation) →
      (s.table.cursor = .aheadOf r.index r.generation → exec (.walkNext addr) s = returned 0x28 r)
      ∧ (s.table.cursor = .atRecord r.index r.generation → exec (.walkNext addr) s = match behind with
          | q :: _ => returned 0x28 q
          | [] => ended 0x28))

/-! ### Zones -/

/-- R84, R82: a taken ENABLE ZONE clears the miss counters of the zone's channels and takes the zone into HALTED,
RUNNING, PROTECT or PARKED; RUNNING and PROTECT build the first snapshot (R79), with its entries held (R66) and its
ORDERs posted (R100), and start the lead-in. The checks refuse in their order. That a COMMON snapshot sets side B's last
order values to none is the model's reading (assumption 12), and so is that a clamp in the first snapshot raises LIMITED
(R98, R99), where R84 says that ENABLE ZONE raises no event (assumption 23). -/
def Obligations.EnableZoneRequest : Prop :=
  ∀ (addr : Byte) (z : Fin 16) (s : State), Listening s addr →
    let q := s.zones[z]
    let c := Instr.enableZone addr (byteOf z)
    let into : ZoneState := if s.sup.halted then .halted else
      match s.pos.motion with
      | .moving => .running
      | .stopped => .protect
      | .parked => .parked
    (∀ b : Byte, 15 < b.toNat → exec (.enableZone addr b) s = .next (s.answering addr 0x30 .badValue []))
    ∧ (q.state ≠ .disabled → q.state ≠ .faulted → exec c s = .next (s.answering addr 0x30 .wrongState []))
    ∧ ((q.state = .disabled ∨ q.state = .faulted) → s.map.enableable z = false →
        exec c s = .next (s.answering addr 0x30 .mapInvalid []))
    ∧ ((q.state = .disabled ∨ q.state = .faulted) → s.map.enableable z = true → ∃ t : State,
        exec c s = .next (t.answering addr 0x30 .accepted (nat1 into.code))
        ∧ t.zones[z].state = into
        ∧ (∀ ch ∈ s.map.zones[z].channels, t.drive.channels[ch].misses = 0)
        ∧ (∀ y : Fin 16, y ≠ z → t.zones[y] = s.zones[y])
        ∧ t.map = s.map ∧ t.programs = s.programs ∧ t.pos = s.pos ∧ t.monitor = s.monitor ∧ t.sup = s.sup
        ∧ t.link = s.link
        ∧ ((into = .halted ∨ into = .parked) →
            t.zones[z] = { q with state := into } ∧ t.table = s.table ∧ t.attn = s.attn
            ∧ t.drive.queue = s.drive.queue ∧ t.drive.bus = s.drive.bus)
        ∧ ((into = .running ∨ into = .protect) → EntersService s t z into))

/-- R85, R83: DISABLE ZONE on a DISABLED zone changes nothing; on any other it stops both timers, discards the UNSTARTED
snapshot and a STARTED one whose MARK still waits (R80), with their ORDERs and MARK withdrawn and their entries released
(R66), and has a STOP waiting or on the bus for each channel the zone's type uses; the last sequence number, the late
counter and the orphan accounts are kept. Which of a discarded snapshot's entries are released is the model's reading
(assumption 17), and so is that a release that decides a SHORT outcome raises SHORTFALL (R65), where R85 says that
DISABLE ZONE raises no event (assumption 23); a release at count 0 is its choice (assumption 14). -/
def Obligations.DisableZoneRequest : Prop :=
  ∀ (addr : Byte) (z : Fin 16) (s : State), Listening s addr →
    let q := s.zones[z]
    let c := Instr.disableZone addr (byteOf z)
    (∀ b : Byte, 15 < b.toNat → exec (.disableZone addr b) s = .next (s.answering addr 0x31 .badValue []))
    ∧ (q.state = .disabled → exec c s = .next (s.answering addr 0x31 .accepted []))
    ∧ (q.state ≠ .disabled → ∃ t : State, exec c s = .next (t.answering addr 0x31 .accepted [])
        ∧ t.zones[z].state = .disabled ∧ t.zones[z].periodTimer = none ∧ t.zones[z].restartTimer = none
        ∧ t.zones[z].lastSeq = q.lastSeq ∧ t.zones[z].late = q.late
        ∧ t.zones[z].orphanFwd = q.orphanFwd ∧ t.zones[z].orphanRev = q.orphanRev
        ∧ (∀ n ∈ t.zones[z].pending, n ∈ q.pending)
        ∧ (ServiceLaw q → LeavesService s t z .disabled ∧ (TableLaw s → Releases s t (s.discardedEntries z)))
        ∧ (∀ y : Fin 16, y ≠ z → t.zones[y] = s.zones[y])
        ∧ (∀ ch ∈ s.map.zones[z].channels, .stop ch (some z) ∈ t.drive.queue
            ∨ ∃ b : Transaction, t.drive.bus = some b ∧ b.item = .stop ch (some z))
        ∧ (∀ r ∈ t.table.live, ∃ r' ∈ s.table.live, r = { r' with
            pendingCount := r.pendingCount, outcome := r.outcome })
        ∧ t.map = s.map ∧ t.programs = s.programs ∧ t.pos = s.pos ∧ t.monitor = s.monitor ∧ t.sup = s.sup
        ∧ t.link = s.link)

/-! ### Halt, reset and the station -/

/-- R152, R153, R90: a HALT request or HALT_N going active on a line that is not halted sets HALTED, raises HALT, posts
the ABORT, and takes every RUNNING, PROTECT and PARKED zone out of service into HALTED by the steps of R83: both timers
stopped, and the UNSTARTED snapshot and a STARTED one whose MARK still waits discarded (R80). On a halted line nothing
changes but the level held of HALT_N. Which of a discarded snapshot's entries are released is the model's reading
(assumption 17), and a release at count 0 its choice (assumption 14). -/
def Obligations.HaltCommands : Prop :=
  ∀ (addr : Byte) (s : State),
    (Listening s addr → s.sup.halted = true → exec (.halt addr) s = .next (s.answering addr 0x40 .accepted []))
    ∧ (ListeningToGroup s addr → s.sup.halted = true → exec (.halt addr) s = .next s.heard)
    ∧ (s.inReset = false → s.sup.halted = true →
        exec .haltNActive s = .next { s with sup := { halted := true, haltNActive := true } })
    ∧ (s.inReset = false → s.sup.halted = false → ∀ pin : Bool, ∃ t : State,
        (pin = true → exec .haltNActive s = .next t)
        ∧ (pin = false → Listening s addr → exec (.halt addr) s = .next (t.answering addr 0x40 .accepted []))
        ∧ (pin = false → ListeningToGroup s addr → exec (.halt addr) s = .next t.heard)
        ∧ t.sup = { halted := true, haltNActive := if pin then true else s.sup.haltNActive }
        ∧ t.attn.isSet .halt = true
        ∧ (.abort ∈ t.drive.queue ∨ ∃ b : Transaction, t.drive.bus = some b ∧ b.item = .abort)
        ∧ (∀ z : Fin 16, match s.zones[z].state with
            | .disabled => t.zones[z] = s.zones[z]
            | .faulted => t.zones[z] = s.zones[z]
            | .halted => t.zones[z] = { s.zones[z] with restartTimer := none }
            | _ => t.zones[z].state = .halted ∧ t.zones[z].periodTimer = none ∧ t.zones[z].restartTimer = none
              ∧ (ServiceLaw s.zones[z] → LeavesService s t z .halted))
        ∧ (TableLaw s → (∀ z : Fin 16, ServiceLaw s.zones[z]) → Releases s t (zoneNumbers.flatMap fun z =>
            match s.zones[z].state with
            | .running | .protect | .parked => s.discardedEntries z
            | _ => []))
        ∧ t.map = s.map ∧ t.programs = s.programs ∧ t.pos = s.pos ∧ t.monitor = s.monitor ∧ t.link = s.link)

/-- R154, R91: RESUME is refused with WRONG_STATE when HALTED is clear or HALT_N is active; otherwise it clears
HALTED, and every HALTED zone starts its restart timer with the restart delay in force. A group RESUME does the same
without a reply. -/
def Obligations.ResumeRequest : Prop :=
  ∀ (addr : Byte) (s : State),
    ((s.sup.halted = false ∨ s.sup.haltNActive = true) →
      (Listening s addr → exec (.resume addr) s = .next (s.answering addr 0x41 .wrongState []))
      ∧ (ListeningToGroup s addr → exec (.resume addr) s = .next s.heard))
    ∧ (s.sup.halted = true → s.sup.haltNActive = false →
      ∃ zones : Vector Sequencer 16,
        let t : State := { s with sup := { halted := false, haltNActive := false }, zones := zones }
        (∀ z : Fin 16, zones[z] = if s.zones[z].state = .halted
          then { s.zones[z] with restartTimer := some s.map.line.restartDelay } else s.zones[z])
        ∧ (Listening s addr → exec (.resume addr) s = .next (t.answering addr 0x41 .accepted []))
        ∧ (ListeningToGroup s addr → exec (.resume addr) s = .next t.heard))

/-- R156 to R158: RESET LINE empties or clears every item of its table, keeps what R157 names, and posts a STOP with
poster none for every channel that a zone entry uses, in zone order, side A before side B. -/
def Obligations.ResetLineRequest : Prop :=
  ∀ (addr : Byte) (s : State), Listening s addr → s.map.channelUses.Nodup → ∃ t : State,
    exec (.resetLine addr) s = .next (t.answering addr 0x42 .accepted [])
    ∧ t.map = { s.map with access := if s.map.access = .opened then .closed else s.map.access }
    ∧ (∀ k : Fin 16, t.programs[k] = { s.programs[k] with refs := 0 })
    ∧ t.pos = { s.pos with
        entry := { s.pos.entry with mark := none, ignored := 0 }
        exit := { s.pos.exit with mark := none, ignored := 0 } }
    ∧ t.table = { live := [], generations := s.table.generations, queue := [], cursor := .nowhere,
                  displaced := none }
    ∧ (∀ z : Fin 16, t.zones[z] =
        { state := .disabled, periodTimer := none, restartTimer := none, lastSeq := s.zones[z].lastSeq,
          pending := [], orphanFwd := 0, orphanRev := 0, late := 0, lastA := none, lastB := none })
    ∧ (∀ c : Fin 32, t.drive.channels[c] = { misses := 0, stale := 0, lastStatus := none, lastEnd := none })
    ∧ (s.drive.bus ≠ none →
        t.drive.bus = s.drive.bus ∧ t.drive.queue = s.map.channelUses.map fun c => .stop c none)
    ∧ (s.drive.bus = none → match s.map.channelUses with
        | [] => t.drive.bus = none ∧ t.drive.queue = []
        | c :: rest => t.drive.bus
            = some { item := .stop c none, window := s.map.line.replyWindow, phase := .sending }
          ∧ t.drive.queue = rest.map fun c => .stop c none)
    ∧ t.monitor = { firstMajor := none, firstMinor := none, latestMajor := none, latestMinor := none }
    ∧ t.sup = s.sup ∧ t.link = s.link
    ∧ t.attn = { s.attn with flags := 0, reminderTimer := none }

/-- R176, R8: a taken SET ADDRESS sets the station address and the group number, in every map access state, and
changes nothing else; the reply comes from the address the request was sent to. -/
def Obligations.SetAddressRequest : Prop :=
  ∀ (addr address group : Byte) (s : State), Listening s addr →
    let c := Instr.setAddress addr address group
    (¬ (1 ≤ address.toNat ∧ address.toNat ≤ 239 ∧ (group.toNat ≤ 14 ∨ group = 0xFF)) →
      exec c s = .next (s.answering addr 0x48 .badValue []))
    ∧ (1 ≤ address.toNat → address.toNat ≤ 239 →
      (∀ g : Fin 15, group = byteOf g → exec c s = .next (({ s with
        link := { s.link with station := address.toNat }
        map := { s.map with line := { s.map.line with group := some g } } } : State).answering
        addr 0x48 .accepted []))
      ∧ (group = 0xFF → exec c s = .next (({ s with
        link := { s.link with station := address.toNat }
        map := { s.map with line := { s.map.line with group := none } } } : State).answering
        addr 0x48 .accepted [])))

/-! ### Attention -/

/-- R179, R180, R149: a taken CLEAR EVENTS clears the flags its mask names and no other, empties the latch and
record of MAJOR or MINOR when named, and requests the test pulse when it names a clear but enabled MAJOR; a mask
beyond the eighteen is BAD_VALUE. -/
def Obligations.ClearEventsRequest : Prop :=
  ∀ (addr : Byte) (mask : Mask) (s : State), Listening s addr →
    let m : BitVec 18 := mask.setWidth 18
    (2 ^ 18 ≤ mask.toNat → exec (.clearEvents addr mask) s = .next (s.answering addr 0x51 .badValue []))
    ∧ (mask.toNat < 2 ^ 18 → ∃ t : State,
        exec (.clearEvents addr mask) s = .next (t.answering addr 0x51 .accepted (flags3 t.attn.flags))
        ∧ t.attn.flags = s.attn.flags &&& ~~~m
        ∧ t.attn.enables = s.attn.enables ∧ t.attn.mode = s.attn.mode ∧ t.attn.interval = s.attn.interval
        ∧ t.attn.pulseOn = (s.attn.pulseOn
            || (m.getLsbD 0 && !s.attn.flags.getLsbD 0 && s.attn.enables.getLsbD 0))
        ∧ t.monitor = {
            firstMajor := if m.getLsbD 0 then none else s.monitor.firstMajor
            firstMinor := if m.getLsbD 8 then none else s.monitor.firstMinor
            latestMajor := if m.getLsbD 0 then none else s.monitor.latestMajor
            latestMinor := if m.getLsbD 8 then none else s.monitor.latestMinor }
        ∧ t.map = s.map ∧ t.programs = s.programs ∧ t.pos = s.pos ∧ t.table = s.table ∧ t.zones = s.zones
        ∧ t.drive = s.drive ∧ t.sup = s.sup ∧ t.link = s.link)

/-- R184, R183: a taken SET ATTENTION replaces the enables, the mode and the interval, brought down to 60, and
changes no flag and no pulse; the reminder timer then runs exactly when its three conditions hold. That a changed
interval restarts it where the enables change too is the model's reading (assumption 15). -/
def Obligations.SetAttentionRequest : Prop :=
  ∀ (addr : Byte) (mask : Mask) (mode : Byte) (interval : Half) (s : State), Listening s addr →
    let c := Instr.setAttention addr mask mode interval
    ((2 ^ 18 ≤ mask.toNat ∨ 1 < mode.toNat) → exec c s = .next (s.answering addr 0x52 .badValue []))
    ∧ (mask.toNat < 2 ^ 18 → mode.toNat ≤ 1 → ∃ timer : Option Nat,
        let kind : AttnMode := if mode = 0 then .level else .pulse
        let a : Attention := { s.attn with
          enables := mask.setWidth 18, mode := kind, interval := min interval.toNat 60, reminderTimer := timer }
        let t : State := { s with attn := a }
        exec c s = .next (t.answering addr 0x52 (if interval.toNat ≤ 60 then .accepted else .acceptedClamped)
          (maskBytes mask ++ nat1 mode.toNat ++ nat1 (min interval.toNat 60)))
        ∧ (timer ≠ none ↔ kind = .pulse ∧ interval ≠ 0 ∧ s.attn.flags &&& mask.setWidth 18 ≠ 0)
        ∧ (timer ≠ none → s.attn.interval ≠ min interval.toNat 60 → timer = some (min interval.toNat 60)))

/-- R181, R160: ATTN_N is asserted while a pulse is on, and in LEVEL mode while any enabled flag is set, and never while
RESET_N is low. R185: the summary cause code is the place, from 1, of the first flag of its table that is set and
enabled, or 0; a flag's bit in a mask is that code less 1 (section 13.1). R174: status byte 1 carries its six items and
status byte 2 the code. R182, R183: the pulse timer's expiry ends the pulse; the reminder timer's expiry starts a pulse
where none is on, and the timer runs on while its three conditions hold. That it runs on when the reminder merges into a
pulse is the model's reading (assumption 15). That nothing changes where no reminder timer runs is the model's choice
(assumption 1). -/
def Obligations.AttentionTimersAndOutputs : Prop :=
  let table : List Event := [.major, .halt, .missedExit, .trackLost, .phantomExit, .shortfall, .unannounced,
    .entryReject, .minor, .limited, .late, .displaced, .clipped, .target, .exit, .entry, .motion, .link]
  table.map Event.bit = List.range 18
  ∧ (∀ s : State,
    let shows (e : Event) : Bool := s.attn.flags.getLsbD e.bit && s.attn.enables.getLsbD e.bit
    (s.attnAsserted = true ↔ s.inReset = false ∧
      (s.attn.pulseOn = true ∨ (s.attn.mode = .level ∧ table.any shows = true)))
    ∧ s.attn.summaryCode = (match table.findIdx? shows with
      | some i => i + 1
      | none => 0)
    ∧ s.status2 = BitVec.ofNat 8 s.attn.summaryCode
    ∧ s.status1.getLsbD 0 = table.any shows
    ∧ s.status1.toNat / 2 % 4 = (match s.pos.motion with
      | .moving => 0
      | .stopped => 1
      | .parked => 2)
    ∧ s.status1.getLsbD 3 = s.sup.halted
    ∧ (s.status1.getLsbD 4 = true ↔ ∃ z : Fin 16, s.zones[z].state = .faulted)
    ∧ s.status1.toNat / 32 % 4 = (match s.map.access with
      | .closed => 0
      | .opened => 1
      | .locked => 2)
    ∧ s.status1.getLsbD 7 = decide (s.table.live.length = 64))
  ∧ ∀ s : State, s.inReset = false →
    exec .pulseTimerExpiry s = .next { s with attn := { s.attn with pulseOn := false } }
    ∧ (s.attn.reminderTimer = none → exec .reminderTimerExpiry s = .next s)
    ∧ (s.attn.reminderTimer ≠ none → exec .reminderTimerExpiry s = .next { s with attn := { s.attn with
        pulseOn := true
        reminderTimer := if s.attn.mode = .pulse ∧ s.attn.interval ≠ 0 ∧ s.attn.flags &&& s.attn.enables ≠ 0
          then some s.attn.interval else none } })

/-! ### The conveyor -/

/-- R35 to R39: a quadrature step moves the pair to its neighbour, the count by one and the direction; in MOVING it
restarts the stop timer; in STOPPED and PARKED it resumes the line when the travel reaches the resume distance, and
otherwise leaves motion and zones alone. R79, R86, R88, R89: the zones are told of the resumption: a PROTECT zone
becomes RUNNING with its UNSTARTED snapshot recomputed by the RUNNING computation, and its ORDERs posted again, where no
two PROTECT zones have UNSTARTED sides on one channel; a PARKED zone starts its restart timer; any other zone is left as
it is. R50 to R52, R64, R65: the Carrier Table changes by the two position watches alone: a record whose trail is at or
beyond E_plate gets its plating-closed mark, and its outcome where its pending count is 0, SHORTFALL being raised for a
SHORT one; a TRACKING record whose lead is beyond X_exit + W becomes LOST, and MISSED_EXIT is raised. That a COMMON
snapshot sets side B's last order values to none is the model's reading (assumption 12). -/
def Obligations.EncoderPulseCounts : Prop :=
  ∀ (sense : QuadSense) (s : State), s.inReset = false →
    let forward := (sense == .aLeads) != s.map.line.swapped
    let count := if forward then s.pos.count + 1 else s.pos.count - 1
    ∃ t : State, exec (.encoderPulse sense) s = .next t
      ∧ t.pos.count = count ∧ t.pos.direction = (if forward then .forward else .reverse)
      ∧ ((t.pos.encA ≠ s.pos.encA ∧ t.pos.encB = s.pos.encB) ∨ (t.pos.encA = s.pos.encA ∧ t.pos.encB ≠ s.pos.encB))
      ∧ ((sense = .aLeads ↔ s.pos.encA = s.pos.encB) ↔ t.pos.encA ≠ s.pos.encA)
      ∧ t.pos.entry = s.pos.entry ∧ t.pos.exit = s.pos.exit ∧ t.pos.speed = s.pos.speed
      ∧ t.map = s.map ∧ t.programs = s.programs ∧ t.monitor = s.monitor ∧ t.sup = s.sup ∧ t.link = s.link
      ∧ (TableLaw s → t.table = { s.table with live := s.table.live.map t.watched }
        ∧ t.attn.isSet .missedExit = (s.attn.isSet .missedExit || s.table.live.any t.losesSight)
        ∧ t.attn.isSet .shortfall = (s.attn.isSet .shortfall || s.table.live.any fun r =>
            t.plates r && ({ r with platingClosed := true } : Record).fallsShort))
      ∧ (s.pos.motion = .moving → t.pos.motion = .moving ∧ t.pos.stopMark = s.pos.stopMark
          ∧ t.pos.stopTimer = some s.map.line.stopTime ∧ t.zones = s.zones ∧ t.drive = s.drive)
      ∧ (s.pos.motion ≠ .moving → ∀ mark, s.pos.stopMark = some mark →
          (s.map.line.resumeDistance * s.map.line.scale ≤ (count - mark).toInt.natAbs * 1000 →
            t.pos.motion = .moving ∧ t.pos.stopMark = none ∧ t.pos.parkTimer = none
            ∧ t.pos.stopTimer = some s.map.line.stopTime ∧ t.attn.isSet .motion = true
            ∧ (∀ z : Fin 16, match s.zones[z].state with
                | .parked => t.zones[z] = { s.zones[z] with restartTimer := some s.map.line.restartDelay }
                | .protect => Recomputed s t z .running
                | _ => t.zones[z] = s.zones[z]))
          ∧ ((count - mark).toInt.natAbs * 1000 < s.map.line.resumeDistance * s.map.line.scale →
            t.pos.motion = s.pos.motion ∧ t.pos.stopMark = some mark ∧ t.pos.parkTimer = s.pos.parkTimer
            ∧ t.pos.stopTimer = s.pos.stopTimer ∧ t.zones = s.zones ∧ t.drive = s.drive))

/-- R35, R44, R152: a skipped state moves both encoder inputs and nothing else; the other edge of a sensor changes
its level and nothing else; HALT_N going inactive changes nothing but the level held. -/
def Obligations.QuietInputs : Prop :=
  ∀ s : State, s.inReset = false →
    exec .skippedState s = .next { s with pos := { s.pos with encA := !s.pos.encA, encB := !s.pos.encB } }
    ∧ exec (.sensorOtherEdge .entry) s = .next { s with pos := { s.pos with
        entry := { s.pos.entry with high := decide (s.map.line.entryEdge = .falling) } } }
    ∧ exec (.sensorOtherEdge .exit) s = .next { s with pos := { s.pos with
        exit := { s.pos.exit with high := decide (s.map.line.exitEdge = .falling) } } }
    ∧ exec .haltNInactive s = .next { s with sup := { s.sup with haltNActive := false } }

/-- R38, R40, R41, R86, R87: the stop timer's expiry stops a MOVING line, with the stop mark at the count, and takes
RUNNING zones to PROTECT, their UNSTARTED snapshots recomputed by the PROTECT computation and their ORDERs posted again
(R79); the park timer's expiry parks a STOPPED line and takes PROTECT zones to PARKED, which leave service by R83: the
UNSTARTED snapshot and a STARTED one whose MARK still waits are discarded (R80), and a STOP is posted for each of their
channels, on a map with no channel used twice; each raises MOTION. Which of a discarded snapshot's entries are released
is the model's reading (assumption 17), and a release at count 0 its choice (assumption 14). That a COMMON snapshot sets
side B's last order values to none is the model's reading (assumption 12), and that nothing changes where the timer does
not run is its choice (assumption 1). -/
def Obligations.MotionTimersExpire : Prop :=
  ∀ s : State, s.inReset = false →
    (s.pos.motion = .moving → s.pos.stopTimer ≠ none → ∃ t : State, exec .stopTimerExpiry s = .next t
      ∧ t.pos = { s.pos with motion := .stopped, stopMark := some s.pos.count, stopTimer := none,
                             parkTimer := some s.map.line.parkTime }
      ∧ t.attn.isSet .motion = true
      ∧ (∀ z : Fin 16, t.zones[z].state = if s.zones[z].state = .running then .protect else s.zones[z].state)
      ∧ (∀ z : Fin 16, s.zones[z].state = .running → Recomputed s t z .protect)
      ∧ (∀ z : Fin 16, s.zones[z].state = .parked → t.zones[z].restartTimer = none)
      ∧ t.map = s.map ∧ t.programs = s.programs ∧ t.table = s.table ∧ t.monitor = s.monitor ∧ t.sup = s.sup
      ∧ t.link = s.link)
    ∧ (s.pos.motion = .stopped → s.pos.parkTimer ≠ none → ∃ t : State, exec .parkTimerExpiry s = .next t
      ∧ t.pos = { s.pos with motion := .parked, parkTimer := none }
      ∧ t.attn.isSet .motion = true
      ∧ (∀ z : Fin 16, t.zones[z].state = if s.zones[z].state = .protect then .parked else s.zones[z].state)
      ∧ (∀ z : Fin 16, s.zones[z].state = .protect →
          t.zones[z].periodTimer = none ∧ t.zones[z].restartTimer = none
          ∧ (∀ n ∈ t.zones[z].pending, n ∈ s.zones[z].pending)
          ∧ (ServiceLaw s.zones[z] → LeavesService s t z .parked)
          ∧ (s.map.channelUses.Nodup → ∀ c ∈ s.map.zones[z].channels, t.sends (.stop c (some z))))
      ∧ (TableLaw s → (∀ z : Fin 16, ServiceLaw s.zones[z]) → Releases s t (zoneNumbers.flatMap fun z =>
          if s.zones[z].state = .protect then s.discardedEntries z else []))
      ∧ t.map = s.map ∧ t.programs = s.programs ∧ t.monitor = s.monitor ∧ t.sup = s.sup ∧ t.link = s.link)
    ∧ ((s.pos.motion ≠ .moving ∨ s.pos.stopTimer = none) → exec .stopTimerExpiry s = .next s)
    ∧ ((s.pos.motion ≠ .stopped ∨ s.pos.parkTimer = none) → exec .parkTimerExpiry s = .next s)

/-- R44 to R49: a selected edge taken in REVERSE, or before the hold-off distance has passed, counts as ignored and
changes nothing else but the level; an accepted one sets the hold-off mark and hands the Carrier Table its arrival. -/
def Obligations.SensorEdgeIsFiltered : Prop :=
  ∀ s : State, s.inReset = false →
    let held (mark : Option (Count × Nat)) : Prop := ∃ c d, mark = some (c, d)
      ∧ (s.pos.count - c).toInt * 1000 / (s.map.line.scale : Int) < (d : Int)
    ((s.pos.direction = .reverse ∨ held s.pos.entry.mark) → exec (.sensorEdge .entry) s = .next { s with
      pos := { s.pos with entry := { s.pos.entry with
        high := decide (s.map.line.entryEdge = .rising), ignored := min 255 (s.pos.entry.ignored + 1) } } })
    ∧ ((s.pos.direction = .reverse ∨ held s.pos.exit.mark) → exec (.sensorEdge .exit) s = .next { s with
      pos := { s.pos with exit := { s.pos.exit with
        high := decide (s.map.line.exitEdge = .rising), ignored := min 255 (s.pos.exit.ignored + 1) } } })
    ∧ (s.pos.direction = .forward → ¬ held s.pos.entry.mark →
      exec (.sensorEdge .entry) s = .next (entryArrival { s with pos := { s.pos with entry := { s.pos.entry with
        high := decide (s.map.line.entryEdge = .rising)
        mark := some (s.pos.count, s.map.line.holdOff) } } }))
    ∧ (s.pos.direction = .forward → ¬ held s.pos.exit.mark →
      exec (.sensorEdge .exit) s = .next (exitArrival { s with pos := { s.pos with exit := { s.pos.exit with
        high := decide (s.map.line.exitEdge = .rising)
        mark := some (s.pos.count, s.map.line.holdOff) } } }))

/-- R61 to R63: what an arrival does. An entry too close behind the rearmost record is rejected; on a full table with no
EXITED record it is lost, with the oldest announcement consumed and its reference released; on a full table with one,
the leading-most EXITED record is displaced, its copy kept, and the carrier then enters as with room. A carrier that
enters is a new rearmost record at the present count, TRACKING, of the oldest announcement or else of the defaults, and
a record it would overlap is cut to its lead and tested by the plating-end watch (R50, R65). An exit makes the leading
TRACKING record EXITED when its lead is in the window, and is a phantom otherwise. -/
def Obligations.ArrivalIsTaken : Prop :=
  ∀ s : State,
    let released (slot : Option (Fin 16)) : Vector Slot 16 := match slot with
      | none => s.programs
      | some k => bankSet s.programs k { s.programs[k] with refs := s.programs[k].refs - 1 }
    (∀ r, s.table.live.getLast? = some r → s.lead r < s.map.line.lMin →
      entryArrival s = { s with attn := s.attn.raiseFlag .entryReject })
    ∧ ((∀ r, s.table.live.getLast? = some r → (s.map.line.lMin : Int) ≤ s.lead r) →
      (s.table.live.length < 64 → entryArrival s = admitCarrier s)
      ∧ (s.table.live.length = 64 → (∀ r ∈ s.table.live, r.state ≠ .exited) →
        entryArrival s = { s with
          attn := s.attn.raiseFlag .trackLost
          programs := match s.table.queue with
            | [] => s.programs
            | a :: _ => released a.slot
          table := { s.table with queue := s.table.queue.tail } })
      ∧ (∀ (ahead behind : List Record) (r : Record), TableLaw s → s.table.live.length = 64 →
        s.table.live = ahead ++ r :: behind → r.state = .exited → (∀ q ∈ ahead, q.state ≠ .exited) →
        entryArrival s = admitCarrier { s with
          attn := s.attn.raiseFlag .displaced
          programs := released r.slot
          table := { s.table with
            live := ahead ++ behind
            displaced := some { tag := r.tag, index := r.index, generation := r.generation, origin := r.origin,
                                marks := r.marks, outcome := r.outcome, fwdA := r.fwdA, revA := r.revA,
                                fwdB := r.fwdB, revB := r.revB }
            cursor :=
              if s.table.cursor = .atRecord r.index r.generation ∨ s.table.cursor = .aheadOf r.index r.generation then
                match behind with
                | q :: _ => .aheadOf q.index q.generation
                | [] => .nowhere
              else s.table.cursor } }))
    ∧ (∀ i : Fin 64, s.table.live.length < 64 → TableLaw s → freeIndex s.table.live = some i →
      let t := admitCarrier s
      ∃ (front : List Record) (r : Record), t.table.live = front ++ [r]
        ∧ r.index = i ∧ r.generation = s.table.generations[i] + 1 ∧ r.entryMark = s.pos.count
        ∧ t.table.generations = bankSet s.table.generations i (s.table.generations[i] + 1)
        ∧ r.state = .tracking ∧ r.fwdA = 0 ∧ r.revA = 0 ∧ r.fwdB = 0 ∧ r.revB = 0 ∧ r.pendingCount = 0
        ∧ r.reachedA = none ∧ r.reachedB = none
        ∧ (0 < r.length → r.platingClosed = false ∧ r.outcome = none)
        ∧ t.table.queue = s.table.queue.tail ∧ t.table.cursor = s.table.cursor
        ∧ t.table.displaced = s.table.displaced
        ∧ t.map = s.map ∧ t.pos = s.pos ∧ t.zones = s.zones ∧ t.drive = s.drive ∧ t.monitor = s.monitor
        ∧ t.sup = s.sup ∧ t.link = s.link
        ∧ (∀ a rest, s.table.queue = a :: rest → r.tag = a.tag ∧ r.slot = a.slot ∧ r.origin = .announced
            ∧ r.length = max a.length s.map.line.lMin ∧ r.areaA = a.areaA ∧ r.areaB = a.areaB
            ∧ r.marks = { clipped := false, estimated := false, gap := false,
                          amended := decide (a.length < s.map.line.lMin) }
            ∧ t.programs = s.programs ∧ t.attn.isSet .entry = true)
        ∧ (s.table.queue = [] → r.tag = 0 ∧ r.origin = .unannounced ∧ r.length = s.map.line.defaultLength
            ∧ r.areaA = s.map.line.defaultAreaA ∧ r.areaB = s.map.line.defaultAreaB
            ∧ r.marks = { clipped := false, estimated := false, gap := false, amended := false }
            ∧ t.attn.isSet .unannounced = true
            ∧ match s.map.line.defaultSlot with
              | none => r.slot = none ∧ t.programs = s.programs
              | some k => if s.programs[k].state = .opened ∨ s.programs[k].state = .frozen
                then r.slot = some k
                  ∧ t.programs = bankSet s.programs k { s.programs[k] with refs := s.programs[k].refs + 1 }
                else r.slot = none ∧ t.programs = s.programs)
        ∧ (s.table.live = [] → front = [])
        ∧ ∀ (ahead : List Record) (rear : Record), s.table.live = ahead ++ [rear] →
          (0 ≤ s.trail rear → front = s.table.live)
          ∧ (s.trail rear < 0 → t.attn.isSet .clipped = true ∧ ∃ cut : Record, front = ahead ++ [cut]
            ∧ cut = s.plated { rear with
                length := (s.lead rear).toNat, marks := { rear.marks with clipped := true } }))
    ∧ (∀ (ahead behind : List Record) (r : Record), TableLaw s → WatchLaw s → s.table.live = ahead ++ r :: behind →
      r.state = .tracking → (∀ q ∈ ahead, q.state ≠ .tracking) →
      exitArrival s = if (s.map.line.xExit : Int) - s.map.line.window ≤ s.lead r
          ∧ s.lead r ≤ (s.map.line.xExit : Int) + s.map.line.window
        then { s with
          attn := s.attn.raiseFlag .exit
          table := { s.table with live := ahead ++ { r with state := .exited } :: behind } }
        else { s with attn := s.attn.raiseFlag .phantomExit })
    ∧ ((∀ r ∈ s.table.live, r.state ≠ .tracking) →
      exitArrival s = { s with attn := s.attn.raiseFlag .phantomExit })

/-! ### Zone timers and the drive bus -/

/-- R81: the period boundary of a RUNNING or PROTECT zone, in its steps. With three snapshots pending the open sides of
the oldest are force-closed on their ordered charges, with the ESTIMATED mark on the records they name (R112). The
UNSTARTED snapshot is started and its MARK posted; each of its sides whose ORDER still waits is marked LATE, with the
ORDER withdrawn, the late counter moved on and LATE raised. The next snapshot is built (R79) on the state the force
closure left, its entries held (R66), LIMITED raised where a clamp acts in its computation (R98, R99) and its ORDERs
posted, and the period timer restarts with the T of the one now
started. The other zones are unchanged. That a COMMON snapshot sets side B's last order values to none is the model's
reading (assumption 12), and that nothing happens where no period timer runs its choice (assumption 1). -/
def Obligations.PeriodBoundaryIsTaken : Prop :=
  ∀ (z : Fin 16) (s : State), s.inReset = false →
    let q := s.zones[z]
    let c := Instr.periodBoundary z
    ((q.state = .running ∨ q.state = .protect) → q.periodTimer ≠ none → ServiceLaw q →
      ∃ (t : State) (front : List Snapshot) (un : Snapshot), exec c s = .next t ∧ q.pending = front ++ [un]
        ∧ un.phase = .unstarted ∧ front.length ≤ 2
        ∧ let forced : State := match front with
            | [oldest, _] => (oldest.sides.filter fun d => !d.closed).foldl
                (fun u d => closeSide z oldest.seq d d.qfOrd d.qrOrd .forced u) s
            | _ => s
          let waiting (d : Side) : Bool := s.drive.queue.any (isOrder d.channel un.seq)
          let missed := un.sides.countP waiting
          let started : Snapshot := { un with
            phase := .started, sides := un.sides.map fun d => if waiting d then { d with late := true } else d }
          let new := forced.newSnapshot z
          ((un.sides.map Side.channel).Nodup → t.zones[z] = { q with
            lastSeq := q.lastSeq + 1
            pending := ((if front.length = 2 then front.tail else front).map fun n => { n with phase := .ended })
              ++ [started, new]
            periodTimer := some un.period
            late := if missed = 0 then q.late else min 65535 (q.late + missed)
            orphanFwd := forced.zones[z].orphanFwd, orphanRev := forced.zones[z].orphanRev
            lastA := new.lastOrder .A, lastB := new.lastOrder .B })
          ∧ t.sends (.mark z un.seq ((un.sides.find? fun d => d.face == .A).map Side.channel)
              ((un.sides.find? fun d => d.face == .B).map Side.channel))
          ∧ (0 < missed → t.attn.isSet .late = true)
          ∧ (QueueLaw s → un.seq ≠ q.lastSeq + 1 → ∀ d ∈ un.sides, ∀ i ∈ t.drive.queue,
              isOrder d.channel un.seq i = false)
          ∧ SnapshotOf forced z new ∧ SnapshotPosted forced t z new
          ∧ forced.attn.isSet .limited = s.attn.isSet .limited
          ∧ (TableLaw s → t.table = { forced.holding new with
              generations := s.table.generations, queue := s.table.queue, cursor := s.table.cursor
              displaced := s.table.displaced })
          ∧ (∀ oldest middle, TableLaw s → front = [oldest, middle] → ∀ d ∈ oldest.sides, d.closed = false →
              d.aZ ≠ 0 → ∀ e ∈ d.entries, ∀ r ∈ t.table.live, e.names r = true → r.marks.estimated = true)
          ∧ (∀ y : Fin 16, y ≠ z → t.zones[y] = s.zones[y])
          ∧ t.map = s.map ∧ t.programs = s.programs ∧ t.pos = s.pos ∧ t.monitor = s.monitor ∧ t.sup = s.sup
          ∧ t.link = s.link)
    ∧ (((q.state ≠ .running ∧ q.state ≠ .protect) ∨ q.periodTimer = none) → exec c s = .next s)

/-- R88, R91, R116: a restart timer that expires brings a PARKED zone back into RUNNING on a MOVING line, and a HALTED
zone into RUNNING, PROTECT or PARKED by the motion state; RUNNING and PROTECT build the first snapshot (R79, R82), with
its entries held (R66) and its ORDERs posted (R100); into PARKED it leaves service by R83, with a STOP for each of its
channels. Which of a discarded snapshot's entries are released is the model's reading (assumption 17), and a release at
count 0 its choice (assumption 14). That a COMMON snapshot sets side B's last order values to none is the model's
reading (assumption 12). That nothing happens where the timer does not run is the model's choice (assumption 1). -/
def Obligations.RestartTimerExpires : Prop :=
  ∀ (z : Fin 16) (s : State), s.inReset = false →
    let q := s.zones[z]
    let c := Instr.restartTimerExpiry z
    (q.restartTimer = none → exec c s = .next s)
    ∧ (q.restartTimer ≠ none → s.sup.halted = false →
      ((q.state = .halted) ∨ (q.state = .parked ∧ s.pos.motion = .moving)) →
      let into : ZoneState := match s.pos.motion with
        | .moving => .running
        | .stopped => .protect
        | .parked => .parked
      ∃ t : State, exec c s = .next t ∧ t.zones[z].state = into ∧ t.zones[z].restartTimer = none
        ∧ (into ≠ .parked → EntersService s t z into)
        ∧ (into = .parked → (ServiceLaw q → LeavesService s t z .parked
              ∧ (TableLaw s → Releases s t (s.discardedEntries z)))
            ∧ ((s.map.zones[z].channels).Nodup → ∀ ch ∈ s.map.zones[z].channels, t.sends (.stop ch (some z))))
        ∧ (∀ y : Fin 16, y ≠ z → t.zones[y] = s.zones[y])
        ∧ t.map = s.map ∧ t.programs = s.programs ∧ t.pos = s.pos ∧ t.monitor = s.monitor ∧ t.sup = s.sup
        ∧ t.link = s.link)

/-- R122, R131, R132: the end of a sent frame starts the reply window of an ORDER or STOP, and ends a MARK or ABORT
transaction, after which the ABORT, the oldest MARK or the oldest other item goes on the bus with the reply window
then in force; a reply's first character keeps the window's end from ending the transaction. R122, R189: DRV_DE is high
exactly while a frame is sent, and the frames of ORDER, MARK, STOP and ABORT and their levels are those of section 13.4
(assumption 21 for the order of a character's data bits, assumption 24 for the level of a one). That the end of a frame
changes nothing where none is being sent, and the beginning of a reply nothing where none is awaited, is the model's
choice (assumption 1). -/
def Obligations.BusTransactionPhases : Prop :=
  (let framed (body : List Byte) : List Byte := 0x5A :: body ++ [(crc body >>> 8).setWidth 8, (crc body).setWidth 8]
    let one (n : Nat) : Byte := BitVec.ofNat 8 n
    let two (n : Nat) : List Byte := [one (n / 256), one n]
    let channel (c : Option (Fin 32)) : Byte := match c with
      | some c => one c.val
      | none => 0xFF
    (∀ (c : Fin 32) (seq : BitVec 8) (v : OrderValues) (m : Mode) (flush : Bool) (z : Fin 16),
      (DriveItem.order { channel := c, seq := seq, values := v, mode := m } flush z).frame
        = framed ([0x01, one c.val, seq] ++ two v.iF ++ two v.iR ++ two v.tF ++ two v.tO1 ++ two v.tR ++ two v.tO2
            ++ two v.phi ++ [if m = .run then 0 else 1]))
    ∧ (∀ (z : Fin 16) (seq : BitVec 8) (a b : Option (Fin 32)),
      (DriveItem.mark z seq a b).frame = framed [0x02, one z.val, seq, channel a, channel b])
    ∧ (∀ (c : Fin 32) (z : Option (Fin 16)), (DriveItem.stop c z).frame = framed [0x03, one c.val])
    ∧ DriveItem.abort.frame = framed [0x04]
    ∧ ∀ i : DriveItem, i.levels = i.frame.flatMap fun b => lineLevels (characterOf b))
  ∧ (∀ s : State, s.drvDe = true ↔
      s.inReset = false ∧ ∃ b : Transaction, s.drive.bus = some b ∧ b.phase = .sending)
  ∧ ∀ (item : DriveItem) (w : Nat) (p : BusPhase) (s : State), s.inReset = false →
    s.drive.bus = some { item := item, window := w, phase := p } →
    (p = .sending → item.addressee ≠ none → exec .driveFrameSent s = .next { s with drive := { s.drive with
      bus := some { item := item, window := w, phase := .waiting } } })
    ∧ (p = .sending → item.addressee = none → ∃ t : State, exec .driveFrameSent s = .next t
      ∧ t = { s with drive := { s.drive with queue := t.drive.queue, bus := t.drive.bus } }
      ∧ match s.drive.queue with
        | [] => t.drive.bus = none ∧ t.drive.queue = []
        | _ => ∃ (x : DriveItem) (before after : List DriveItem), s.drive.queue = before ++ x :: after
          ∧ t.drive.bus = some { item := x, window := s.map.line.replyWindow, phase := .sending }
          ∧ (QueueLaw s → t.drive.queue = before ++ after)
          ∧ (x = .abort ∨ (.abort ∉ s.drive.queue ∧
              ((x.isMark = true ∧ ∀ y ∈ before, y.isMark = false)
                ∨ (before = [] ∧ ∀ y ∈ s.drive.queue, y.isMark = false)))))
    ∧ (p = .waiting → exec .replyBegins s = .next { s with drive := { s.drive with
      bus := some { item := item, window := w, phase := .receiving } } })
    ∧ (p = .receiving → exec .replyWindowEnd s = .next s)
    ∧ (p ≠ .sending → exec .driveFrameSent s = .next s)
    ∧ (p ≠ .waiting → exec .replyBegins s = .next s)

/-- R132 to R135: a conforming REPLY of the addressed channel, with even parity in every character, ends the transaction
GOOD with its status and readbacks, and the channel's miss counter is 0; one that names another channel, a frame with a
parity bit wrong (R122), a bad CRC, another kind, a status or a readback count outside its values or a length that does
not agree, one broken off, and a window with no reply end it otherwise, and the miss counter is one more, at most 3. The
channel's last end is recorded. Taking a frame's end for its beginning too is the model's choice (assumption 4), and so
is judging a list of parity bits of another length than the frame GARBLED (assumption 21).
R134, R105 to R107, R136: a GOOD end takes its readbacks in order, each closing by measurement the one open side that
matches it, which is handed to the Monitor unless LATE (R120), or counted stale where none matches or sides of two
zones do; then come the lost closures and the status. That the arbiter chooses only after all of them is the model's
reading (assumption 7).
R114, R115: at either end of a STOP, or of an ORDER with a flush, no zone out of service keeps an open side on the
channel; at a failed end those sides give no charge and leave the GAP mark on the records they name, and a zone in
service is as it was while no channel fault is handed on; a failed end of another ORDER closes nothing. -/
def Obligations.TransactionEnds : Prop :=
  (∀ (item : DriveItem) (c : Fin 32) (w : Nat) (p : BusPhase) (s : State), s.inReset = false →
    s.drive.bus = some { item := item, window := w, phase := p } → item.addressee = some c → p ≠ .sending →
    let failed (i : Instr) (how : TransactionEnd) : Prop := exec i s = .next (badEnd item c how s)
      ∧ (badEnd item c how s).drive.channels[c].misses = min 3 (s.drive.channels[c].misses + 1)
      ∧ (badEnd item c how s).drive.channels[c].lastEnd = some how
    (∀ (st : ReplyStatus) (rbs : List Readback), rbs.length ≤ 2 →
      (∀ b ∈ rbs, b.qf < 2 ^ 32 ∧ b.qr < 2 ^ 32) →
      let reply (d : Fin 32) : Instr := .replyFrameEnd (replyFrame d st rbs) (evenParity (replyFrame d st rbs))
      exec (reply c) s = .next (goodEnd item c st rbs s)
      ∧ (goodEnd item c st rbs s).drive.channels[c].misses = 0
      ∧ (goodEnd item c st rbs s).drive.channels[c].lastStatus = some st
      ∧ (goodEnd item c st rbs s).drive.channels[c].lastEnd = some .good
      ∧ (∀ d : Fin 32, d ≠ c → failed (reply d) .wrongChannel))
    ∧ (∀ data parity, parity ≠ evenParity data → failed (.replyFrameEnd data parity) .garbled)
    ∧ (let garbles (data : List Byte) : Prop := failed (.replyFrameEnd data (evenParity data)) .garbled
      (∀ data, crcGood data.tail = false → garbles data)
      ∧ (∀ start rest, start ≠ 0x5A → garbles (start :: rest))
      ∧ (∀ body : List Byte, body.length < 4 → garbles (driveFrame body))
      ∧ ∀ (kind channel status count : Byte) (rest : List Byte),
        (kind ≠ 0x81 ∨ 2 < status.toNat ∨ 2 < count.toNat ∨ rest.length ≠ 9 * count.toNat) →
        garbles (driveFrame ([kind, channel, status, count] ++ rest)))
    ∧ failed .replyBrokenOff .garbled
    ∧ (p = .waiting → failed .replyWindowEnd .missing))
  ∧ (∀ (c : Fin 32) (b : Readback) (s : State),
    let counted := { s.drive.channels[c] with stale := min 65535 (s.drive.channels[c].stale + 1) }
    let stale : State := { s with drive := { s.drive with channels := bankSet s.drive.channels c counted } }
    ((∀ z n d, ¬ MatchesOpen s c b.seq z n d) → takeReadback c s b = stale)
    ∧ (∀ y z m n d e, MatchesOpen s c b.seq y m d → MatchesOpen s c b.seq z n e → y ≠ z → takeReadback c s b = stale)
    ∧ ∀ z n d, MatchesOpen s c b.seq z n d →
      (∀ y m e, MatchesOpen s c b.seq y m e → y = z ∧ m = n ∧ e = d) →
      let closed := closeSide z n.seq d b.qf b.qr .measured s
      takeReadback c s b = if d.late then closed else raiseClass (closed.classify z n.mode d b.qf b.qr) closed)
  ∧ ∀ (item : DriveItem) (c : Fin 32) (st : ReplyStatus) (rbs : List Readback) (how : TransactionEnd) (s : State),
    let outOfService (z : Fin 16) : Prop := s.zones[z].state ≠ .running ∧ s.zones[z].state ≠ .protect
    let good := goodEnd item c st rbs s
    let bad := badEnd item c how s
    let ended := { s.drive.channels[c] with misses := 0, lastStatus := some st, lastEnd := some .good }
    let taken := rbs.foldl (takeReadback c)
      ({ s with drive := { s.drive with channels := bankSet s.drive.channels c ended } } : State)
    good = endTransaction (judgeStatus st c item.poster (if item.closes then loseSides c taken else taken))
    ∧ (item.closes = true → ∀ z, outOfService z → (∀ n ∈ s.zones[z].pending, (n.sides.map Side.channel).Nodup) →
        (∀ n ∈ good.zones[z].pending, ∀ d ∈ n.sides, d.channel = c → d.closed = true)
        ∧ (∀ n ∈ bad.zones[z].pending, ∀ d ∈ n.sides, d.channel = c → d.closed = true)
        ∧ (TableLaw s → ∀ n ∈ s.zones[z].pending, ∀ d ∈ n.sides, d.channel = c → d.closed = false → d.aZ ≠ 0 →
          ∀ e ∈ d.entries, ∀ r ∈ bad.table.live, e.names r = true → r.marks.gap = true))
    ∧ ((∀ r ∈ s.table.live, r.fwdA ≤ 4294967295 ∧ r.revA ≤ 4294967295 ∧ r.fwdB ≤ 4294967295
          ∧ r.revB ≤ 4294967295) →
        bad.table.live.map (fun r => (r.fwdA, r.revA, r.fwdB, r.revB))
          = s.table.live.map (fun r => (r.fwdA, r.revA, r.fwdB, r.revB)))
    ∧ (s.drive.channels[c].misses ≠ 2 → bad.monitor = s.monitor
        ∧ (∀ z, ¬ outOfService z → bad.zones[z] = s.zones[z])
        ∧ (item.closes = false → bad.zones = s.zones ∧ bad.table = s.table))

/-! ### The computation and the Regulation Monitor -/

/-- R93 to R100, R22: the entries of a side, in entry position order, with their overlapped areas; the demand of an
entry from its remaining charge, the live zone length ahead and the remaining dwell, and J_lo for a record with no
program or no longer live (R79); J_z, the rounded mean of the demands within the zone's limits; the currents by their
formulas with their clamps, no reverse current in a profile without reverse time; the ordered times and charges; LIMITED
exactly where a clamp acts; and the PROTECT computation. In each, no current exceeds its channel's rating, and with no
carriers in front of it a side is ordered at zero. -/
def Obligations.SetpointIsComputed : Prop :=
  ∀ (s : State) (z : Fin 16) (side : Face),
    let zone := s.map.zones[z]
    let p := s.map.profiles[zone.profile]
    let period := p.tF + p.tO1 + p.tR + p.tO2
    (s.entriesOf z side = s.table.live.flatMap fun r =>
      (if zone.kind = .common then [Face.A, Face.B] else [side]).flatMap fun f =>
        let mm := (min (s.lead r) (s.map.zoneEnd z) - max (s.lead r - r.length) (s.map.zoneStart z)).toNat
        let a := r.area f * mm / r.length
        if 0 < a then [{ index := r.index, generation := r.generation, face := f, area := a }] else [])
    ∧ (∀ e : Entry, findRecord s.table.live e.index e.generation = none → s.demand zone.jLo p e = zone.jLo)
    ∧ (∀ (e : Entry) (r : Record), findRecord s.table.live e.index e.generation = some r →
      (r.slot = none → s.demand zone.jLo p e = zone.jLo)
      ∧ ∀ k : Fin 16, r.slot = some k →
        let q := s.programs[k]
        let area := r.area e.face
        let target : Int := (q.qT * area * 10 : Nat)
        let left : Int := min target (max 0 (target - ((r.fwd e.face : Int) - r.rev e.face)))
        let centre : Int := s.lead r - (r.length / 2 : Nat)
        let live (y : Fin 16) : Prop := s.map.zoneStart y < s.map.zoneEnd y ∧ s.map.zones[y].kind ≠ .unpowered
          ∧ (s.zones[y].state = .running ∨ s.zones[y].state = .protect ∨ s.zones[y].state = .parked)
        let ahead : Nat := ((List.finRange 16).map fun y =>
          if live y then ((s.map.zoneEnd y : Int) - max (s.map.zoneStart y : Int) centre).toNat else 0).sum
        let dwell := max (ahead * 60000 / s.pos.speed) ((period + 9) / 10)
        let above := 1000000 * left.toNat * period
        let below := area * dwell * (100 * (p.tF : Int) - p.rho * p.tR).toNat
        let held (d : Nat) : Prop := s.demand zone.jLo p e = min q.jMax (max q.jMin d)
        (left = 0 → held q.jMin) ∧ (left ≠ 0 → ahead = 0 → held q.jMax)
        ∧ (left ≠ 0 → ahead ≠ 0 → 0 < below →
          ∃ d : Nat, held d ∧ above ≤ d * below ∧ d * below < above + below))
    ∧ ∀ (m : Mode) (c : Fin 32) (entries : List Entry),
      let o := s.setpoint m z side c entries
      let aZ := (entries.map Entry.area).sum
      let iFmax := s.map.channels[c].iFmax
      let iRmax := s.map.channels[c].iRmax
      let phi := if zone.kind = .paired ∧ side = .B then p.phi else 0
      (m = .run →
        let mean := ((entries.map fun e => s.demand zone.jLo p e * e.area).sum + aZ / 2) / aZ
        let raw := (o.jZ * aZ + 500) / 1000
        let rawR := (o.order.iF * p.rho + 50) / 100
        o.demands = entries.map (s.demand zone.jLo p)
        ∧ o.jZ = (if aZ = 0 then 0 else min zone.jHi (max zone.jLo mean))
        ∧ o.order = { iF := min raw iFmax, iR := if p.tR = 0 then 0 else min rawR iRmax, tF := p.tF, tO1 := p.tO1,
                      tR := p.tR, tO2 := p.tO2, phi := phi }
        ∧ o.qfOrd = o.order.iF * p.tF / 100 ∧ o.qrOrd = o.order.iR * p.tR / 100
        ∧ (o.limited = true ↔ iFmax < raw ∨ (p.tR ≠ 0 ∧ iRmax < rawR)))
      ∧ (m = .protect →
        let raw := (s.map.line.jP * aZ + 500) / 1000
        o.demands = [] ∧ o.jZ = (if aZ = 0 then 0 else s.map.line.jP)
        ∧ o.order = { iF := min raw iFmax, iR := 0, tF := period, tO1 := 0, tR := 0, tO2 := 0, phi := phi }
        ∧ o.qfOrd = o.order.iF * period / 100 ∧ o.qrOrd = 0
        ∧ (o.limited = true ↔ iFmax < raw))
      ∧ o.order.iF ≤ iFmax ∧ o.order.iR ≤ iRmax
      ∧ (aZ = 0 → o.order.iF = 0 ∧ o.order.iR = 0 ∧ o.jZ = 0 ∧ o.limited = false)
      ∧ (m = .run → 0 < aZ → zone.jLo ≤ zone.jHi → zone.jLo ≤ o.jZ ∧ o.jZ ≤ zone.jHi)
      ∧ ((m = .protect ∨ p.tR = 0) → o.order.iR = 0 ∧ o.qrOrd = 0)
      ∧ o.order.tF + o.order.tO1 + o.order.tR + o.order.tO2 = period
      ∧ o.qfOrd = o.order.iF * o.order.tF / 100

/-- R140 to R142: a measured side is MAJOR with NO_ORDER when current flowed without an order beyond the allowance,
else MAJOR or MINOR by its deviation against the trip and warn bands, the larger directional figure with FORWARD on a
tie, each at most 999; otherwise it raises nothing. -/
def Obligations.MeasuredSideIsClassed : Prop :=
  ∀ (s : State) (z : Fin 16) (m : Mode) (d : Side) (qf qr : Nat),
    let figure (q ord : Nat) : Nat := if ord = 0 then 0 else min 999 (((q : Int) - ord).natAbs * 100 / ord)
    let f := figure qf d.qfOrd
    let r := figure qr d.qrOrd
    let period := d.order.tF + d.order.tO1 + d.order.tR + d.order.tO2
    let noOrder := d.qfOrd = 0 ∧ s.map.channels[d.channel].iFmax * period / 10000 < qf
    let case (cause : Cause) (dev : Nat) (phase : DevPhase) : Case :=
      { cause := cause, zone := some z, channel := d.channel, mode := some m, deviation := some dev,
        phase := some phase }
    let phase : DevPhase := if r ≤ f then .forward else .reverse
    (noOrder → s.classify z m d qf qr = .major (case .noOrder 999 .forward))
    ∧ (¬ noOrder → s.map.line.tripBand < max f r →
        s.classify z m d qf qr = .major (case .deviation (max f r) phase))
    ∧ (¬ noOrder → max f r ≤ s.map.line.tripBand → s.map.line.warnBand < max f r →
        s.classify z m d qf qr = .minor (case .deviation (max f r) phase))
    ∧ (¬ noOrder → max f r ≤ s.map.line.tripBand → max f r ≤ s.map.line.warnBand →
        s.classify z m d qf qr = .nothing)

/-- R145, R146, R147, R92: raising a class for a case. MAJOR sets the first-fault latch when its flag was clear and
leaves it otherwise, writes the latest record, sets the flag, and calls the fault of the case's zone: from RUNNING,
PROTECT, PARKED or HALTED it leaves service into FAULTED by the steps of R83, with both timers stopped, its UNSTARTED
snapshot and a STARTED one whose MARK still waits discarded, and STOP items for its channels, and in DISABLED and
FAULTED nothing changes. MINOR does the same to its own latch and record and calls no fault. R144: the third failed end
in a row of a channel's transactions, MISSING, GARBLED or WRONG_CHANNEL, raises MAJOR with NO_REPLY for the
transaction's poster. R143: a GOOD reply of status LIMIT raises MINOR with STATUS_LIMIT and one of FAULT raises MAJOR
with STATUS_FAULT, for the poster; OK raises nothing. Taking a reply's end for its beginning too, where the transaction
still waits, is the model's choice (assumption 4). Which of a discarded snapshot's entries are released is the model's
reading (assumption 17), and a release at count 0 its choice (assumption 14). And the law of the first-fault latch:
while its flag stays set, no step changes a latch. -/
def Obligations.RaisedClassIsLatched : Prop :=
  (∀ s t : State, step s = .next t →
    (s.attn.isSet .major = true → t.attn.isSet .major = true → t.monitor.firstMajor = s.monitor.firstMajor)
    ∧ (s.attn.isSet .minor = true → t.attn.isSet .minor = true → t.monitor.firstMinor = s.monitor.firstMinor))
  ∧ (∀ (c : Case) (s : State), raiseMinor c s = { s with
      attn := s.attn.raiseFlag .minor
      monitor := { s.monitor with
        firstMinor := if s.attn.isSet .minor then s.monitor.firstMinor else some (c.zone, c.channel)
        latestMinor := some c } })
  ∧ (∀ (c : Case) (s : State),
    let t := raiseMajor c s
    t.attn.isSet .major = true
    ∧ t.monitor = { s.monitor with
        firstMajor := if s.attn.isSet .major then s.monitor.firstMajor else some (c.zone, c.channel)
        latestMajor := some c }
    ∧ t.map = s.map ∧ t.programs = s.programs ∧ t.pos = s.pos ∧ t.sup = s.sup ∧ t.link = s.link
    ∧ ((c.zone = none ∨ ∃ z, c.zone = some z ∧ (s.zones[z].state = .disabled ∨ s.zones[z].state = .faulted)) →
        t.zones = s.zones ∧ t.drive = s.drive ∧ t.table = s.table)
    ∧ ∀ z : Fin 16, c.zone = some z → (∀ y : Fin 16, y ≠ z → t.zones[y] = s.zones[y])
      ∧ (s.zones[z].state ≠ .disabled → s.zones[z].state ≠ .faulted →
        t.zones[z].state = .faulted ∧ t.zones[z].periodTimer = none ∧ t.zones[z].restartTimer = none
        ∧ (∀ n ∈ t.zones[z].pending, n ∈ s.zones[z].pending)
        ∧ (ServiceLaw s.zones[z] → LeavesService s t z .faulted ∧ (TableLaw s → Releases s t (s.discardedEntries z)))
        ∧ ∀ ch ∈ s.map.zones[z].channels, .stop ch (some z) ∈ t.drive.queue
            ∨ ∃ b : Transaction, t.drive.bus = some b ∧ b.item = .stop ch (some z)))
  ∧ ∀ (item : DriveItem) (c : Fin 32) (w : Nat) (p : BusPhase) (s : State), s.inReset = false →
    s.drive.bus = some { item := item, window := w, phase := p } → item.addressee = some c → p ≠ .sending →
    let found (cause : Cause) : Case :=
      { cause := cause, zone := item.poster, channel := c, mode := none, deviation := none, phase := none }
    let reply (d : Fin 32) (st : ReplyStatus) (rbs : List Readback) : Instr :=
      .replyFrameEnd (replyFrame d st rbs) (evenParity (replyFrame d st rbs))
    let faulted (t : State) : Prop := ∀ z : Fin 16, t.zones[z].state =
      if item.poster = some z ∧ s.zones[z].state ≠ .disabled then .faulted else s.zones[z].state
    (s.drive.channels[c].misses = 2 →
      let raises (i : Instr) : Prop := ∃ t : State, exec i s = .next t
        ∧ t.attn.isSet .major = true
        ∧ t.monitor.latestMajor = some (found .noReply)
        ∧ t.monitor.firstMajor = (if s.attn.isSet .major then s.monitor.firstMajor else some (item.poster, c))
        ∧ faulted t
      raises .replyBrokenOff ∧ (p = .waiting → raises .replyWindowEnd)
      ∧ (∀ data parity, (parity ≠ evenParity data ∨ crcGood data.tail = false) → raises (.replyFrameEnd data parity))
      ∧ ∀ (d : Fin 32) (st : ReplyStatus) (rbs : List Readback), d ≠ c → rbs.length ≤ 2 → raises (reply d st rbs))
    ∧ (∃ t : State, exec (reply c .ok []) s = .next t ∧ t.monitor = s.monitor)
    ∧ ∀ rbs : List Readback, rbs.length ≤ 2 →
      (∃ t : State, exec (reply c .limit rbs) s = .next t
        ∧ t.attn.isSet .minor = true ∧ t.monitor.latestMinor = some (found .statusLimit)
        ∧ (rbs = [] → t.monitor.latestMajor = s.monitor.latestMajor ∧ t.monitor.firstMajor = s.monitor.firstMajor
          ∧ t.monitor.firstMinor = (if s.attn.isSet .minor then s.monitor.firstMinor else some (item.poster, c))
          ∧ ∀ z : Fin 16, t.zones[z].state = s.zones[z].state))
      ∧ ∃ t : State, exec (reply c .fault rbs) s = .next t
        ∧ t.attn.isSet .major = true ∧ t.monitor.latestMajor = some (found .statusFault)
        ∧ (∀ z : Fin 16, item.poster = some z → s.zones[z].state ≠ .disabled → t.zones[z].state = .faulted)
        ∧ (rbs = [] → t.monitor.latestMinor = s.monitor.latestMinor ∧ t.monitor.firstMinor = s.monitor.firstMinor
          ∧ t.monitor.firstMajor = (if s.attn.isSet .major then s.monitor.firstMajor else some (item.poster, c))
          ∧ faulted t)

/-! ### The laws -/

/-- R111: a closure of a side gives exactly its two amounts to the records and the zone's orphan accounts, where no
account that it can add to would pass its top. R67: a credit call adds its amounts to the face's accounts, each stopping
at its top, adds the mark of its closure kind, and, where the record has a program, the face has an area and no reached
mark, and the net charge then meets the target of the slot, sets the reached mark to the record's lead and raises
TARGET. R66, R65: a release entry call takes one from the pending count, and decides the outcome where that leaves 0 and
the plating-closed mark is set, a SHORT one raising SHORTFALL. Neither changes anything where no live record is named.
(A release at count 0, which leaves it at 0, is assumption 14.) R67, the law of accounts: no step makes an account of a
record that stays live smaller, from accounts within their top. -/
def Obligations.ClosureConservesCharge : Prop :=
  (∀ (s : State) (z : Fin 16) (seq : BitVec 8) (d : Side) (qf qr : Nat) (kind : ClosureKind),
    d.aZ = totalArea d.entries →
    s.zones[z].orphanFwd + qf ≤ 4294967295 → s.zones[z].orphanRev + qr ≤ 4294967295 →
    (∀ r ∈ s.table.live, r.fwdA + qf ≤ 4294967295 ∧ r.fwdB + qf ≤ 4294967295
      ∧ r.revA + qr ≤ 4294967295 ∧ r.revB + qr ≤ 4294967295) →
    (closeSide z seq d qf qr kind s).forwardHeld z = s.forwardHeld z + qf
    ∧ (closeSide z seq d qf qr kind s).reverseHeld z = s.reverseHeld z + qr)
  ∧ (∀ (s : State) (index : Fin 64) (generation : BitVec 8), findRecord s.table.live index generation = none →
    (∀ f fwd rev kind, creditRecord index generation f fwd rev kind s = s) ∧ releaseEntry index generation s = s)
  ∧ (∀ (s : State) (r : Record) (ahead behind : List Record), s.table.live = ahead ++ r :: behind →
    (∀ q ∈ ahead, q.index ≠ r.index ∨ q.generation ≠ r.generation) →
    let stands (r' : Record) (a : Attention) : State :=
      { s with table := { s.table with live := ahead ++ r' :: behind }, attn := a }
    let less : Record := { r with pendingCount := r.pendingCount - 1 }
    releaseEntry r.index r.generation s
      = stands less.settled (if less.fallsShort then s.attn.raiseFlag .shortfall else s.attn)
    ∧ ∀ (f : Face) (fwd rev : Nat) (kind : ClosureKind),
      let marks : Marks := match kind with
        | .measured => r.marks
        | .forced => { r.marks with estimated := true }
        | .lost => { r.marks with gap := true }
      let more : Record := match f with
        | .A => { r with
            fwdA := min 4294967295 (r.fwdA + fwd), revA := min 4294967295 (r.revA + rev), marks := marks }
        | .B => { r with
            fwdB := min 4294967295 (r.fwdB + fwd), revB := min 4294967295 (r.revB + rev), marks := marks }
      let reached : Record := match f with
        | .A => { more with reachedA := some (s.lead r) }
        | .B => { more with reachedB := some (s.lead r) }
      let meets : Prop := ∃ k : Fin 16, r.slot = some k ∧ 0 < r.area f ∧ r.reached f = none
        ∧ ((s.programs[k].qT * r.area f * 10 : Nat) : Int) ≤ (more.fwd f : Int) - more.rev f
      (meets → creditRecord r.index r.generation f fwd rev kind s = stands reached (s.attn.raiseFlag .target))
      ∧ (¬ meets → creditRecord r.index r.generation f fwd rev kind s = stands more s.attn))
  ∧ ∀ s t : State, TableLaw s →
    (∀ r ∈ s.table.live, r.fwdA ≤ 4294967295 ∧ r.revA ≤ 4294967295 ∧ r.fwdB ≤ 4294967295 ∧ r.revB ≤ 4294967295) →
    step s = .next t → ∀ r ∈ s.table.live, ∀ r' ∈ t.table.live, r'.index = r.index → r'.generation = r.generation →
      r.fwdA ≤ r'.fwdA ∧ r.revA ≤ r'.revA ∧ r.fwdB ≤ r'.fwdB ∧ r.revB ≤ r'.revB

/-- R151, R152, R154, R90: every step keeps the law of the halted line. -/
def Obligations.HaltLawIsKept : Prop := ∀ s t : State, HaltLaw s → step s = .next t → HaltLaw t

/-- Sec. 3.3, R86 to R91: every step keeps the zones on the conveyor's motion state. -/
def Obligations.MotionLawIsKept : Prop := ∀ s t : State, MotionLaw s → step s = .next t → MotionLaw t

/-- R10, R12, R13: every step keeps the map valid and every zone in service enableable. -/
def Obligations.MapLawIsKept : Prop := ∀ s t : State, MapLaw s → step s = .next t → MapLaw t

/-- R76, R78: every step keeps every zone's pending list in its order and at most three snapshots long, on a map that
keeps its law. The other half of the law of snapshot capacity, at most 32 entries in a snapshot, is not stated here. -/
def Obligations.ServiceLawIsKept : Prop :=
  ∀ s t : State, MapLaw s → (∀ z : Fin 16, ServiceLaw s.zones[z]) → step s = .next t →
    ∀ z : Fin 16, ServiceLaw t.zones[z]

/-- R127, R131: every step keeps the law of the drive queue. -/
def Obligations.QueueLawIsKept : Prop := ∀ s t : State, QueueLaw s → step s = .next t → QueueLaw t

/-- R55, R56: every step keeps the law of tags and the table's capacity. -/
def Obligations.TableLawIsKept : Prop := ∀ s t : State, TableLaw s → step s = .next t → TableLaw t

/-- R57, R10 condition 5: every step keeps the law of line order, on a table, a map and settings that keep theirs, while
every record stands less than 2^30 pulses from the count: beyond half of the count's range the signed separations of
R37 no longer order the line (assumption 13). That PLACE keeps it rests on the model's reading of R71
(assumption 6). -/
def Obligations.LineOrderLawIsKept : Prop :=
  ∀ s t : State, TableLaw s → MapLaw s → RangeLaw s →
    (∀ r ∈ s.table.live, (pulsesBetween s.pos.count r.entryMark).natAbs < 2 ^ 30) →
    LineOrderLaw s → step s = .next t → LineOrderLaw t

/-- R31: every step keeps the law of reference counts, on a table that keeps its law. R66: every step keeps each live
record's pending count at the number of pending entries that name it, on a map and zones that keep their laws as well,
while no pending entry names the generation that its index takes next: the generation wraps (R55), and a record made
then would be named by an entry that was not its own. The pending entries are those of open sides: that the discard of
a half-closed snapshot releases these alone, as R118 has each entry released once, where R80 speaks of each of the
snapshot's entries, is the model's reading (assumption 17). -/
def Obligations.ReferenceLawIsKept : Prop :=
  ∀ s t : State, TableLaw s → step s = .next t → (ReferenceLaw s → ReferenceLaw t)
    ∧ (MapLaw s → (∀ z : Fin 16, ServiceLaw s.zones[z]) →
      (∀ e ∈ s.pendingEntries, e.generation ≠ s.table.generations[e.index] + 1) → HoldLaw s → HoldLaw t)

/-- R50 to R52: after every step the position watches have reported every record whose condition holds, on a table
that keeps its law. -/
def Obligations.WatchLawIsKept : Prop :=
  ∀ s t : State, TableLaw s → WatchLaw s → step s = .next t → WatchLaw t

/-- R139, R149, R183: every step keeps the reminder timer with its conditions and each latch with its flag. -/
def Obligations.AttentionLawIsKept : Prop := ∀ s t : State, AttentionLaw s → step s = .next t → AttentionLaw t

/-- R5, R6, R19, R24, R43, R49, R54, R76, R135, R136, R161, R175, R183: every step keeps the counters, the accounts, the
line settings, the densities, ratings and profiles, the program values, and the tags, lengths and areas of records and
announcements in the ranges the manual gives them. Reference counts and pending counts are not among them. -/
def Obligations.RangeLawIsKept : Prop := ∀ s t : State, RangeLaw s → step s = .next t → RangeLaw t

/-- Every law holds of the state after reset. -/
def Obligations.LawsHoldAtReset : Prop :=
  HaltLaw State.reset ∧ MotionLaw State.reset ∧ MapLaw State.reset ∧ (∀ z : Fin 16, ServiceLaw State.reset.zones[z])
  ∧ QueueLaw State.reset ∧ TableLaw State.reset ∧ ReferenceLaw State.reset ∧ WatchLaw State.reset
  ∧ AttentionLaw State.reset ∧ RangeLaw State.reset ∧ LineOrderLaw State.reset ∧ HoldLaw State.reset

end
end

