-- ==== Sys2Proof/Decode.lean ====
section
/-! DEFINITION. The decoder of command words. spec/opcode_table.json gives no row any bits: the commands of the part
are events of its pins, links and timers, so no word spells one. The frames that carry the plant link requests are
read by `Machine.parseRequest`. -/

namespace Sys2Proof

/-- No row of the table has bits: no word is a command. -/
def decodeTableWord (_nbits _w : Nat) : Option Instr := none

end Sys2Proof
end

