-- ==== Sys2Proof/Laws/Bytes.lean ====
section
/-! SUPPORT. Fields and their bytes: a field split into bytes, most significant first, joins to the field again, and
the number of bytes each split gives. -/

namespace Sys2Proof.Machine

@[simp] theorem joinHalf_split (x : Half) : joinHalf (x.extractLsb' 8 8) (x.extractLsb' 0 8) = x := by
  apply BitVec.eq_of_getLsbD_eq
  intro i hi
  simp only [joinHalf, BitVec.getLsbD_append, BitVec.getLsbD_extractLsb']
  split
  · simp [*]
  · have : 8 + (i - 8) = i := by omega
    simp [this, show i - 8 < 8 by omega]

@[simp] theorem joinMask_split (x : Mask) :
    joinMask (x.extractLsb' 16 8) (x.extractLsb' 8 8) (x.extractLsb' 0 8) = x := by
  apply BitVec.eq_of_getLsbD_eq
  intro i hi
  simp only [joinMask, BitVec.getLsbD_append, BitVec.getLsbD_extractLsb']
  by_cases h : i < 8
  · simp [h]
  · by_cases h' : i - 8 < 8
    · have : 8 + (i - 8) = i := by omega
      simp [h, h', this]
    · have : 16 + (i - 8 - 8) = i := by omega
      simp [h, h', this, show i - 8 - 8 < 8 by omega]

@[simp] theorem joinLong_split (x : Long) :
    joinLong (x.extractLsb' 24 8) (x.extractLsb' 16 8) (x.extractLsb' 8 8) (x.extractLsb' 0 8) = x := by
  apply BitVec.eq_of_getLsbD_eq
  intro i hi
  simp only [joinLong, BitVec.getLsbD_append, BitVec.getLsbD_extractLsb']
  by_cases h : i < 8
  · simp [h]
  · by_cases h' : i - 8 < 8
    · have : 8 + (i - 8) = i := by omega
      simp [h, h', this]
    · by_cases h'' : i - 8 - 8 < 8
      · have : 16 + (i - 8 - 8) = i := by omega
        simp [h, h', h'', this]
      · have : 24 + (i - 8 - 8 - 8) = i := by omega
        simp [h, h', h'', this, show i - 8 - 8 - 8 < 8 by omega]

@[simp] theorem halfBytes_length (x : Half) : (halfBytes x).length = 2 := rfl
@[simp] theorem longBytes_length (x : Long) : (longBytes x).length = 4 := rfl
@[simp] theorem maskBytes_length (x : Mask) : (maskBytes x).length = 3 := rfl

/-- R163: no request's payload is longer than a frame can carry; the longest is SET LINE's 36 bytes. -/
theorem requestPayload_length_le (r : Request) : (requestPayload r).length ≤ 36 := by
  cases r with
  | amend f => obtain ⟨t, l, a, p⟩ := f; cases l <;> cases a <;> cases p <;> simp [requestPayload]
  | identify i g t k => cases k <;> simp [requestPayload]
  | _ => simp [requestPayload, lineFieldBytes]

/-- Sec. 13.2: request codes run from 0x01 to 0x7F. -/
theorem requestCode_lt (r : Request) : (requestCode r).toNat < 128 := by
  cases r <;> simp [requestCode]

/-- R164: a run of characters with its check behind it has a good check. -/
theorem crcGood_append (body : List Byte) : crcGood (body ++ halfBytes (crc body)) = true := by
  simp [crcGood]

end Sys2Proof.Machine
end

