-- ==== Sys2Proof/Laws/State.lean ====
section
/-! SUPPORT. One lemma per field of the state per update of Machine/Ops.lean and of the receiver and drive bus files,
each true by unfolding, so that no later proof unfolds a record update. -/

namespace Sys2Proof.Machine

@[simp] theorem State.withMap_map (s : State) (x : LineMap) : (s.withMap x).map = x := rfl
@[simp] theorem State.withMap_programs (s : State) (x : LineMap) : (s.withMap x).programs = s.programs := rfl
@[simp] theorem State.withMap_pos (s : State) (x : LineMap) : (s.withMap x).pos = s.pos := rfl
@[simp] theorem State.withMap_table (s : State) (x : LineMap) : (s.withMap x).table = s.table := rfl
@[simp] theorem State.withMap_zones (s : State) (x : LineMap) : (s.withMap x).zones = s.zones := rfl
@[simp] theorem State.withMap_drive (s : State) (x : LineMap) : (s.withMap x).drive = s.drive := rfl
@[simp] theorem State.withMap_monitor (s : State) (x : LineMap) : (s.withMap x).monitor = s.monitor := rfl
@[simp] theorem State.withMap_sup (s : State) (x : LineMap) : (s.withMap x).sup = s.sup := rfl
@[simp] theorem State.withMap_link (s : State) (x : LineMap) : (s.withMap x).link = s.link := rfl
@[simp] theorem State.withMap_attn (s : State) (x : LineMap) : (s.withMap x).attn = s.attn := rfl
@[simp] theorem State.withMap_inReset (s : State) (x : LineMap) : (s.withMap x).inReset = s.inReset := rfl
@[simp] theorem State.withMap_pending (s : State) (x : LineMap) : (s.withMap x).pending = s.pending := rfl

@[simp] theorem State.withPrograms_map (s : State) (x : Vector Slot 16) : (s.withPrograms x).map = s.map := rfl
@[simp] theorem State.withPrograms_programs (s : State) (x : Vector Slot 16) : (s.withPrograms x).programs = x := rfl
@[simp] theorem State.withPrograms_pos (s : State) (x : Vector Slot 16) : (s.withPrograms x).pos = s.pos := rfl
@[simp] theorem State.withPrograms_table (s : State) (x : Vector Slot 16) : (s.withPrograms x).table = s.table := rfl
@[simp] theorem State.withPrograms_zones (s : State) (x : Vector Slot 16) : (s.withPrograms x).zones = s.zones := rfl
@[simp] theorem State.withPrograms_drive (s : State) (x : Vector Slot 16) : (s.withPrograms x).drive = s.drive := rfl
@[simp] theorem State.withPrograms_monitor (s : State) (x : Vector Slot 16) : (s.withPrograms x).monitor = s.monitor := rfl
@[simp] theorem State.withPrograms_sup (s : State) (x : Vector Slot 16) : (s.withPrograms x).sup = s.sup := rfl
@[simp] theorem State.withPrograms_link (s : State) (x : Vector Slot 16) : (s.withPrograms x).link = s.link := rfl
@[simp] theorem State.withPrograms_attn (s : State) (x : Vector Slot 16) : (s.withPrograms x).attn = s.attn := rfl
@[simp] theorem State.withPrograms_inReset (s : State) (x : Vector Slot 16) : (s.withPrograms x).inReset = s.inReset := rfl
@[simp] theorem State.withPrograms_pending (s : State) (x : Vector Slot 16) : (s.withPrograms x).pending = s.pending := rfl

@[simp] theorem State.withPos_map (s : State) (x : Position) : (s.withPos x).map = s.map := rfl
@[simp] theorem State.withPos_programs (s : State) (x : Position) : (s.withPos x).programs = s.programs := rfl
@[simp] theorem State.withPos_pos (s : State) (x : Position) : (s.withPos x).pos = x := rfl
@[simp] theorem State.withPos_table (s : State) (x : Position) : (s.withPos x).table = s.table := rfl
@[simp] theorem State.withPos_zones (s : State) (x : Position) : (s.withPos x).zones = s.zones := rfl
@[simp] theorem State.withPos_drive (s : State) (x : Position) : (s.withPos x).drive = s.drive := rfl
@[simp] theorem State.withPos_monitor (s : State) (x : Position) : (s.withPos x).monitor = s.monitor := rfl
@[simp] theorem State.withPos_sup (s : State) (x : Position) : (s.withPos x).sup = s.sup := rfl
@[simp] theorem State.withPos_link (s : State) (x : Position) : (s.withPos x).link = s.link := rfl
@[simp] theorem State.withPos_attn (s : State) (x : Position) : (s.withPos x).attn = s.attn := rfl
@[simp] theorem State.withPos_inReset (s : State) (x : Position) : (s.withPos x).inReset = s.inReset := rfl
@[simp] theorem State.withPos_pending (s : State) (x : Position) : (s.withPos x).pending = s.pending := rfl

@[simp] theorem State.withTable_map (s : State) (x : CarrierTable) : (s.withTable x).map = s.map := rfl
@[simp] theorem State.withTable_programs (s : State) (x : CarrierTable) : (s.withTable x).programs = s.programs := rfl
@[simp] theorem State.withTable_pos (s : State) (x : CarrierTable) : (s.withTable x).pos = s.pos := rfl
@[simp] theorem State.withTable_table (s : State) (x : CarrierTable) : (s.withTable x).table = x := rfl
@[simp] theorem State.withTable_zones (s : State) (x : CarrierTable) : (s.withTable x).zones = s.zones := rfl
@[simp] theorem State.withTable_drive (s : State) (x : CarrierTable) : (s.withTable x).drive = s.drive := rfl
@[simp] theorem State.withTable_monitor (s : State) (x : CarrierTable) : (s.withTable x).monitor = s.monitor := rfl
@[simp] theorem State.withTable_sup (s : State) (x : CarrierTable) : (s.withTable x).sup = s.sup := rfl
@[simp] theorem State.withTable_link (s : State) (x : CarrierTable) : (s.withTable x).link = s.link := rfl
@[simp] theorem State.withTable_attn (s : State) (x : CarrierTable) : (s.withTable x).attn = s.attn := rfl
@[simp] theorem State.withTable_inReset (s : State) (x : CarrierTable) : (s.withTable x).inReset = s.inReset := rfl
@[simp] theorem State.withTable_pending (s : State) (x : CarrierTable) : (s.withTable x).pending = s.pending := rfl

@[simp] theorem State.withZones_map (s : State) (x : Vector Sequencer 16) : (s.withZones x).map = s.map := rfl
@[simp] theorem State.withZones_programs (s : State) (x : Vector Sequencer 16) : (s.withZones x).programs = s.programs := rfl
@[simp] theorem State.withZones_pos (s : State) (x : Vector Sequencer 16) : (s.withZones x).pos = s.pos := rfl
@[simp] theorem State.withZones_table (s : State) (x : Vector Sequencer 16) : (s.withZones x).table = s.table := rfl
@[simp] theorem State.withZones_zones (s : State) (x : Vector Sequencer 16) : (s.withZones x).zones = x := rfl
@[simp] theorem State.withZones_drive (s : State) (x : Vector Sequencer 16) : (s.withZones x).drive = s.drive := rfl
@[simp] theorem State.withZones_monitor (s : State) (x : Vector Sequencer 16) : (s.withZones x).monitor = s.monitor := rfl
@[simp] theorem State.withZones_sup (s : State) (x : Vector Sequencer 16) : (s.withZones x).sup = s.sup := rfl
@[simp] theorem State.withZones_link (s : State) (x : Vector Sequencer 16) : (s.withZones x).link = s.link := rfl
@[simp] theorem State.withZones_attn (s : State) (x : Vector Sequencer 16) : (s.withZones x).attn = s.attn := rfl
@[simp] theorem State.withZones_inReset (s : State) (x : Vector Sequencer 16) : (s.withZones x).inReset = s.inReset := rfl
@[simp] theorem State.withZones_pending (s : State) (x : Vector Sequencer 16) : (s.withZones x).pending = s.pending := rfl

@[simp] theorem State.withDrive_map (s : State) (x : DriveBus) : (s.withDrive x).map = s.map := rfl
@[simp] theorem State.withDrive_programs (s : State) (x : DriveBus) : (s.withDrive x).programs = s.programs := rfl
@[simp] theorem State.withDrive_pos (s : State) (x : DriveBus) : (s.withDrive x).pos = s.pos := rfl
@[simp] theorem State.withDrive_table (s : State) (x : DriveBus) : (s.withDrive x).table = s.table := rfl
@[simp] theorem State.withDrive_zones (s : State) (x : DriveBus) : (s.withDrive x).zones = s.zones := rfl
@[simp] theorem State.withDrive_drive (s : State) (x : DriveBus) : (s.withDrive x).drive = x := rfl
@[simp] theorem State.withDrive_monitor (s : State) (x : DriveBus) : (s.withDrive x).monitor = s.monitor := rfl
@[simp] theorem State.withDrive_sup (s : State) (x : DriveBus) : (s.withDrive x).sup = s.sup := rfl
@[simp] theorem State.withDrive_link (s : State) (x : DriveBus) : (s.withDrive x).link = s.link := rfl
@[simp] theorem State.withDrive_attn (s : State) (x : DriveBus) : (s.withDrive x).attn = s.attn := rfl
@[simp] theorem State.withDrive_inReset (s : State) (x : DriveBus) : (s.withDrive x).inReset = s.inReset := rfl
@[simp] theorem State.withDrive_pending (s : State) (x : DriveBus) : (s.withDrive x).pending = s.pending := rfl

@[simp] theorem State.withMonitor_map (s : State) (x : Monitor) : (s.withMonitor x).map = s.map := rfl
@[simp] theorem State.withMonitor_programs (s : State) (x : Monitor) : (s.withMonitor x).programs = s.programs := rfl
@[simp] theorem State.withMonitor_pos (s : State) (x : Monitor) : (s.withMonitor x).pos = s.pos := rfl
@[simp] theorem State.withMonitor_table (s : State) (x : Monitor) : (s.withMonitor x).table = s.table := rfl
@[simp] theorem State.withMonitor_zones (s : State) (x : Monitor) : (s.withMonitor x).zones = s.zones := rfl
@[simp] theorem State.withMonitor_drive (s : State) (x : Monitor) : (s.withMonitor x).drive = s.drive := rfl
@[simp] theorem State.withMonitor_monitor (s : State) (x : Monitor) : (s.withMonitor x).monitor = x := rfl
@[simp] theorem State.withMonitor_sup (s : State) (x : Monitor) : (s.withMonitor x).sup = s.sup := rfl
@[simp] theorem State.withMonitor_link (s : State) (x : Monitor) : (s.withMonitor x).link = s.link := rfl
@[simp] theorem State.withMonitor_attn (s : State) (x : Monitor) : (s.withMonitor x).attn = s.attn := rfl
@[simp] theorem State.withMonitor_inReset (s : State) (x : Monitor) : (s.withMonitor x).inReset = s.inReset := rfl
@[simp] theorem State.withMonitor_pending (s : State) (x : Monitor) : (s.withMonitor x).pending = s.pending := rfl

@[simp] theorem State.withSup_map (s : State) (x : Supervisor) : (s.withSup x).map = s.map := rfl
@[simp] theorem State.withSup_programs (s : State) (x : Supervisor) : (s.withSup x).programs = s.programs := rfl
@[simp] theorem State.withSup_pos (s : State) (x : Supervisor) : (s.withSup x).pos = s.pos := rfl
@[simp] theorem State.withSup_table (s : State) (x : Supervisor) : (s.withSup x).table = s.table := rfl
@[simp] theorem State.withSup_zones (s : State) (x : Supervisor) : (s.withSup x).zones = s.zones := rfl
@[simp] theorem State.withSup_drive (s : State) (x : Supervisor) : (s.withSup x).drive = s.drive := rfl
@[simp] theorem State.withSup_monitor (s : State) (x : Supervisor) : (s.withSup x).monitor = s.monitor := rfl
@[simp] theorem State.withSup_sup (s : State) (x : Supervisor) : (s.withSup x).sup = x := rfl
@[simp] theorem State.withSup_link (s : State) (x : Supervisor) : (s.withSup x).link = s.link := rfl
@[simp] theorem State.withSup_attn (s : State) (x : Supervisor) : (s.withSup x).attn = s.attn := rfl
@[simp] theorem State.withSup_inReset (s : State) (x : Supervisor) : (s.withSup x).inReset = s.inReset := rfl
@[simp] theorem State.withSup_pending (s : State) (x : Supervisor) : (s.withSup x).pending = s.pending := rfl

@[simp] theorem State.withLink_map (s : State) (x : PlantLink) : (s.withLink x).map = s.map := rfl
@[simp] theorem State.withLink_programs (s : State) (x : PlantLink) : (s.withLink x).programs = s.programs := rfl
@[simp] theorem State.withLink_pos (s : State) (x : PlantLink) : (s.withLink x).pos = s.pos := rfl
@[simp] theorem State.withLink_table (s : State) (x : PlantLink) : (s.withLink x).table = s.table := rfl
@[simp] theorem State.withLink_zones (s : State) (x : PlantLink) : (s.withLink x).zones = s.zones := rfl
@[simp] theorem State.withLink_drive (s : State) (x : PlantLink) : (s.withLink x).drive = s.drive := rfl
@[simp] theorem State.withLink_monitor (s : State) (x : PlantLink) : (s.withLink x).monitor = s.monitor := rfl
@[simp] theorem State.withLink_sup (s : State) (x : PlantLink) : (s.withLink x).sup = s.sup := rfl
@[simp] theorem State.withLink_link (s : State) (x : PlantLink) : (s.withLink x).link = x := rfl
@[simp] theorem State.withLink_attn (s : State) (x : PlantLink) : (s.withLink x).attn = s.attn := rfl
@[simp] theorem State.withLink_inReset (s : State) (x : PlantLink) : (s.withLink x).inReset = s.inReset := rfl
@[simp] theorem State.withLink_pending (s : State) (x : PlantLink) : (s.withLink x).pending = s.pending := rfl

@[simp] theorem State.withAttn_map (s : State) (x : Attention) : (s.withAttn x).map = s.map := rfl
@[simp] theorem State.withAttn_programs (s : State) (x : Attention) : (s.withAttn x).programs = s.programs := rfl
@[simp] theorem State.withAttn_pos (s : State) (x : Attention) : (s.withAttn x).pos = s.pos := rfl
@[simp] theorem State.withAttn_table (s : State) (x : Attention) : (s.withAttn x).table = s.table := rfl
@[simp] theorem State.withAttn_zones (s : State) (x : Attention) : (s.withAttn x).zones = s.zones := rfl
@[simp] theorem State.withAttn_drive (s : State) (x : Attention) : (s.withAttn x).drive = s.drive := rfl
@[simp] theorem State.withAttn_monitor (s : State) (x : Attention) : (s.withAttn x).monitor = s.monitor := rfl
@[simp] theorem State.withAttn_sup (s : State) (x : Attention) : (s.withAttn x).sup = s.sup := rfl
@[simp] theorem State.withAttn_link (s : State) (x : Attention) : (s.withAttn x).link = s.link := rfl
@[simp] theorem State.withAttn_attn (s : State) (x : Attention) : (s.withAttn x).attn = x := rfl
@[simp] theorem State.withAttn_inReset (s : State) (x : Attention) : (s.withAttn x).inReset = s.inReset := rfl
@[simp] theorem State.withAttn_pending (s : State) (x : Attention) : (s.withAttn x).pending = s.pending := rfl

@[simp] theorem State.modifyZone_map (s : State) (z : Fin 16) (f : Sequencer → Sequencer) : (s.modifyZone z f).map = s.map := rfl
@[simp] theorem State.modifyZone_programs (s : State) (z : Fin 16) (f : Sequencer → Sequencer) : (s.modifyZone z f).programs = s.programs := rfl
@[simp] theorem State.modifyZone_pos (s : State) (z : Fin 16) (f : Sequencer → Sequencer) : (s.modifyZone z f).pos = s.pos := rfl
@[simp] theorem State.modifyZone_table (s : State) (z : Fin 16) (f : Sequencer → Sequencer) : (s.modifyZone z f).table = s.table := rfl
@[simp] theorem State.modifyZone_zones (s : State) (z : Fin 16) (f : Sequencer → Sequencer) : (s.modifyZone z f).zones = bankSet s.zones z (f s.zones[z]) := rfl
@[simp] theorem State.modifyZone_drive (s : State) (z : Fin 16) (f : Sequencer → Sequencer) : (s.modifyZone z f).drive = s.drive := rfl
@[simp] theorem State.modifyZone_monitor (s : State) (z : Fin 16) (f : Sequencer → Sequencer) : (s.modifyZone z f).monitor = s.monitor := rfl
@[simp] theorem State.modifyZone_sup (s : State) (z : Fin 16) (f : Sequencer → Sequencer) : (s.modifyZone z f).sup = s.sup := rfl
@[simp] theorem State.modifyZone_link (s : State) (z : Fin 16) (f : Sequencer → Sequencer) : (s.modifyZone z f).link = s.link := rfl
@[simp] theorem State.modifyZone_attn (s : State) (z : Fin 16) (f : Sequencer → Sequencer) : (s.modifyZone z f).attn = s.attn := rfl
@[simp] theorem State.modifyZone_inReset (s : State) (z : Fin 16) (f : Sequencer → Sequencer) : (s.modifyZone z f).inReset = s.inReset := rfl
@[simp] theorem State.modifyZone_pending (s : State) (z : Fin 16) (f : Sequencer → Sequencer) : (s.modifyZone z f).pending = s.pending := rfl

@[simp] theorem State.modifySlot_map (s : State) (k : Fin 16) (f : Slot → Slot) : (s.modifySlot k f).map = s.map := rfl
@[simp] theorem State.modifySlot_programs (s : State) (k : Fin 16) (f : Slot → Slot) : (s.modifySlot k f).programs = bankSet s.programs k (f s.programs[k]) := rfl
@[simp] theorem State.modifySlot_pos (s : State) (k : Fin 16) (f : Slot → Slot) : (s.modifySlot k f).pos = s.pos := rfl
@[simp] theorem State.modifySlot_table (s : State) (k : Fin 16) (f : Slot → Slot) : (s.modifySlot k f).table = s.table := rfl
@[simp] theorem State.modifySlot_zones (s : State) (k : Fin 16) (f : Slot → Slot) : (s.modifySlot k f).zones = s.zones := rfl
@[simp] theorem State.modifySlot_drive (s : State) (k : Fin 16) (f : Slot → Slot) : (s.modifySlot k f).drive = s.drive := rfl
@[simp] theorem State.modifySlot_monitor (s : State) (k : Fin 16) (f : Slot → Slot) : (s.modifySlot k f).monitor = s.monitor := rfl
@[simp] theorem State.modifySlot_sup (s : State) (k : Fin 16) (f : Slot → Slot) : (s.modifySlot k f).sup = s.sup := rfl
@[simp] theorem State.modifySlot_link (s : State) (k : Fin 16) (f : Slot → Slot) : (s.modifySlot k f).link = s.link := rfl
@[simp] theorem State.modifySlot_attn (s : State) (k : Fin 16) (f : Slot → Slot) : (s.modifySlot k f).attn = s.attn := rfl
@[simp] theorem State.modifySlot_inReset (s : State) (k : Fin 16) (f : Slot → Slot) : (s.modifySlot k f).inReset = s.inReset := rfl
@[simp] theorem State.modifySlot_pending (s : State) (k : Fin 16) (f : Slot → Slot) : (s.modifySlot k f).pending = s.pending := rfl

@[simp] theorem State.modifyChannel_map (s : State) (c : Fin 32) (f : ChannelState → ChannelState) : (s.modifyChannel c f).map = s.map := rfl
@[simp] theorem State.modifyChannel_programs (s : State) (c : Fin 32) (f : ChannelState → ChannelState) : (s.modifyChannel c f).programs = s.programs := rfl
@[simp] theorem State.modifyChannel_pos (s : State) (c : Fin 32) (f : ChannelState → ChannelState) : (s.modifyChannel c f).pos = s.pos := rfl
@[simp] theorem State.modifyChannel_table (s : State) (c : Fin 32) (f : ChannelState → ChannelState) : (s.modifyChannel c f).table = s.table := rfl
@[simp] theorem State.modifyChannel_zones (s : State) (c : Fin 32) (f : ChannelState → ChannelState) : (s.modifyChannel c f).zones = s.zones := rfl
@[simp] theorem State.modifyChannel_drive (s : State) (c : Fin 32) (f : ChannelState → ChannelState) : (s.modifyChannel c f).drive = { s.drive with channels := bankSet s.drive.channels c (f s.drive.channels[c]) } := rfl
@[simp] theorem State.modifyChannel_monitor (s : State) (c : Fin 32) (f : ChannelState → ChannelState) : (s.modifyChannel c f).monitor = s.monitor := rfl
@[simp] theorem State.modifyChannel_sup (s : State) (c : Fin 32) (f : ChannelState → ChannelState) : (s.modifyChannel c f).sup = s.sup := rfl
@[simp] theorem State.modifyChannel_link (s : State) (c : Fin 32) (f : ChannelState → ChannelState) : (s.modifyChannel c f).link = s.link := rfl
@[simp] theorem State.modifyChannel_attn (s : State) (c : Fin 32) (f : ChannelState → ChannelState) : (s.modifyChannel c f).attn = s.attn := rfl
@[simp] theorem State.modifyChannel_inReset (s : State) (c : Fin 32) (f : ChannelState → ChannelState) : (s.modifyChannel c f).inReset = s.inReset := rfl
@[simp] theorem State.modifyChannel_pending (s : State) (c : Fin 32) (f : ChannelState → ChannelState) : (s.modifyChannel c f).pending = s.pending := rfl

@[simp] theorem State.withLive_map (s : State) (x : List Record) : (s.withLive x).map = s.map := rfl
@[simp] theorem State.withLive_programs (s : State) (x : List Record) : (s.withLive x).programs = s.programs := rfl
@[simp] theorem State.withLive_pos (s : State) (x : List Record) : (s.withLive x).pos = s.pos := rfl
@[simp] theorem State.withLive_table (s : State) (x : List Record) : (s.withLive x).table = { s.table with live := x } := rfl
@[simp] theorem State.withLive_zones (s : State) (x : List Record) : (s.withLive x).zones = s.zones := rfl
@[simp] theorem State.withLive_drive (s : State) (x : List Record) : (s.withLive x).drive = s.drive := rfl
@[simp] theorem State.withLive_monitor (s : State) (x : List Record) : (s.withLive x).monitor = s.monitor := rfl
@[simp] theorem State.withLive_sup (s : State) (x : List Record) : (s.withLive x).sup = s.sup := rfl
@[simp] theorem State.withLive_link (s : State) (x : List Record) : (s.withLive x).link = s.link := rfl
@[simp] theorem State.withLive_attn (s : State) (x : List Record) : (s.withLive x).attn = s.attn := rfl
@[simp] theorem State.withLive_inReset (s : State) (x : List Record) : (s.withLive x).inReset = s.inReset := rfl
@[simp] theorem State.withLive_pending (s : State) (x : List Record) : (s.withLive x).pending = s.pending := rfl

@[simp] theorem State.withReceiver_map (s : State) (x : Receiver) : (s.withReceiver x).map = s.map := rfl
@[simp] theorem State.withReceiver_programs (s : State) (x : Receiver) : (s.withReceiver x).programs = s.programs := rfl
@[simp] theorem State.withReceiver_pos (s : State) (x : Receiver) : (s.withReceiver x).pos = s.pos := rfl
@[simp] theorem State.withReceiver_table (s : State) (x : Receiver) : (s.withReceiver x).table = s.table := rfl
@[simp] theorem State.withReceiver_zones (s : State) (x : Receiver) : (s.withReceiver x).zones = s.zones := rfl
@[simp] theorem State.withReceiver_drive (s : State) (x : Receiver) : (s.withReceiver x).drive = s.drive := rfl
@[simp] theorem State.withReceiver_monitor (s : State) (x : Receiver) : (s.withReceiver x).monitor = s.monitor := rfl
@[simp] theorem State.withReceiver_sup (s : State) (x : Receiver) : (s.withReceiver x).sup = s.sup := rfl
@[simp] theorem State.withReceiver_link (s : State) (x : Receiver) : (s.withReceiver x).link = { s.link with receiver := x } := rfl
@[simp] theorem State.withReceiver_attn (s : State) (x : Receiver) : (s.withReceiver x).attn = s.attn := rfl
@[simp] theorem State.withReceiver_inReset (s : State) (x : Receiver) : (s.withReceiver x).inReset = s.inReset := rfl
@[simp] theorem State.withReceiver_pending (s : State) (x : Receiver) : (s.withReceiver x).pending = s.pending := rfl

@[simp] theorem State.withLineBreak_map (s : State) (x : LineBreak) : (s.withLineBreak x).map = s.map := rfl
@[simp] theorem State.withLineBreak_programs (s : State) (x : LineBreak) : (s.withLineBreak x).programs = s.programs := rfl
@[simp] theorem State.withLineBreak_pos (s : State) (x : LineBreak) : (s.withLineBreak x).pos = s.pos := rfl
@[simp] theorem State.withLineBreak_table (s : State) (x : LineBreak) : (s.withLineBreak x).table = s.table := rfl
@[simp] theorem State.withLineBreak_zones (s : State) (x : LineBreak) : (s.withLineBreak x).zones = s.zones := rfl
@[simp] theorem State.withLineBreak_drive (s : State) (x : LineBreak) : (s.withLineBreak x).drive = s.drive := rfl
@[simp] theorem State.withLineBreak_monitor (s : State) (x : LineBreak) : (s.withLineBreak x).monitor = s.monitor := rfl
@[simp] theorem State.withLineBreak_sup (s : State) (x : LineBreak) : (s.withLineBreak x).sup = s.sup := rfl
@[simp] theorem State.withLineBreak_link (s : State) (x : LineBreak) : (s.withLineBreak x).link = { s.link with lineBreak := x } := rfl
@[simp] theorem State.withLineBreak_attn (s : State) (x : LineBreak) : (s.withLineBreak x).attn = s.attn := rfl
@[simp] theorem State.withLineBreak_inReset (s : State) (x : LineBreak) : (s.withLineBreak x).inReset = s.inReset := rfl
@[simp] theorem State.withLineBreak_pending (s : State) (x : LineBreak) : (s.withLineBreak x).pending = s.pending := rfl

@[simp] theorem State.heard_map (s : State) : s.heard.map = s.map := rfl
@[simp] theorem State.heard_programs (s : State) : s.heard.programs = s.programs := rfl
@[simp] theorem State.heard_pos (s : State) : s.heard.pos = s.pos := rfl
@[simp] theorem State.heard_table (s : State) : s.heard.table = s.table := rfl
@[simp] theorem State.heard_zones (s : State) : s.heard.zones = s.zones := rfl
@[simp] theorem State.heard_drive (s : State) : s.heard.drive = s.drive := rfl
@[simp] theorem State.heard_monitor (s : State) : s.heard.monitor = s.monitor := rfl
@[simp] theorem State.heard_sup (s : State) : s.heard.sup = s.sup := rfl
@[simp] theorem State.heard_attn (s : State) : s.heard.attn = s.attn := rfl
@[simp] theorem State.heard_inReset (s : State) : s.heard.inReset = s.inReset := rfl
@[simp] theorem State.heard_pending (s : State) : s.heard.pending = s.pending := rfl
@[simp] theorem State.heard_link (s : State) :
    s.heard.link = { s.link with lineBreak := s.link.lineBreak.afterCharacter } := rfl

@[simp] theorem State.withAccess_map (s : State) (x : MapAccess) : (s.withAccess x).map = { s.map with access := x } := rfl
@[simp] theorem State.withAccess_programs (s : State) (x : MapAccess) : (s.withAccess x).programs = s.programs := rfl
@[simp] theorem State.withAccess_pos (s : State) (x : MapAccess) : (s.withAccess x).pos = s.pos := rfl
@[simp] theorem State.withAccess_table (s : State) (x : MapAccess) : (s.withAccess x).table = s.table := rfl
@[simp] theorem State.withAccess_zones (s : State) (x : MapAccess) : (s.withAccess x).zones = s.zones := rfl
@[simp] theorem State.withAccess_drive (s : State) (x : MapAccess) : (s.withAccess x).drive = s.drive := rfl
@[simp] theorem State.withAccess_monitor (s : State) (x : MapAccess) : (s.withAccess x).monitor = s.monitor := rfl
@[simp] theorem State.withAccess_sup (s : State) (x : MapAccess) : (s.withAccess x).sup = s.sup := rfl
@[simp] theorem State.withAccess_link (s : State) (x : MapAccess) : (s.withAccess x).link = s.link := rfl
@[simp] theorem State.withAccess_attn (s : State) (x : MapAccess) : (s.withAccess x).attn = s.attn := rfl
@[simp] theorem State.withAccess_inReset (s : State) (x : MapAccess) : (s.withAccess x).inReset = s.inReset := rfl
@[simp] theorem State.withAccess_pending (s : State) (x : MapAccess) : (s.withAccess x).pending = s.pending := rfl

@[simp] theorem State.withBusPhase_map (s : State) (t : Transaction) (p : BusPhase) : (s.withBusPhase t p).map = s.map := rfl
@[simp] theorem State.withBusPhase_programs (s : State) (t : Transaction) (p : BusPhase) : (s.withBusPhase t p).programs = s.programs := rfl
@[simp] theorem State.withBusPhase_pos (s : State) (t : Transaction) (p : BusPhase) : (s.withBusPhase t p).pos = s.pos := rfl
@[simp] theorem State.withBusPhase_table (s : State) (t : Transaction) (p : BusPhase) : (s.withBusPhase t p).table = s.table := rfl
@[simp] theorem State.withBusPhase_zones (s : State) (t : Transaction) (p : BusPhase) : (s.withBusPhase t p).zones = s.zones := rfl
@[simp] theorem State.withBusPhase_drive (s : State) (t : Transaction) (p : BusPhase) : (s.withBusPhase t p).drive = { s.drive with bus := some { t with phase := p } } := rfl
@[simp] theorem State.withBusPhase_monitor (s : State) (t : Transaction) (p : BusPhase) : (s.withBusPhase t p).monitor = s.monitor := rfl
@[simp] theorem State.withBusPhase_sup (s : State) (t : Transaction) (p : BusPhase) : (s.withBusPhase t p).sup = s.sup := rfl
@[simp] theorem State.withBusPhase_link (s : State) (t : Transaction) (p : BusPhase) : (s.withBusPhase t p).link = s.link := rfl
@[simp] theorem State.withBusPhase_attn (s : State) (t : Transaction) (p : BusPhase) : (s.withBusPhase t p).attn = s.attn := rfl
@[simp] theorem State.withBusPhase_inReset (s : State) (t : Transaction) (p : BusPhase) : (s.withBusPhase t p).inReset = s.inReset := rfl
@[simp] theorem State.withBusPhase_pending (s : State) (t : Transaction) (p : BusPhase) : (s.withBusPhase t p).pending = s.pending := rfl

end Sys2Proof.Machine
end

