-- ==== Sys2Proof/Laws/Frames.lean ====
section
/-! SUPPORT. What each shared operation leaves alone: one lemma per operation, the blocks of the state it never
touches. Later proofs rewrite with these and never unfold an operation for a block it does not own. -/

namespace Sys2Proof.Machine

/-- A reading that no step of a fold moves is not moved by the fold. -/
theorem foldl_keeps {α β γ : Type} (f : β → α → β) (g : β → γ) (h : ∀ b a, g (f b a) = g b) (l : List α) (b : β) :
    g (l.foldl f b) = g b := by
  induction l generalizing b with
  | nil => rfl
  | cons a l ih => simp only [List.foldl_cons, ih, h]

@[simp] theorem raise_keeps (e : Event) (s : State) :
    (raise e s).map = s.map ∧ (raise e s).programs = s.programs ∧ (raise e s).pos = s.pos ∧
    (raise e s).table = s.table ∧ (raise e s).zones = s.zones ∧ (raise e s).drive = s.drive ∧
    (raise e s).monitor = s.monitor ∧ (raise e s).sup = s.sup ∧ (raise e s).link = s.link ∧
    (raise e s).inReset = s.inReset ∧ (raise e s).pending = s.pending := by
  simp [raise]

@[simp] theorem releaseSlot_keeps (k : Fin 16) (s : State) :
    (releaseSlot k s).map = s.map ∧ (releaseSlot k s).pos = s.pos ∧ (releaseSlot k s).table = s.table ∧
    (releaseSlot k s).zones = s.zones ∧ (releaseSlot k s).drive = s.drive ∧
    (releaseSlot k s).monitor = s.monitor ∧ (releaseSlot k s).sup = s.sup ∧ (releaseSlot k s).link = s.link ∧
    (releaseSlot k s).attn = s.attn ∧ (releaseSlot k s).inReset = s.inReset ∧
    (releaseSlot k s).pending = s.pending := by
  simp [releaseSlot]

@[simp] theorem releaseProgram_keeps (k : Option (Fin 16)) (s : State) :
    (releaseProgram k s).map = s.map ∧ (releaseProgram k s).pos = s.pos ∧
    (releaseProgram k s).table = s.table ∧ (releaseProgram k s).zones = s.zones ∧
    (releaseProgram k s).drive = s.drive ∧ (releaseProgram k s).monitor = s.monitor ∧
    (releaseProgram k s).sup = s.sup ∧ (releaseProgram k s).link = s.link ∧
    (releaseProgram k s).attn = s.attn ∧ (releaseProgram k s).inReset = s.inReset ∧
    (releaseProgram k s).pending = s.pending := by
  unfold releaseProgram
  repeat' split
  all_goals simp

@[simp] theorem modifyRecord_keeps (i : Fin 64) (g : BitVec 8) (f : Record → Record) (s : State) :
    (modifyRecord i g f s).map = s.map ∧ (modifyRecord i g f s).programs = s.programs ∧
    (modifyRecord i g f s).pos = s.pos ∧ (modifyRecord i g f s).zones = s.zones ∧
    (modifyRecord i g f s).drive = s.drive ∧ (modifyRecord i g f s).monitor = s.monitor ∧
    (modifyRecord i g f s).sup = s.sup ∧ (modifyRecord i g f s).link = s.link ∧
    (modifyRecord i g f s).attn = s.attn ∧ (modifyRecord i g f s).inReset = s.inReset ∧
    (modifyRecord i g f s).pending = s.pending := by
  simp [modifyRecord]

@[simp] theorem testTarget_keeps (i : Fin 64) (g : BitVec 8) (f : Face) (s : State) :
    (testTarget i g f s).map = s.map ∧ (testTarget i g f s).programs = s.programs ∧
    (testTarget i g f s).pos = s.pos ∧ (testTarget i g f s).zones = s.zones ∧
    (testTarget i g f s).drive = s.drive ∧ (testTarget i g f s).monitor = s.monitor ∧
    (testTarget i g f s).sup = s.sup ∧ (testTarget i g f s).link = s.link ∧
    (testTarget i g f s).inReset = s.inReset ∧ (testTarget i g f s).pending = s.pending := by
  unfold testTarget
  repeat' split
  all_goals simp

@[simp] theorem settleOutcome_keeps (i : Fin 64) (g : BitVec 8) (s : State) :
    (settleOutcome i g s).map = s.map ∧ (settleOutcome i g s).programs = s.programs ∧
    (settleOutcome i g s).pos = s.pos ∧ (settleOutcome i g s).zones = s.zones ∧
    (settleOutcome i g s).drive = s.drive ∧ (settleOutcome i g s).monitor = s.monitor ∧
    (settleOutcome i g s).sup = s.sup ∧ (settleOutcome i g s).link = s.link ∧
    (settleOutcome i g s).inReset = s.inReset ∧ (settleOutcome i g s).pending = s.pending := by
  unfold settleOutcome
  repeat' split
  all_goals simp

@[simp] theorem holdRecord_keeps (i : Fin 64) (g : BitVec 8) (s : State) :
    (holdRecord i g s).map = s.map ∧ (holdRecord i g s).programs = s.programs ∧
    (holdRecord i g s).pos = s.pos ∧ (holdRecord i g s).zones = s.zones ∧ (holdRecord i g s).drive = s.drive ∧
    (holdRecord i g s).monitor = s.monitor ∧ (holdRecord i g s).sup = s.sup ∧
    (holdRecord i g s).link = s.link ∧ (holdRecord i g s).attn = s.attn ∧
    (holdRecord i g s).inReset = s.inReset ∧ (holdRecord i g s).pending = s.pending := by
  simp [holdRecord]

@[simp] theorem releaseEntry_keeps (i : Fin 64) (g : BitVec 8) (s : State) :
    (releaseEntry i g s).map = s.map ∧ (releaseEntry i g s).programs = s.programs ∧
    (releaseEntry i g s).pos = s.pos ∧ (releaseEntry i g s).zones = s.zones ∧
    (releaseEntry i g s).drive = s.drive ∧ (releaseEntry i g s).monitor = s.monitor ∧
    (releaseEntry i g s).sup = s.sup ∧ (releaseEntry i g s).link = s.link ∧
    (releaseEntry i g s).inReset = s.inReset ∧ (releaseEntry i g s).pending = s.pending := by
  simp [releaseEntry]

@[simp] theorem creditRecord_keeps (i : Fin 64) (g : BitVec 8) (f : Face) (a b : Nat) (k : ClosureKind) (s : State) :
    (creditRecord i g f a b k s).map = s.map ∧ (creditRecord i g f a b k s).programs = s.programs ∧
    (creditRecord i g f a b k s).pos = s.pos ∧ (creditRecord i g f a b k s).zones = s.zones ∧
    (creditRecord i g f a b k s).drive = s.drive ∧ (creditRecord i g f a b k s).monitor = s.monitor ∧
    (creditRecord i g f a b k s).sup = s.sup ∧ (creditRecord i g f a b k s).link = s.link ∧
    (creditRecord i g f a b k s).inReset = s.inReset ∧ (creditRecord i g f a b k s).pending = s.pending := by
  simp [creditRecord]

@[simp] theorem platingEndWatch_keeps (i : Fin 64) (g : BitVec 8) (s : State) :
    (platingEndWatch i g s).map = s.map ∧ (platingEndWatch i g s).programs = s.programs ∧
    (platingEndWatch i g s).pos = s.pos ∧ (platingEndWatch i g s).zones = s.zones ∧
    (platingEndWatch i g s).drive = s.drive ∧ (platingEndWatch i g s).monitor = s.monitor ∧
    (platingEndWatch i g s).sup = s.sup ∧ (platingEndWatch i g s).link = s.link ∧
    (platingEndWatch i g s).inReset = s.inReset ∧ (platingEndWatch i g s).pending = s.pending := by
  unfold platingEndWatch
  repeat' split
  all_goals simp

@[simp] theorem exitWindowWatch_keeps (i : Fin 64) (g : BitVec 8) (s : State) :
    (exitWindowWatch i g s).map = s.map ∧ (exitWindowWatch i g s).programs = s.programs ∧
    (exitWindowWatch i g s).pos = s.pos ∧ (exitWindowWatch i g s).zones = s.zones ∧
    (exitWindowWatch i g s).drive = s.drive ∧ (exitWindowWatch i g s).monitor = s.monitor ∧
    (exitWindowWatch i g s).sup = s.sup ∧ (exitWindowWatch i g s).link = s.link ∧
    (exitWindowWatch i g s).inReset = s.inReset ∧ (exitWindowWatch i g s).pending = s.pending := by
  unfold exitWindowWatch
  repeat' split
  all_goals simp

@[simp] theorem platingEndWatchAll_keeps (s : State) :
    (platingEndWatchAll s).map = s.map ∧ (platingEndWatchAll s).programs = s.programs ∧
    (platingEndWatchAll s).pos = s.pos ∧ (platingEndWatchAll s).zones = s.zones ∧
    (platingEndWatchAll s).drive = s.drive ∧ (platingEndWatchAll s).monitor = s.monitor ∧
    (platingEndWatchAll s).sup = s.sup ∧ (platingEndWatchAll s).link = s.link ∧
    (platingEndWatchAll s).inReset = s.inReset ∧ (platingEndWatchAll s).pending = s.pending := by
  unfold platingEndWatchAll
  refine ⟨?_, ?_, ?_, ?_, ?_, ?_, ?_, ?_, ?_, ?_⟩ <;> exact foldl_keeps _ _ (fun _ _ => by simp) _ _

@[simp] theorem exitWindowWatchAll_keeps (s : State) :
    (exitWindowWatchAll s).map = s.map ∧ (exitWindowWatchAll s).programs = s.programs ∧
    (exitWindowWatchAll s).pos = s.pos ∧ (exitWindowWatchAll s).zones = s.zones ∧
    (exitWindowWatchAll s).drive = s.drive ∧ (exitWindowWatchAll s).monitor = s.monitor ∧
    (exitWindowWatchAll s).sup = s.sup ∧ (exitWindowWatchAll s).link = s.link ∧
    (exitWindowWatchAll s).inReset = s.inReset ∧ (exitWindowWatchAll s).pending = s.pending := by
  unfold exitWindowWatchAll
  refine ⟨?_, ?_, ?_, ?_, ?_, ?_, ?_, ?_, ?_, ?_⟩ <;> exact foldl_keeps _ _ (fun _ _ => by simp) _ _

@[simp] theorem removeRecord_keeps (r : Record) (s : State) :
    (removeRecord r s).map = s.map ∧ (removeRecord r s).pos = s.pos ∧ (removeRecord r s).zones = s.zones ∧
    (removeRecord r s).drive = s.drive ∧ (removeRecord r s).monitor = s.monitor ∧
    (removeRecord r s).sup = s.sup ∧ (removeRecord r s).link = s.link ∧ (removeRecord r s).attn = s.attn ∧
    (removeRecord r s).inReset = s.inReset ∧ (removeRecord r s).pending = s.pending := by
  simp [removeRecord]

@[simp] theorem putRecord_keeps (l : List Record) (r : Record) (s : State) :
    (putRecord l r s).map = s.map ∧ (putRecord l r s).programs = s.programs ∧ (putRecord l r s).pos = s.pos ∧
    (putRecord l r s).zones = s.zones ∧ (putRecord l r s).drive = s.drive ∧
    (putRecord l r s).monitor = s.monitor ∧ (putRecord l r s).sup = s.sup ∧ (putRecord l r s).link = s.link ∧
    (putRecord l r s).attn = s.attn ∧ (putRecord l r s).inReset = s.inReset ∧
    (putRecord l r s).pending = s.pending := by
  simp [putRecord]

@[simp] theorem displaceRecord_keeps (r : Record) (s : State) :
    (displaceRecord r s).map = s.map ∧ (displaceRecord r s).pos = s.pos ∧
    (displaceRecord r s).zones = s.zones ∧ (displaceRecord r s).drive = s.drive ∧
    (displaceRecord r s).monitor = s.monitor ∧ (displaceRecord r s).sup = s.sup ∧
    (displaceRecord r s).link = s.link ∧ (displaceRecord r s).inReset = s.inReset ∧
    (displaceRecord r s).pending = s.pending := by
  simp [displaceRecord]

@[simp] theorem loseCarrier_keeps (s : State) :
    (loseCarrier s).map = s.map ∧ (loseCarrier s).pos = s.pos ∧ (loseCarrier s).zones = s.zones ∧
    (loseCarrier s).drive = s.drive ∧ (loseCarrier s).monitor = s.monitor ∧ (loseCarrier s).sup = s.sup ∧
    (loseCarrier s).link = s.link ∧ (loseCarrier s).inReset = s.inReset ∧ (loseCarrier s).pending = s.pending := by
  unfold loseCarrier
  repeat' split
  all_goals simp

@[simp] theorem bindAnnouncement_keeps (a : Announcement) (q : List Announcement) (i : Fin 64) (g : BitVec 8) (s : State) :
    (bindAnnouncement a q i g s).map = s.map ∧ (bindAnnouncement a q i g s).programs = s.programs ∧
    (bindAnnouncement a q i g s).pos = s.pos ∧ (bindAnnouncement a q i g s).zones = s.zones ∧
    (bindAnnouncement a q i g s).drive = s.drive ∧ (bindAnnouncement a q i g s).monitor = s.monitor ∧
    (bindAnnouncement a q i g s).sup = s.sup ∧ (bindAnnouncement a q i g s).link = s.link ∧
    (bindAnnouncement a q i g s).inReset = s.inReset ∧ (bindAnnouncement a q i g s).pending = s.pending := by
  simp [bindAnnouncement]

@[simp] theorem clipRearmost_keeps (r : Option Record) (s : State) :
    (clipRearmost r s).map = s.map ∧ (clipRearmost r s).programs = s.programs ∧
    (clipRearmost r s).pos = s.pos ∧ (clipRearmost r s).zones = s.zones ∧ (clipRearmost r s).drive = s.drive ∧
    (clipRearmost r s).monitor = s.monitor ∧ (clipRearmost r s).sup = s.sup ∧
    (clipRearmost r s).link = s.link ∧ (clipRearmost r s).inReset = s.inReset ∧
    (clipRearmost r s).pending = s.pending := by
  unfold clipRearmost
  repeat' split
  all_goals simp

@[simp] theorem exitArrival_keeps (s : State) :
    (exitArrival s).map = s.map ∧ (exitArrival s).programs = s.programs ∧ (exitArrival s).pos = s.pos ∧
    (exitArrival s).zones = s.zones ∧ (exitArrival s).drive = s.drive ∧ (exitArrival s).monitor = s.monitor ∧
    (exitArrival s).sup = s.sup ∧ (exitArrival s).link = s.link ∧ (exitArrival s).inReset = s.inReset ∧
    (exitArrival s).pending = s.pending := by
  unfold exitArrival
  repeat' split
  all_goals simp

@[simp] theorem beginTransaction_keeps (s : State) :
    (beginTransaction s).map = s.map ∧ (beginTransaction s).programs = s.programs ∧
    (beginTransaction s).pos = s.pos ∧ (beginTransaction s).table = s.table ∧
    (beginTransaction s).zones = s.zones ∧ (beginTransaction s).monitor = s.monitor ∧
    (beginTransaction s).sup = s.sup ∧ (beginTransaction s).link = s.link ∧
    (beginTransaction s).attn = s.attn ∧ (beginTransaction s).inReset = s.inReset ∧
    (beginTransaction s).pending = s.pending := by
  unfold beginTransaction
  repeat' split
  all_goals simp

@[simp] theorem endTransaction_keeps (s : State) :
    (endTransaction s).map = s.map ∧ (endTransaction s).programs = s.programs ∧
    (endTransaction s).pos = s.pos ∧ (endTransaction s).table = s.table ∧ (endTransaction s).zones = s.zones ∧
    (endTransaction s).monitor = s.monitor ∧ (endTransaction s).sup = s.sup ∧
    (endTransaction s).link = s.link ∧ (endTransaction s).attn = s.attn ∧
    (endTransaction s).inReset = s.inReset ∧ (endTransaction s).pending = s.pending := by
  simp [endTransaction]

@[simp] theorem postItem_keeps (x : DriveItem) (s : State) :
    (postItem x s).map = s.map ∧ (postItem x s).programs = s.programs ∧ (postItem x s).pos = s.pos ∧
    (postItem x s).table = s.table ∧ (postItem x s).zones = s.zones ∧ (postItem x s).monitor = s.monitor ∧
    (postItem x s).sup = s.sup ∧ (postItem x s).link = s.link ∧ (postItem x s).inReset = s.inReset ∧
    (postItem x s).pending = s.pending := by
  unfold postItem
  repeat' split
  all_goals simp

@[simp] theorem postStops_keeps (c : List (Fin 32)) (p : Option (Fin 16)) (s : State) :
    (postStops c p s).map = s.map ∧ (postStops c p s).programs = s.programs ∧ (postStops c p s).pos = s.pos ∧
    (postStops c p s).table = s.table ∧ (postStops c p s).zones = s.zones ∧
    (postStops c p s).monitor = s.monitor ∧ (postStops c p s).sup = s.sup ∧ (postStops c p s).link = s.link ∧
    (postStops c p s).inReset = s.inReset ∧ (postStops c p s).pending = s.pending := by
  unfold postStops
  refine ⟨?_, ?_, ?_, ?_, ?_, ?_, ?_, ?_, ?_, ?_⟩ <;> exact foldl_keeps _ _ (fun _ _ => by simp) _ _

@[simp] theorem withdraw_keeps (f : DriveItem → Bool) (s : State) :
    (withdraw f s).map = s.map ∧ (withdraw f s).programs = s.programs ∧ (withdraw f s).pos = s.pos ∧
    (withdraw f s).table = s.table ∧ (withdraw f s).zones = s.zones ∧ (withdraw f s).monitor = s.monitor ∧
    (withdraw f s).sup = s.sup ∧ (withdraw f s).link = s.link ∧ (withdraw f s).attn = s.attn ∧
    (withdraw f s).inReset = s.inReset ∧ (withdraw f s).pending = s.pending := by
  simp [withdraw]

@[simp] theorem addOrphan_keeps (z : Fin 16) (a b : Nat) (s : State) :
    (addOrphan z a b s).map = s.map ∧ (addOrphan z a b s).programs = s.programs ∧
    (addOrphan z a b s).pos = s.pos ∧ (addOrphan z a b s).table = s.table ∧
    (addOrphan z a b s).drive = s.drive ∧ (addOrphan z a b s).monitor = s.monitor ∧
    (addOrphan z a b s).sup = s.sup ∧ (addOrphan z a b s).link = s.link ∧ (addOrphan z a b s).attn = s.attn ∧
    (addOrphan z a b s).inReset = s.inReset ∧ (addOrphan z a b s).pending = s.pending := by
  simp [addOrphan]

@[simp] theorem creditEntry_keeps (z : Fin 16) (e : Entry) (a b : Nat) (k : ClosureKind) (s : State) :
    (creditEntry z e a b k s).map = s.map ∧ (creditEntry z e a b k s).programs = s.programs ∧
    (creditEntry z e a b k s).pos = s.pos ∧ (creditEntry z e a b k s).drive = s.drive ∧
    (creditEntry z e a b k s).monitor = s.monitor ∧ (creditEntry z e a b k s).sup = s.sup ∧
    (creditEntry z e a b k s).link = s.link ∧ (creditEntry z e a b k s).inReset = s.inReset ∧
    (creditEntry z e a b k s).pending = s.pending := by
  unfold creditEntry
  repeat' split
  all_goals simp

@[simp] theorem creditEntries_keeps (z : Fin 16) (k : ClosureKind) (l : List (Entry × Nat × Nat)) (s : State) :
    (creditEntries z k l s).map = s.map ∧ (creditEntries z k l s).programs = s.programs ∧
    (creditEntries z k l s).pos = s.pos ∧ (creditEntries z k l s).drive = s.drive ∧
    (creditEntries z k l s).monitor = s.monitor ∧ (creditEntries z k l s).sup = s.sup ∧
    (creditEntries z k l s).link = s.link ∧ (creditEntries z k l s).inReset = s.inReset ∧
    (creditEntries z k l s).pending = s.pending := by
  induction l generalizing s with
  | nil => simp [creditEntries]
  | cons x l ih => obtain ⟨e, a, b⟩ := x; simp [creditEntries, ih]

@[simp] theorem shareOut_keeps (z : Fin 16) (d : Side) (a b : Nat) (k : ClosureKind) (s : State) :
    (shareOut z d a b k s).map = s.map ∧ (shareOut z d a b k s).programs = s.programs ∧
    (shareOut z d a b k s).pos = s.pos ∧ (shareOut z d a b k s).drive = s.drive ∧
    (shareOut z d a b k s).monitor = s.monitor ∧ (shareOut z d a b k s).sup = s.sup ∧
    (shareOut z d a b k s).link = s.link ∧ (shareOut z d a b k s).inReset = s.inReset ∧
    (shareOut z d a b k s).pending = s.pending := by
  unfold shareOut
  repeat' split
  all_goals simp

@[simp] theorem closeSide_keeps (z : Fin 16) (q : BitVec 8) (d : Side) (a b : Nat) (k : ClosureKind) (s : State) :
    (closeSide z q d a b k s).map = s.map ∧ (closeSide z q d a b k s).programs = s.programs ∧
    (closeSide z q d a b k s).pos = s.pos ∧ (closeSide z q d a b k s).drive = s.drive ∧
    (closeSide z q d a b k s).monitor = s.monitor ∧ (closeSide z q d a b k s).sup = s.sup ∧
    (closeSide z q d a b k s).link = s.link ∧ (closeSide z q d a b k s).inReset = s.inReset ∧
    (closeSide z q d a b k s).pending = s.pending := by
  simp [closeSide]

@[simp] theorem forceClose_keeps (z : Fin 16) (n : Snapshot) (s : State) :
    (forceClose z n s).map = s.map ∧ (forceClose z n s).programs = s.programs ∧
    (forceClose z n s).pos = s.pos ∧ (forceClose z n s).drive = s.drive ∧
    (forceClose z n s).monitor = s.monitor ∧ (forceClose z n s).sup = s.sup ∧
    (forceClose z n s).link = s.link ∧ (forceClose z n s).inReset = s.inReset ∧
    (forceClose z n s).pending = s.pending := by
  unfold forceClose
  refine ⟨?_, ?_, ?_, ?_, ?_, ?_, ?_, ?_, ?_⟩ <;> exact foldl_keeps _ _ (fun _ _ => by simp) _ _

@[simp] theorem loseSidesOf_keeps (c : Fin 32) (s : State) (z : Fin 16) :
    (loseSidesOf c s z).map = s.map ∧ (loseSidesOf c s z).programs = s.programs ∧ (loseSidesOf c s z).pos = s.pos ∧
    (loseSidesOf c s z).drive = s.drive ∧ (loseSidesOf c s z).monitor = s.monitor ∧ (loseSidesOf c s z).sup = s.sup ∧
    (loseSidesOf c s z).link = s.link ∧ (loseSidesOf c s z).inReset = s.inReset ∧
    (loseSidesOf c s z).pending = s.pending := by
  unfold loseSidesOf
  split
  · refine ⟨?_, ?_, ?_, ?_, ?_, ?_, ?_, ?_, ?_⟩ <;> exact foldl_keeps _ _ (fun _ _ => by split <;> simp) _ _
  · simp

@[simp] theorem loseSides_keeps (c : Fin 32) (s : State) :
    (loseSides c s).map = s.map ∧ (loseSides c s).programs = s.programs ∧ (loseSides c s).pos = s.pos ∧
    (loseSides c s).drive = s.drive ∧ (loseSides c s).monitor = s.monitor ∧ (loseSides c s).sup = s.sup ∧
    (loseSides c s).link = s.link ∧ (loseSides c s).inReset = s.inReset ∧ (loseSides c s).pending = s.pending := by
  unfold loseSides
  refine ⟨?_, ?_, ?_, ?_, ?_, ?_, ?_, ?_, ?_⟩ <;> exact foldl_keeps _ _ (fun _ _ => by simp) _ _

@[simp] theorem holdEntries_keeps (n : Snapshot) (s : State) :
    (holdEntries n s).map = s.map ∧ (holdEntries n s).programs = s.programs ∧ (holdEntries n s).pos = s.pos ∧
    (holdEntries n s).zones = s.zones ∧ (holdEntries n s).drive = s.drive ∧
    (holdEntries n s).monitor = s.monitor ∧ (holdEntries n s).sup = s.sup ∧ (holdEntries n s).link = s.link ∧
    (holdEntries n s).attn = s.attn ∧ (holdEntries n s).inReset = s.inReset ∧
    (holdEntries n s).pending = s.pending := by
  unfold holdEntries
  refine ⟨?_, ?_, ?_, ?_, ?_, ?_, ?_, ?_, ?_, ?_, ?_⟩ <;> exact foldl_keeps _ _ (fun _ _ => by simp) _ _

@[simp] theorem releaseEntries_keeps (n : Snapshot) (s : State) :
    (releaseEntries n s).map = s.map ∧ (releaseEntries n s).programs = s.programs ∧
    (releaseEntries n s).pos = s.pos ∧ (releaseEntries n s).zones = s.zones ∧
    (releaseEntries n s).drive = s.drive ∧ (releaseEntries n s).monitor = s.monitor ∧
    (releaseEntries n s).sup = s.sup ∧ (releaseEntries n s).link = s.link ∧
    (releaseEntries n s).inReset = s.inReset ∧ (releaseEntries n s).pending = s.pending := by
  unfold releaseEntries
  refine ⟨?_, ?_, ?_, ?_, ?_, ?_, ?_, ?_, ?_, ?_⟩ <;> exact foldl_keeps _ _ (fun _ _ => by simp) _ _

@[simp] theorem postOrders_keeps (z : Fin 16) (n : Snapshot) (s : State) :
    (postOrders z n s).map = s.map ∧ (postOrders z n s).programs = s.programs ∧
    (postOrders z n s).pos = s.pos ∧ (postOrders z n s).table = s.table ∧ (postOrders z n s).zones = s.zones ∧
    (postOrders z n s).monitor = s.monitor ∧ (postOrders z n s).sup = s.sup ∧
    (postOrders z n s).link = s.link ∧ (postOrders z n s).inReset = s.inReset ∧
    (postOrders z n s).pending = s.pending := by
  unfold postOrders
  refine ⟨?_, ?_, ?_, ?_, ?_, ?_, ?_, ?_, ?_, ?_⟩ <;> exact foldl_keeps _ _ (fun _ _ => by simp) _ _

@[simp] theorem raiseLimited_keeps (z : Fin 16) (m : Mode) (l : List Side) (t : State) (s : State) :
    (raiseLimited z m l t s).map = s.map ∧ (raiseLimited z m l t s).programs = s.programs ∧
    (raiseLimited z m l t s).pos = s.pos ∧ (raiseLimited z m l t s).table = s.table ∧
    (raiseLimited z m l t s).zones = s.zones ∧ (raiseLimited z m l t s).drive = s.drive ∧
    (raiseLimited z m l t s).monitor = s.monitor ∧ (raiseLimited z m l t s).sup = s.sup ∧
    (raiseLimited z m l t s).link = s.link ∧ (raiseLimited z m l t s).inReset = s.inReset ∧
    (raiseLimited z m l t s).pending = s.pending := by
  unfold raiseLimited
  repeat' split
  all_goals simp

@[simp] theorem buildSnapshot_keeps (z : Fin 16) (s : State) :
    (buildSnapshot z s).map = s.map ∧ (buildSnapshot z s).programs = s.programs ∧
    (buildSnapshot z s).pos = s.pos ∧ (buildSnapshot z s).monitor = s.monitor ∧
    (buildSnapshot z s).sup = s.sup ∧ (buildSnapshot z s).link = s.link ∧
    (buildSnapshot z s).inReset = s.inReset ∧ (buildSnapshot z s).pending = s.pending := by
  simp [buildSnapshot]

@[simp] theorem recompute_keeps (z : Fin 16) (s : State) :
    (recompute z s).map = s.map ∧ (recompute z s).programs = s.programs ∧ (recompute z s).pos = s.pos ∧
    (recompute z s).table = s.table ∧ (recompute z s).monitor = s.monitor ∧ (recompute z s).sup = s.sup ∧
    (recompute z s).link = s.link ∧ (recompute z s).inReset = s.inReset ∧ (recompute z s).pending = s.pending := by
  unfold recompute
  repeat' split
  all_goals simp

@[simp] theorem withdrawOrders_keeps (n : Snapshot) (s : State) :
    (withdrawOrders n s).map = s.map ∧ (withdrawOrders n s).programs = s.programs ∧
    (withdrawOrders n s).pos = s.pos ∧ (withdrawOrders n s).table = s.table ∧
    (withdrawOrders n s).zones = s.zones ∧ (withdrawOrders n s).monitor = s.monitor ∧
    (withdrawOrders n s).sup = s.sup ∧ (withdrawOrders n s).link = s.link ∧
    (withdrawOrders n s).attn = s.attn ∧ (withdrawOrders n s).inReset = s.inReset ∧
    (withdrawOrders n s).pending = s.pending := by
  unfold withdrawOrders
  refine ⟨?_, ?_, ?_, ?_, ?_, ?_, ?_, ?_, ?_, ?_, ?_⟩ <;> exact foldl_keeps _ _ (fun _ _ => by simp) _ _

@[simp] theorem discardSnapshot_keeps (z : Fin 16) (f : Snapshot → Bool) (s : State) :
    (discardSnapshot z f s).map = s.map ∧ (discardSnapshot z f s).programs = s.programs ∧
    (discardSnapshot z f s).pos = s.pos ∧ (discardSnapshot z f s).monitor = s.monitor ∧
    (discardSnapshot z f s).sup = s.sup ∧ (discardSnapshot z f s).link = s.link ∧
    (discardSnapshot z f s).inReset = s.inReset ∧ (discardSnapshot z f s).pending = s.pending := by
  unfold discardSnapshot
  repeat' split
  all_goals simp

@[simp] theorem enterService_keeps (z : Fin 16) (x : ZoneState) (s : State) :
    (enterService z x s).map = s.map ∧ (enterService z x s).programs = s.programs ∧
    (enterService z x s).pos = s.pos ∧ (enterService z x s).monitor = s.monitor ∧
    (enterService z x s).sup = s.sup ∧ (enterService z x s).link = s.link ∧
    (enterService z x s).inReset = s.inReset ∧ (enterService z x s).pending = s.pending := by
  simp [enterService]

@[simp] theorem leaveService_keeps (z : Fin 16) (x : ZoneState) (s : State) :
    (leaveService z x s).map = s.map ∧ (leaveService z x s).programs = s.programs ∧
    (leaveService z x s).pos = s.pos ∧ (leaveService z x s).monitor = s.monitor ∧
    (leaveService z x s).sup = s.sup ∧ (leaveService z x s).link = s.link ∧
    (leaveService z x s).inReset = s.inReset ∧ (leaveService z x s).pending = s.pending := by
  simp only [leaveService]
  repeat' split
  all_goals simp

@[simp] theorem boundaryForce_keeps (z : Fin 16) (s : State) :
    (boundaryForce z s).map = s.map ∧ (boundaryForce z s).programs = s.programs ∧
    (boundaryForce z s).pos = s.pos ∧ (boundaryForce z s).drive = s.drive ∧
    (boundaryForce z s).monitor = s.monitor ∧ (boundaryForce z s).sup = s.sup ∧
    (boundaryForce z s).link = s.link ∧ (boundaryForce z s).inReset = s.inReset ∧
    (boundaryForce z s).pending = s.pending := by
  unfold boundaryForce
  repeat' split
  all_goals simp

@[simp] theorem lateSide_keeps (z : Fin 16) (n : Snapshot) (s : State) (d : Side) :
    (lateSide z n s d).map = s.map ∧ (lateSide z n s d).programs = s.programs ∧ (lateSide z n s d).pos = s.pos ∧
    (lateSide z n s d).table = s.table ∧ (lateSide z n s d).monitor = s.monitor ∧ (lateSide z n s d).sup = s.sup ∧
    (lateSide z n s d).link = s.link ∧ (lateSide z n s d).inReset = s.inReset ∧ (lateSide z n s d).pending = s.pending := by
  unfold lateSide
  split <;> simp

@[simp] theorem boundaryStart_keeps (z : Fin 16) (s : State) :
    (boundaryStart z s).map = s.map ∧ (boundaryStart z s).programs = s.programs ∧
    (boundaryStart z s).pos = s.pos ∧ (boundaryStart z s).table = s.table ∧
    (boundaryStart z s).monitor = s.monitor ∧ (boundaryStart z s).sup = s.sup ∧
    (boundaryStart z s).link = s.link ∧ (boundaryStart z s).inReset = s.inReset ∧
    (boundaryStart z s).pending = s.pending := by
  unfold boundaryStart
  dsimp only
  split
  · simp
  · refine ⟨?_, ?_, ?_, ?_, ?_, ?_, ?_, ?_, ?_⟩ <;> exact (foldl_keeps _ _ (fun _ _ => by simp) _ _).trans (by simp)

@[simp] theorem takeBoundary_keeps (z : Fin 16) (s : State) :
    (takeBoundary z s).map = s.map ∧ (takeBoundary z s).programs = s.programs ∧
    (takeBoundary z s).pos = s.pos ∧ (takeBoundary z s).monitor = s.monitor ∧ (takeBoundary z s).sup = s.sup ∧
    (takeBoundary z s).link = s.link ∧ (takeBoundary z s).inReset = s.inReset ∧
    (takeBoundary z s).pending = s.pending := by
  simp [takeBoundary]

@[simp] theorem tellMotion_keeps (m : Motion) (s : State) (z : Fin 16) :
    (tellMotion m s z).map = s.map ∧ (tellMotion m s z).programs = s.programs ∧ (tellMotion m s z).pos = s.pos ∧
    (tellMotion m s z).monitor = s.monitor ∧ (tellMotion m s z).sup = s.sup ∧ (tellMotion m s z).link = s.link ∧
    (tellMotion m s z).inReset = s.inReset ∧ (tellMotion m s z).pending = s.pending := by
  unfold tellMotion
  split <;> simp

@[simp] theorem changeMotion_keeps (m : Motion) (s : State) :
    (changeMotion m s).map = s.map ∧ (changeMotion m s).programs = s.programs ∧
    (changeMotion m s).pos = s.pos ∧ (changeMotion m s).monitor = s.monitor ∧ (changeMotion m s).sup = s.sup ∧
    (changeMotion m s).link = s.link ∧ (changeMotion m s).inReset = s.inReset ∧
    (changeMotion m s).pending = s.pending := by
  unfold changeMotion
  refine ⟨?_, ?_, ?_, ?_, ?_, ?_, ?_, ?_⟩ <;> exact (foldl_keeps _ _ (fun _ _ => by simp) _ _).trans (by simp)

@[simp] theorem faultZone_keeps (z : Fin 16) (s : State) :
    (faultZone z s).map = s.map ∧ (faultZone z s).programs = s.programs ∧ (faultZone z s).pos = s.pos ∧
    (faultZone z s).monitor = s.monitor ∧ (faultZone z s).sup = s.sup ∧ (faultZone z s).link = s.link ∧
    (faultZone z s).inReset = s.inReset ∧ (faultZone z s).pending = s.pending := by
  unfold faultZone
  repeat' split
  all_goals simp

@[simp] theorem restartExpires_keeps (z : Fin 16) (s : State) :
    (restartExpires z s).map = s.map ∧ (restartExpires z s).programs = s.programs ∧
    (restartExpires z s).pos = s.pos ∧ (restartExpires z s).monitor = s.monitor ∧
    (restartExpires z s).sup = s.sup ∧ (restartExpires z s).link = s.link ∧
    (restartExpires z s).inReset = s.inReset ∧ (restartExpires z s).pending = s.pending := by
  unfold restartExpires
  repeat' split
  all_goals simp

@[simp] theorem raiseMajor_keeps (c : Case) (s : State) :
    (raiseMajor c s).map = s.map ∧ (raiseMajor c s).programs = s.programs ∧ (raiseMajor c s).pos = s.pos ∧
    (raiseMajor c s).sup = s.sup ∧ (raiseMajor c s).link = s.link ∧ (raiseMajor c s).inReset = s.inReset ∧
    (raiseMajor c s).pending = s.pending := by
  unfold raiseMajor
  repeat' split
  all_goals simp

@[simp] theorem raiseMinor_keeps (c : Case) (s : State) :
    (raiseMinor c s).map = s.map ∧ (raiseMinor c s).programs = s.programs ∧ (raiseMinor c s).pos = s.pos ∧
    (raiseMinor c s).table = s.table ∧ (raiseMinor c s).zones = s.zones ∧ (raiseMinor c s).drive = s.drive ∧
    (raiseMinor c s).sup = s.sup ∧ (raiseMinor c s).link = s.link ∧ (raiseMinor c s).inReset = s.inReset ∧
    (raiseMinor c s).pending = s.pending := by
  simp [raiseMinor]

@[simp] theorem raiseClass_keeps (c : CaseClass) (s : State) :
    (raiseClass c s).map = s.map ∧ (raiseClass c s).programs = s.programs ∧ (raiseClass c s).pos = s.pos ∧
    (raiseClass c s).sup = s.sup ∧ (raiseClass c s).link = s.link ∧ (raiseClass c s).inReset = s.inReset ∧
    (raiseClass c s).pending = s.pending := by
  cases c <;> simp [raiseClass]

@[simp] theorem handOff_keeps (z : Fin 16) (m : Mode) (d : Side) (a b : Nat) (s : State) :
    (handOff z m d a b s).map = s.map ∧ (handOff z m d a b s).programs = s.programs ∧
    (handOff z m d a b s).pos = s.pos ∧ (handOff z m d a b s).sup = s.sup ∧
    (handOff z m d a b s).link = s.link ∧ (handOff z m d a b s).inReset = s.inReset ∧
    (handOff z m d a b s).pending = s.pending := by
  unfold handOff
  repeat' split
  all_goals simp

@[simp] theorem judgeStatus_keeps (x : ReplyStatus) (c : Fin 32) (p : Option (Fin 16)) (s : State) :
    (judgeStatus x c p s).map = s.map ∧ (judgeStatus x c p s).programs = s.programs ∧
    (judgeStatus x c p s).pos = s.pos ∧ (judgeStatus x c p s).sup = s.sup ∧
    (judgeStatus x c p s).link = s.link ∧ (judgeStatus x c p s).inReset = s.inReset ∧
    (judgeStatus x c p s).pending = s.pending := by
  unfold judgeStatus
  repeat' split
  all_goals simp

@[simp] theorem channelFault_keeps (c : Fin 32) (p : Option (Fin 16)) (s : State) :
    (channelFault c p s).map = s.map ∧ (channelFault c p s).programs = s.programs ∧
    (channelFault c p s).pos = s.pos ∧ (channelFault c p s).sup = s.sup ∧ (channelFault c p s).link = s.link ∧
    (channelFault c p s).inReset = s.inReset ∧ (channelFault c p s).pending = s.pending := by
  simp [channelFault]

@[simp] theorem countStale_keeps (c : Fin 32) (s : State) :
    (countStale c s).map = s.map ∧ (countStale c s).programs = s.programs ∧ (countStale c s).pos = s.pos ∧
    (countStale c s).table = s.table ∧ (countStale c s).zones = s.zones ∧
    (countStale c s).monitor = s.monitor ∧ (countStale c s).sup = s.sup ∧ (countStale c s).link = s.link ∧
    (countStale c s).attn = s.attn ∧ (countStale c s).inReset = s.inReset ∧ (countStale c s).pending = s.pending := by
  simp [countStale]

@[simp] theorem takeReadback_keeps (c : Fin 32) (s : State) (b : Readback) :
    (takeReadback c s b).map = s.map ∧ (takeReadback c s b).programs = s.programs ∧
    (takeReadback c s b).pos = s.pos ∧ (takeReadback c s b).sup = s.sup ∧ (takeReadback c s b).link = s.link ∧
    (takeReadback c s b).inReset = s.inReset ∧ (takeReadback c s b).pending = s.pending := by
  unfold takeReadback
  split <;> simp

@[simp] theorem takeReadbacks_keeps (c : Fin 32) (s : State) (l : List Readback) :
    (l.foldl (takeReadback c) s).map = s.map ∧ (l.foldl (takeReadback c) s).programs = s.programs ∧ (l.foldl (takeReadback c) s).pos = s.pos ∧ (l.foldl (takeReadback c) s).sup = s.sup ∧
    (l.foldl (takeReadback c) s).link = s.link ∧ (l.foldl (takeReadback c) s).inReset = s.inReset ∧ (l.foldl (takeReadback c) s).pending = s.pending := by
  refine ⟨?_, ?_, ?_, ?_, ?_, ?_, ?_⟩ <;> exact foldl_keeps _ _ (fun _ _ => by simp) _ _

@[simp] theorem goodEnd_keeps (x : DriveItem) (c : Fin 32) (st : ReplyStatus) (b : List Readback) (s : State) :
    (goodEnd x c st b s).map = s.map ∧ (goodEnd x c st b s).programs = s.programs ∧
    (goodEnd x c st b s).pos = s.pos ∧ (goodEnd x c st b s).sup = s.sup ∧ (goodEnd x c st b s).link = s.link ∧
    (goodEnd x c st b s).inReset = s.inReset ∧ (goodEnd x c st b s).pending = s.pending := by
  simp only [goodEnd]
  split <;> simp

@[simp] theorem badEnd_keeps (x : DriveItem) (c : Fin 32) (h : TransactionEnd) (s : State) :
    (badEnd x c h s).map = s.map ∧ (badEnd x c h s).programs = s.programs ∧ (badEnd x c h s).pos = s.pos ∧
    (badEnd x c h s).sup = s.sup ∧ (badEnd x c h s).link = s.link ∧ (badEnd x c h s).inReset = s.inReset ∧
    (badEnd x c h s).pending = s.pending := by
  simp only [badEnd]
  repeat' split
  all_goals simp

@[simp] theorem tellHalt_keeps (s : State) (z : Fin 16) :
    (tellHalt s z).map = s.map ∧ (tellHalt s z).programs = s.programs ∧ (tellHalt s z).pos = s.pos ∧
    (tellHalt s z).monitor = s.monitor ∧ (tellHalt s z).sup = s.sup ∧ (tellHalt s z).link = s.link ∧
    (tellHalt s z).inReset = s.inReset ∧ (tellHalt s z).pending = s.pending := by
  unfold tellHalt
  split <;> simp

@[simp] theorem tellHaltAll_keeps (l : List (Fin 16)) (s : State) :
    (l.foldl tellHalt s).map = s.map ∧ (l.foldl tellHalt s).programs = s.programs ∧ (l.foldl tellHalt s).pos = s.pos ∧ (l.foldl tellHalt s).monitor = s.monitor ∧
    (l.foldl tellHalt s).sup = s.sup ∧ (l.foldl tellHalt s).link = s.link ∧ (l.foldl tellHalt s).inReset = s.inReset ∧ (l.foldl tellHalt s).pending = s.pending := by
  refine ⟨?_, ?_, ?_, ?_, ?_, ?_, ?_, ?_⟩ <;> exact foldl_keeps _ _ (fun _ _ => by simp) _ _

@[simp] theorem tellResume_keeps (s : State) (z : Fin 16) :
    (tellResume s z).map = s.map ∧ (tellResume s z).programs = s.programs ∧ (tellResume s z).pos = s.pos ∧
    (tellResume s z).table = s.table ∧ (tellResume s z).drive = s.drive ∧ (tellResume s z).monitor = s.monitor ∧
    (tellResume s z).sup = s.sup ∧ (tellResume s z).link = s.link ∧ (tellResume s z).attn = s.attn ∧
    (tellResume s z).inReset = s.inReset ∧ (tellResume s z).pending = s.pending := by
  unfold tellResume
  split <;> simp

@[simp] theorem tellResumeAll_keeps (l : List (Fin 16)) (s : State) :
    (l.foldl tellResume s).map = s.map ∧ (l.foldl tellResume s).programs = s.programs ∧ (l.foldl tellResume s).pos = s.pos ∧ (l.foldl tellResume s).table = s.table ∧
    (l.foldl tellResume s).drive = s.drive ∧ (l.foldl tellResume s).monitor = s.monitor ∧ (l.foldl tellResume s).sup = s.sup ∧ (l.foldl tellResume s).link = s.link ∧
    (l.foldl tellResume s).attn = s.attn ∧ (l.foldl tellResume s).inReset = s.inReset ∧ (l.foldl tellResume s).pending = s.pending := by
  refine ⟨?_, ?_, ?_, ?_, ?_, ?_, ?_, ?_, ?_, ?_, ?_⟩ <;> exact foldl_keeps _ _ (fun _ _ => by simp) _ _

@[simp] theorem haltLine_keeps (s : State) :
    (haltLine s).map = s.map ∧ (haltLine s).programs = s.programs ∧ (haltLine s).pos = s.pos ∧
    (haltLine s).monitor = s.monitor ∧ (haltLine s).link = s.link ∧ (haltLine s).inReset = s.inReset ∧
    (haltLine s).pending = s.pending := by
  unfold haltLine
  split <;> simp

end Sys2Proof.Machine
end

