-- ==== Sys2Proof/Laws/Ops.lean ====
section
/-! SUPPORT. What the small shared operations do: banks, first members of lists, saturation, the Program Store's
calls, and the list of pending snapshots at a closure. -/

namespace Sys2Proof.Machine

/-! ### Banks -/

/-- The index in simp normal form. -/
theorem bankSet_getElem {α : Type} {n : Nat} (v : Vector α n) (i : Fin n) (x : α) (j : Nat) (h : j < n) :
    (bankSet v i x)[j] = if j = i.val then x else v[j] := by
  by_cases e : j = i.val
  · subst e; simp [bankSet]
  · simp [bankSet, e, Ne.symm e]

theorem bankSet_get {α : Type} {n : Nat} (v : Vector α n) (i j : Fin n) (x : α) :
    (bankSet v i x)[j] = if j = i then x else v[j] := by
  simp only [Fin.getElem_fin, bankSet_getElem, Fin.ext_iff]

@[simp] theorem bankSet_get_self {α : Type} {n : Nat} (v : Vector α n) (i : Fin n) (x : α) :
    (bankSet v i x)[i.val] = x := by simp only [bankSet_getElem, if_true]

theorem bankSet_get_other {α : Type} {n : Nat} (v : Vector α n) {i j : Fin n} (h : j ≠ i) (x : α) :
    (bankSet v i x)[j] = v[j] := by rw [bankSet_get, if_neg h]

theorem modifyZone_get (s : State) (z y : Fin 16) (f : Sequencer → Sequencer) :
    (s.modifyZone z f).zones[y] = if y = z then f s.zones[z] else s.zones[y] := by
  simp only [State.modifyZone, State.withZones, bankSet_get]

theorem modifySlot_get (s : State) (k j : Fin 16) (f : Slot → Slot) :
    (s.modifySlot k f).programs[j] = if j = k then f s.programs[k] else s.programs[j] := by
  simp only [State.modifySlot, State.withPrograms, bankSet_get]

theorem modifyChannel_get (s : State) (c d : Fin 32) (f : ChannelState → ChannelState) :
    (s.modifyChannel c f).drive.channels[d] = if d = c then f s.drive.channels[c] else s.drive.channels[d] := by
  simp only [State.modifyChannel, State.withDrive, bankSet_get]

/-! ### Saturation -/

theorem satAdd_le (top a b : Nat) : satAdd top a b ≤ top := Nat.min_le_left ..

theorem satAdd_exact {top a b : Nat} (h : a + b ≤ top) : satAdd top a b = a + b := Nat.min_eq_right h

/-! ### First members of lists -/

theorem modifyFirst_append {α : Type} {test : α → Bool} {f : α → α} {l r : List α} {x : α}
    (hl : ∀ y ∈ l, test y = false) (hx : test x = true) :
    modifyFirst test f (l ++ x :: r) = l ++ f x :: r := by
  induction l with
  | nil => simp [modifyFirst, hx]
  | cons y l ih =>
    simp only [List.mem_cons, forall_eq_or_imp] at hl
    simp [modifyFirst, hl.1, ih hl.2]

theorem modifyFirst_none {α : Type} {test : α → Bool} {f : α → α} {l : List α}
    (hl : ∀ y ∈ l, test y = false) : modifyFirst test f l = l := by
  induction l with
  | nil => rfl
  | cons y l ih =>
    simp only [List.mem_cons, forall_eq_or_imp] at hl
    simp [modifyFirst, hl.1, ih hl.2]

theorem removeFirst_append {α : Type} {test : α → Bool} {l r : List α} {x : α}
    (hl : ∀ y ∈ l, test y = false) (hx : test x = true) : removeFirst test (l ++ x :: r) = l ++ r := by
  induction l with
  | nil => simp [removeFirst, hx]
  | cons y l ih =>
    simp only [List.mem_cons, forall_eq_or_imp] at hl
    simp [removeFirst, hl.1, ih hl.2]

theorem removeFirst_none {α : Type} {test : α → Bool} {l : List α}
    (hl : ∀ y ∈ l, test y = false) : removeFirst test l = l := by
  induction l with
  | nil => rfl
  | cons y l ih =>
    simp only [List.mem_cons, forall_eq_or_imp] at hl
    simp [removeFirst, hl.1, ih hl.2]

/-- A change that a function does not see leaves the list of its values alone. -/
theorem map_modifyFirst {α β : Type} {test : α → Bool} {f : α → α} {g : α → β} (h : ∀ x, g (f x) = g x)
    (l : List α) : (modifyFirst test f l).map g = l.map g := by
  induction l with
  | nil => rfl
  | cons y l ih => by_cases hy : test y <;> simp [modifyFirst, hy, h, ih]

@[simp] theorem length_modifyFirst {α : Type} (test : α → Bool) (f : α → α) (l : List α) :
    (modifyFirst test f l).length = l.length := by
  induction l with
  | nil => rfl
  | cons y l ih => by_cases hy : test y <;> simp [modifyFirst, hy, ih]

/-- A member of the changed list is a member of the old one, or the changed one of a member that answers. -/
theorem mem_modifyFirst {α : Type} {test : α → Bool} {f : α → α} {l : List α} {x : α}
    (h : x ∈ modifyFirst test f l) : x ∈ l ∨ ∃ y ∈ l, test y = true ∧ x = f y := by
  induction l with
  | nil => cases h
  | cons y l ih =>
    by_cases hy : test y
    · simp only [modifyFirst, hy, if_true, List.mem_cons] at h
      rcases h with h | h
      · exact .inr ⟨y, by simp, hy, h⟩
      · exact .inl (by simp [h])
    · simp only [modifyFirst, hy, List.mem_cons, Bool.false_eq_true, if_false] at h
      rcases h with h | h
      · exact .inl (by simp [h])
      · rcases ih h with h | ⟨w, hw, ht, e⟩
        · exact .inl (by simp [h])
        · exact .inr ⟨w, by simp [hw], ht, e⟩

theorem removeFirst_sublist {α : Type} (test : α → Bool) (l : List α) : (removeFirst test l).Sublist l := by
  induction l with
  | nil => exact .slnil
  | cons y l ih =>
    by_cases hy : test y
    · simp [removeFirst, hy]
    · simpa [removeFirst, hy] using ih

theorem length_removeFirst_le {α : Type} (test : α → Bool) (l : List α) :
    (removeFirst test l).length ≤ l.length := (removeFirst_sublist test l).length_le

/-! ### The Program Store's calls -/

/-- R31: a take that is answered found the slot OPEN or FROZEN and counted one reference more. -/
theorem takeSlot_ok {k : Fin 16} {s t : State} (h : takeSlot k s = .ok t) :
    (s.programs[k].state = .opened ∨ s.programs[k].state = .frozen)
      ∧ t = s.modifySlot k fun p => { p with refs := p.refs + 1 } := by
  unfold takeSlot at h
  split at h
  · exact ⟨.inl ‹_›, (Except.ok.inj h).symm⟩
  · exact ⟨.inr ‹_›, (Except.ok.inj h).symm⟩
  · cases h
  · cases h

/-- R31: a take that fails found the slot EMPTY or WITHDRAWN, and says which. -/
theorem takeSlot_error {k : Fin 16} {s : State} {e : Result} (h : takeSlot k s = .error e) :
    (s.programs[k].state = .empty ∧ e = .slotEmpty)
      ∨ (s.programs[k].state = .withdrawn ∧ e = .slotNotAssignable) := by
  unfold takeSlot at h
  split at h
  · cases h
  · cases h
  · exact .inl ⟨‹_›, (Except.error.inj h).symm⟩
  · exact .inr ⟨‹_›, (Except.error.inj h).symm⟩

/-- R31: a change of program that is answered makes neither call, or takes the new one and releases the old one. -/
theorem moveProgram_ok {old new : Option (Fin 16)} {s t : State} (h : moveProgram old new s = .ok t) :
    (old = new ∧ t = s) ∨ (old ≠ new ∧ ∃ u, takeProgram new s = .ok u ∧ t = releaseProgram old u) := by
  unfold moveProgram at h
  split at h
  · exact .inl ⟨‹_›, (Except.ok.inj h).symm⟩
  · split at h
    · cases h
    · exact .inr ⟨‹_›, _, ‹_›, (Except.ok.inj h).symm⟩

/-! ### Records -/

theorem findRecord_some {live : List Record} {i : Fin 64} {g : BitVec 8} {r : Record}
    (h : findRecord live i g = some r) : r ∈ live ∧ r.index = i ∧ r.generation = g := by
  refine ⟨List.mem_of_find?_eq_some h, ?_⟩
  have := List.find?_some h
  simpa [Record.named] using this

/-- R55: the index found free is that of no live record. -/
theorem freeIndex_some {live : List Record} {i : Fin 64} (h : freeIndex live = some i) :
    ∀ r ∈ live, r.index ≠ i := by
  simp only [freeIndex, List.find?_eq_some_iff_append, List.all_eq_true] at h
  exact fun r hr => by simpa using h.1 r hr

/-- R57: a record put in line stands behind a part of the line and ahead of the rest. -/
theorem insertInLine_split (scale : Nat) (new : Record) (live : List Record) :
    ∃ ahead behind, live = ahead ++ behind ∧ insertInLine scale new live = ahead ++ new :: behind := by
  unfold insertInLine
  generalize (fun r : Record => decide (0 < separation scale r.entryMark new.entryMark)) = test
  refine ⟨live.takeWhile test, live.drop (live.takeWhile test).length, ?_, rfl⟩
  conv_lhs => rw [← List.take_append_drop (live.takeWhile test).length live]
  rw [← List.prefix_iff_eq_take.mp (List.takeWhile_prefix test)]

/-! ### Pending snapshots -/

/-- R104: a closure leaves the list as it is, or changes one snapshot with that number by marking a side closed, or
takes that snapshot out when no side of it is open any more. -/
theorem closeInList_cases (seq : BitVec 8) (c : Fin 32) (l : List Snapshot) :
    closeInList seq c l = l ∨ ∃ a n b, l = a ++ n :: b ∧ n.seq = seq ∧ (n.openSideOn c).isSome = true
      ∧ ((((n.closeSide c).sides.all Side.closed) = true ∧ closeInList seq c l = a ++ b)
        ∨ (((n.closeSide c).sides.all Side.closed) = false ∧ closeInList seq c l = a ++ n.closeSide c :: b)) := by
  induction l with
  | nil => exact .inl rfl
  | cons n l ih =>
    by_cases h : (n.seq == seq && (n.openSideOn c).isSome) = true
    · refine .inr ⟨[], n, l, rfl, ?_⟩
      simp only [Bool.and_eq_true, beq_iff_eq] at h
      refine ⟨h.1, h.2, ?_⟩
      cases hc : (n.closeSide c).sides.all Side.closed
      · exact .inr ⟨rfl, by simp [closeInList, h.1, h.2, hc]⟩
      · exact .inl ⟨rfl, by simp [closeInList, h.1, h.2, hc]⟩
    · have hl : closeInList seq c (n :: l) = n :: closeInList seq c l := by
        simp only [closeInList, h, Bool.false_eq_true, if_false]
      rcases ih with ih | ⟨a, m, b, e, hs, ho, hh⟩
      · exact .inl (by rw [hl, ih])
      · refine .inr ⟨n :: a, m, b, by simp [e], hs, ho, ?_⟩
        rw [hl]
        rcases hh with ⟨hc, e'⟩ | ⟨hc, e'⟩
        · exact .inl ⟨hc, by simp [e']⟩
        · exact .inr ⟨hc, by simp [e']⟩

/-! ### Attention -/

/-- R178: a raised flag is set, and every other flag stays as it was. -/
@[simp] theorem raiseFlag_flags (a : Attention) (e : Event) : (a.raiseFlag e).flags = a.flags ||| e.mask := by
  unfold Attention.raiseFlag
  split
  · rename_i h
    refine BitVec.eq_of_getLsbD_eq fun i hi => ?_
    simp only [Attention.isSet] at h
    simp only [BitVec.getLsbD_or, Event.mask, BitVec.getLsbD_shiftLeft, BitVec.getLsbD_one]
    by_cases he : i = e.bit
    · simp [he, h]
    · have : i < e.bit ∨ i - e.bit ≠ 0 := by omega
      rcases this with h' | h' <;> simp [h']
  · simp only [Attention.requestPulse, Attention.syncReminder]
    repeat' split
    all_goals rfl

@[simp] theorem raiseFlag_isSet (a : Attention) (e : Event) : (a.raiseFlag e).isSet e = true := by
  have : e.bit < 18 := by cases e <;> decide
  simp [Attention.isSet, Event.mask, this]

/-! ### Sides -/

@[simp] theorem newSide_face (s : State) (z : Fin 16) (m : Mode) (f : Face) (c : Fin 32) :
    (s.newSide z m f c).face = f := rfl

@[simp] theorem newSide_channel (s : State) (z : Fin 16) (m : Mode) (f : Face) (c : Fin 32) :
    (s.newSide z m f c).channel = c := rfl

@[simp] theorem newSide_entries (s : State) (z : Fin 16) (m : Mode) (f : Face) (c : Fin 32) :
    (s.newSide z m f c).entries = s.entriesOf z f := rfl

@[simp] theorem newSide_aZ (s : State) (z : Fin 16) (m : Mode) (f : Face) (c : Fin 32) :
    (s.newSide z m f c).aZ = totalArea (s.entriesOf z f) := rfl

@[simp] theorem newSide_late (s : State) (z : Fin 16) (m : Mode) (f : Face) (c : Fin 32) :
    (s.newSide z m f c).late = false := rfl

@[simp] theorem newSide_closed (s : State) (z : Fin 16) (m : Mode) (f : Face) (c : Fin 32) :
    (s.newSide z m f c).closed = false := rfl

@[simp] theorem recomputedSide_face (s : State) (z : Fin 16) (m : Mode) (d : Side) :
    (s.recomputedSide z m d).face = d.face := rfl

@[simp] theorem recomputedSide_channel (s : State) (z : Fin 16) (m : Mode) (d : Side) :
    (s.recomputedSide z m d).channel = d.channel := rfl

@[simp] theorem recomputedSide_entries (s : State) (z : Fin 16) (m : Mode) (d : Side) :
    (s.recomputedSide z m d).entries = d.entries := rfl

@[simp] theorem recomputedSide_aZ (s : State) (z : Fin 16) (m : Mode) (d : Side) :
    (s.recomputedSide z m d).aZ = d.aZ := rfl

@[simp] theorem recomputedSide_late (s : State) (z : Fin 16) (m : Mode) (d : Side) :
    (s.recomputedSide z m d).late = d.late := rfl

@[simp] theorem recomputedSide_closed (s : State) (z : Fin 16) (m : Mode) (d : Side) :
    (s.recomputedSide z m d).closed = d.closed := rfl

/-- R33: a side keeps the demands of its computation. -/
@[simp] theorem newSide_demands (s : State) (z : Fin 16) (m : Mode) (f : Face) (c : Fin 32) :
    (s.newSide z m f c).demands = (s.setpoint m z f c (s.entriesOf z f)).demands := rfl

@[simp] theorem recomputedSide_demands (s : State) (z : Fin 16) (m : Mode) (d : Side) :
    (s.recomputedSide z m d).demands = (s.setpoint m z d.face d.channel d.entries).demands := rfl

end Sys2Proof.Machine
end

