-- ==== Sys2Proof/Laws/Owners.lean ====
section
/-! SUPPORT. What each owner's request, each event of the receiver and each plant event leaves alone. -/

namespace Sys2Proof.Machine

/-- A refused take changes nothing that a fold or a request would go on with: only an answered one gives a state. -/
theorem takeProgram_keeps {k : Option (Fin 16)} {s t : State} (h : takeProgram k s = .ok t) :
    t.map = s.map ∧ t.pos = s.pos ∧ t.table = s.table ∧ t.zones = s.zones ∧ t.drive = s.drive ∧
    t.monitor = s.monitor ∧ t.sup = s.sup ∧ t.link = s.link ∧ t.attn = s.attn ∧ t.inReset = s.inReset ∧
    t.pending = s.pending := by
  unfold takeProgram takeSlot at h
  split at h
  · cases h; simp
  · split at h <;> first | (cases h; simp) | (cases h)

theorem moveProgram_keeps {a b : Option (Fin 16)} {s t : State} (h : moveProgram a b s = .ok t) :
    t.map = s.map ∧ t.pos = s.pos ∧ t.table = s.table ∧ t.zones = s.zones ∧ t.drive = s.drive ∧
    t.monitor = s.monitor ∧ t.sup = s.sup ∧ t.link = s.link ∧ t.attn = s.attn ∧ t.inReset = s.inReset ∧
    t.pending = s.pending := by
  unfold moveProgram at h
  split at h
  · cases h; simp
  · split at h
    · cases h
    · rename_i u hu
      cases h
      have := takeProgram_keeps hu
      simp_all

@[simp] theorem makeUnannounced_keeps (i : Fin 64) (g : BitVec 8) (s : State) :
    (makeUnannounced i g s).map = s.map ∧ (makeUnannounced i g s).pos = s.pos ∧
    (makeUnannounced i g s).zones = s.zones ∧ (makeUnannounced i g s).drive = s.drive ∧
    (makeUnannounced i g s).monitor = s.monitor ∧ (makeUnannounced i g s).sup = s.sup ∧
    (makeUnannounced i g s).link = s.link ∧ (makeUnannounced i g s).inReset = s.inReset ∧
    (makeUnannounced i g s).pending = s.pending := by
  unfold makeUnannounced
  dsimp only
  split
  · rename_i t h
    have := takeProgram_keeps h
    simp_all
  · simp

@[simp] theorem admitCarrier_keeps (s : State) :
    (admitCarrier s).map = s.map ∧ (admitCarrier s).pos = s.pos ∧ (admitCarrier s).zones = s.zones ∧
    (admitCarrier s).drive = s.drive ∧ (admitCarrier s).monitor = s.monitor ∧ (admitCarrier s).sup = s.sup ∧
    (admitCarrier s).link = s.link ∧ (admitCarrier s).inReset = s.inReset ∧ (admitCarrier s).pending = s.pending := by
  unfold admitCarrier
  dsimp only
  split
  · simp
  · split <;> simp

@[simp] theorem entryArrival_keeps (s : State) :
    (entryArrival s).map = s.map ∧ (entryArrival s).pos = s.pos ∧ (entryArrival s).zones = s.zones ∧
    (entryArrival s).drive = s.drive ∧ (entryArrival s).monitor = s.monitor ∧ (entryArrival s).sup = s.sup ∧
    (entryArrival s).link = s.link ∧ (entryArrival s).inReset = s.inReset ∧ (entryArrival s).pending = s.pending := by
  unfold entryArrival
  repeat' split
  all_goals simp

@[simp] theorem arrival_keeps (x : Sensor) (s : State) :
    (arrival x s).map = s.map ∧ (arrival x s).pos = s.pos ∧ (arrival x s).zones = s.zones ∧
    (arrival x s).drive = s.drive ∧ (arrival x s).monitor = s.monitor ∧ (arrival x s).sup = s.sup ∧
    (arrival x s).link = s.link ∧ (arrival x s).inReset = s.inReset ∧ (arrival x s).pending = s.pending := by
  cases x <;> simp [arrival]

@[simp] theorem takeEdge_keeps (x : Sensor) (s : State) :
    (takeEdge x s).map = s.map ∧ (takeEdge x s).zones = s.zones ∧ (takeEdge x s).drive = s.drive ∧
    (takeEdge x s).monitor = s.monitor ∧ (takeEdge x s).sup = s.sup ∧ (takeEdge x s).link = s.link ∧
    (takeEdge x s).inReset = s.inReset ∧ (takeEdge x s).pending = s.pending := by
  simp only [takeEdge]
  split <;> simp

@[simp] theorem resumeMotion_keeps (s : State) :
    (resumeMotion s).map = s.map ∧ (resumeMotion s).programs = s.programs ∧
    (resumeMotion s).monitor = s.monitor ∧ (resumeMotion s).sup = s.sup ∧ (resumeMotion s).link = s.link ∧
    (resumeMotion s).inReset = s.inReset ∧ (resumeMotion s).pending = s.pending := by
  simp [resumeMotion]

@[simp] theorem pulseMotion_keeps (s : State) :
    (pulseMotion s).map = s.map ∧ (pulseMotion s).programs = s.programs ∧ (pulseMotion s).monitor = s.monitor ∧
    (pulseMotion s).sup = s.sup ∧ (pulseMotion s).link = s.link ∧ (pulseMotion s).inReset = s.inReset ∧
    (pulseMotion s).pending = s.pending := by
  unfold pulseMotion
  repeat' split
  all_goals simp

@[simp] theorem encoderStep_keeps (x : QuadSense) (s : State) :
    (encoderStep x s).map = s.map ∧ (encoderStep x s).programs = s.programs ∧
    (encoderStep x s).monitor = s.monitor ∧ (encoderStep x s).sup = s.sup ∧ (encoderStep x s).link = s.link ∧
    (encoderStep x s).inReset = s.inReset ∧ (encoderStep x s).pending = s.pending := by
  simp [encoderStep]

@[simp] theorem stopTimerExpires_keeps (s : State) :
    (stopTimerExpires s).map = s.map ∧ (stopTimerExpires s).programs = s.programs ∧
    (stopTimerExpires s).monitor = s.monitor ∧ (stopTimerExpires s).sup = s.sup ∧
    (stopTimerExpires s).link = s.link ∧ (stopTimerExpires s).inReset = s.inReset ∧
    (stopTimerExpires s).pending = s.pending := by
  unfold stopTimerExpires
  split <;> simp

@[simp] theorem parkTimerExpires_keeps (s : State) :
    (parkTimerExpires s).map = s.map ∧ (parkTimerExpires s).programs = s.programs ∧
    (parkTimerExpires s).monitor = s.monitor ∧ (parkTimerExpires s).sup = s.sup ∧
    (parkTimerExpires s).link = s.link ∧ (parkTimerExpires s).inReset = s.inReset ∧
    (parkTimerExpires s).pending = s.pending := by
  unfold parkTimerExpires
  split <;> simp

@[simp] theorem periodTimerExpires_keeps (z : Fin 16) (s : State) :
    (periodTimerExpires z s).map = s.map ∧ (periodTimerExpires z s).programs = s.programs ∧
    (periodTimerExpires z s).pos = s.pos ∧ (periodTimerExpires z s).monitor = s.monitor ∧
    (periodTimerExpires z s).sup = s.sup ∧ (periodTimerExpires z s).link = s.link ∧
    (periodTimerExpires z s).inReset = s.inReset ∧ (periodTimerExpires z s).pending = s.pending := by
  unfold periodTimerExpires
  split <;> simp

@[simp] theorem restartTimerExpires_keeps (z : Fin 16) (s : State) :
    (restartTimerExpires z s).map = s.map ∧ (restartTimerExpires z s).programs = s.programs ∧
    (restartTimerExpires z s).pos = s.pos ∧ (restartTimerExpires z s).monitor = s.monitor ∧
    (restartTimerExpires z s).sup = s.sup ∧ (restartTimerExpires z s).link = s.link ∧
    (restartTimerExpires z s).inReset = s.inReset ∧ (restartTimerExpires z s).pending = s.pending := by
  unfold restartTimerExpires
  repeat' split
  all_goals simp

@[simp] theorem countCrc_keeps (s : State) :
    (countCrc s).map = s.map ∧ (countCrc s).programs = s.programs ∧ (countCrc s).pos = s.pos ∧
    (countCrc s).table = s.table ∧ (countCrc s).zones = s.zones ∧ (countCrc s).drive = s.drive ∧
    (countCrc s).monitor = s.monitor ∧ (countCrc s).sup = s.sup ∧ (countCrc s).inReset = s.inReset ∧
    (countCrc s).pending = s.pending := by
  simp [countCrc]

@[simp] theorem countFraming_keeps (s : State) :
    (countFraming s).map = s.map ∧ (countFraming s).programs = s.programs ∧ (countFraming s).pos = s.pos ∧
    (countFraming s).table = s.table ∧ (countFraming s).zones = s.zones ∧ (countFraming s).drive = s.drive ∧
    (countFraming s).monitor = s.monitor ∧ (countFraming s).sup = s.sup ∧
    (countFraming s).inReset = s.inReset ∧ (countFraming s).pending = s.pending := by
  simp [countFraming]

@[simp] theorem countMisuse_keeps (s : State) :
    (countMisuse s).map = s.map ∧ (countMisuse s).programs = s.programs ∧ (countMisuse s).pos = s.pos ∧
    (countMisuse s).table = s.table ∧ (countMisuse s).zones = s.zones ∧ (countMisuse s).drive = s.drive ∧
    (countMisuse s).monitor = s.monitor ∧ (countMisuse s).sup = s.sup ∧ (countMisuse s).inReset = s.inReset ∧
    (countMisuse s).pending = s.pending := by
  simp [countMisuse]

@[simp] theorem countOverrun_keeps (s : State) :
    (countOverrun s).map = s.map ∧ (countOverrun s).programs = s.programs ∧ (countOverrun s).pos = s.pos ∧
    (countOverrun s).table = s.table ∧ (countOverrun s).zones = s.zones ∧ (countOverrun s).drive = s.drive ∧
    (countOverrun s).monitor = s.monitor ∧ (countOverrun s).sup = s.sup ∧
    (countOverrun s).inReset = s.inReset ∧ (countOverrun s).pending = s.pending := by
  simp [countOverrun]

@[simp] theorem overrunNow_keeps (s : State) :
    (overrunNow s).map = s.map ∧ (overrunNow s).programs = s.programs ∧ (overrunNow s).pos = s.pos ∧
    (overrunNow s).table = s.table ∧ (overrunNow s).zones = s.zones ∧ (overrunNow s).drive = s.drive ∧
    (overrunNow s).monitor = s.monitor ∧ (overrunNow s).sup = s.sup ∧ (overrunNow s).inReset = s.inReset ∧
    (overrunNow s).pending = s.pending := by
  simp only [overrunNow]
  repeat' split
  all_goals simp

@[simp] theorem gapExpires_keeps (s : State) :
    (gapExpires s).map = s.map ∧ (gapExpires s).programs = s.programs ∧ (gapExpires s).pos = s.pos ∧
    (gapExpires s).table = s.table ∧ (gapExpires s).zones = s.zones ∧ (gapExpires s).drive = s.drive ∧
    (gapExpires s).monitor = s.monitor ∧ (gapExpires s).sup = s.sup ∧ (gapExpires s).inReset = s.inReset ∧
    (gapExpires s).pending = s.pending := by
  simp only [gapExpires, abandonFrame]
  repeat' split
  all_goals simp

@[simp] theorem breakReached_keeps (s : State) :
    (breakReached s).map = s.map ∧ (breakReached s).programs = s.programs ∧ (breakReached s).pos = s.pos ∧
    (breakReached s).table = s.table ∧ (breakReached s).zones = s.zones ∧ (breakReached s).drive = s.drive ∧
    (breakReached s).monitor = s.monitor ∧ (breakReached s).sup = s.sup ∧
    (breakReached s).inReset = s.inReset ∧ (breakReached s).pending = s.pending := by
  simp only [breakReached, countBreak, abandonFrame]
  repeat' split
  all_goals simp

@[simp] theorem turnaroundEnds_keeps (s : State) :
    (turnaroundEnds s).map = s.map ∧ (turnaroundEnds s).programs = s.programs ∧
    (turnaroundEnds s).pos = s.pos ∧ (turnaroundEnds s).table = s.table ∧ (turnaroundEnds s).zones = s.zones ∧
    (turnaroundEnds s).drive = s.drive ∧ (turnaroundEnds s).monitor = s.monitor ∧
    (turnaroundEnds s).sup = s.sup ∧ (turnaroundEnds s).inReset = s.inReset ∧
    (turnaroundEnds s).pending = s.pending := by
  simp only [turnaroundEnds]
  repeat' split
  all_goals simp

@[simp] theorem replyHasGone_keeps (s : State) :
    (replyHasGone s).map = s.map ∧ (replyHasGone s).programs = s.programs ∧ (replyHasGone s).pos = s.pos ∧
    (replyHasGone s).table = s.table ∧ (replyHasGone s).zones = s.zones ∧ (replyHasGone s).drive = s.drive ∧
    (replyHasGone s).monitor = s.monitor ∧ (replyHasGone s).sup = s.sup ∧
    (replyHasGone s).inReset = s.inReset ∧ (replyHasGone s).pending = s.pending := by
  simp only [replyHasGone]
  repeat' split
  all_goals simp

@[simp] theorem abandonFrame_keeps (s : State) :
    (abandonFrame s).map = s.map ∧ (abandonFrame s).programs = s.programs ∧ (abandonFrame s).pos = s.pos ∧
    (abandonFrame s).table = s.table ∧ (abandonFrame s).zones = s.zones ∧ (abandonFrame s).drive = s.drive ∧
    (abandonFrame s).monitor = s.monitor ∧ (abandonFrame s).sup = s.sup ∧
    (abandonFrame s).inReset = s.inReset ∧ (abandonFrame s).pending = s.pending := by
  simp [abandonFrame]

@[simp] theorem abandonOnBreak_keeps (s : State) :
    (abandonOnBreak s).map = s.map ∧ (abandonOnBreak s).programs = s.programs ∧ (abandonOnBreak s).pos = s.pos ∧
    (abandonOnBreak s).table = s.table ∧ (abandonOnBreak s).zones = s.zones ∧ (abandonOnBreak s).drive = s.drive ∧
    (abandonOnBreak s).monitor = s.monitor ∧ (abandonOnBreak s).sup = s.sup ∧
    (abandonOnBreak s).inReset = s.inReset ∧ (abandonOnBreak s).pending = s.pending := by
  simp [abandonOnBreak]

/-- R165: a character in HUNT changes the receiver and what is kept of a break, and nothing else. -/
@[simp] theorem huntCharacter_keeps (l : Character) (s : State) :
    (huntCharacter l s).map = s.map ∧ (huntCharacter l s).programs = s.programs ∧ (huntCharacter l s).pos = s.pos ∧
    (huntCharacter l s).table = s.table ∧ (huntCharacter l s).zones = s.zones ∧ (huntCharacter l s).drive = s.drive ∧
    (huntCharacter l s).monitor = s.monitor ∧ (huntCharacter l s).sup = s.sup ∧ (huntCharacter l s).attn = s.attn ∧
    (huntCharacter l s).inReset = s.inReset ∧ (huntCharacter l s).pending = s.pending := by
  unfold huntCharacter
  split <;> simp

@[simp] theorem abandonFor_keeps (c : AbandonCause) (s : State) :
    (abandonFor c s).map = s.map ∧ (abandonFor c s).programs = s.programs ∧ (abandonFor c s).pos = s.pos ∧
    (abandonFor c s).table = s.table ∧ (abandonFor c s).zones = s.zones ∧ (abandonFor c s).drive = s.drive ∧
    (abandonFor c s).monitor = s.monitor ∧ (abandonFor c s).sup = s.sup ∧
    (abandonFor c s).inReset = s.inReset ∧ (abandonFor c s).pending = s.pending := by
  unfold abandonFor
  repeat' split
  all_goals simp

@[simp] theorem endFrame_keeps (s : State) :
    (endFrame s).map = s.map ∧ (endFrame s).programs = s.programs ∧ (endFrame s).pos = s.pos ∧
    (endFrame s).table = s.table ∧ (endFrame s).zones = s.zones ∧ (endFrame s).drive = s.drive ∧
    (endFrame s).monitor = s.monitor ∧ (endFrame s).sup = s.sup ∧ (endFrame s).attn = s.attn ∧
    (endFrame s).inReset = s.inReset ∧ (endFrame s).pending = s.pending := by
  simp [endFrame]

@[simp] theorem frameSent_keeps (s : State) :
    (frameSent s).map = s.map ∧ (frameSent s).programs = s.programs ∧ (frameSent s).pos = s.pos ∧
    (frameSent s).table = s.table ∧ (frameSent s).zones = s.zones ∧ (frameSent s).monitor = s.monitor ∧
    (frameSent s).sup = s.sup ∧ (frameSent s).link = s.link ∧ (frameSent s).attn = s.attn ∧
    (frameSent s).inReset = s.inReset ∧ (frameSent s).pending = s.pending := by
  unfold frameSent
  repeat' split
  all_goals simp

@[simp] theorem replyBegun_keeps (s : State) :
    (replyBegun s).map = s.map ∧ (replyBegun s).programs = s.programs ∧ (replyBegun s).pos = s.pos ∧
    (replyBegun s).table = s.table ∧ (replyBegun s).zones = s.zones ∧ (replyBegun s).monitor = s.monitor ∧
    (replyBegun s).sup = s.sup ∧ (replyBegun s).link = s.link ∧ (replyBegun s).attn = s.attn ∧
    (replyBegun s).inReset = s.inReset ∧ (replyBegun s).pending = s.pending := by
  unfold replyBegun
  repeat' split
  all_goals simp

@[simp] theorem endByJudgement_keeps (x : DriveItem) (c : Fin 32) (j : ReplyJudgement) (s : State) :
    (endByJudgement x c j s).map = s.map ∧ (endByJudgement x c j s).programs = s.programs ∧
    (endByJudgement x c j s).pos = s.pos ∧ (endByJudgement x c j s).sup = s.sup ∧
    (endByJudgement x c j s).link = s.link ∧ (endByJudgement x c j s).inReset = s.inReset ∧
    (endByJudgement x c j s).pending = s.pending := by
  cases j <;> simp [endByJudgement]

@[simp] theorem replyEnds_keeps (l : List Byte) (p : List Bool) (s : State) :
    (replyEnds l p s).map = s.map ∧ (replyEnds l p s).programs = s.programs ∧ (replyEnds l p s).pos = s.pos ∧
    (replyEnds l p s).sup = s.sup ∧ (replyEnds l p s).link = s.link ∧ (replyEnds l p s).inReset = s.inReset ∧
    (replyEnds l p s).pending = s.pending := by
  unfold replyEnds
  split <;> simp

@[simp] theorem replyBreaksOff_keeps (s : State) :
    (replyBreaksOff s).map = s.map ∧ (replyBreaksOff s).programs = s.programs ∧
    (replyBreaksOff s).pos = s.pos ∧ (replyBreaksOff s).sup = s.sup ∧ (replyBreaksOff s).link = s.link ∧
    (replyBreaksOff s).inReset = s.inReset ∧ (replyBreaksOff s).pending = s.pending := by
  unfold replyBreaksOff
  split <;> simp

@[simp] theorem windowEnds_keeps (s : State) :
    (windowEnds s).map = s.map ∧ (windowEnds s).programs = s.programs ∧ (windowEnds s).pos = s.pos ∧
    (windowEnds s).sup = s.sup ∧ (windowEnds s).link = s.link ∧ (windowEnds s).inReset = s.inReset ∧
    (windowEnds s).pending = s.pending := by
  unfold windowEnds
  repeat' split
  all_goals simp

@[simp] theorem refuse_keeps (r : Result) (s : State) :
    (refuse s r).1.map = s.map ∧ (refuse s r).1.programs = s.programs ∧ (refuse s r).1.pos = s.pos ∧
    (refuse s r).1.table = s.table ∧ (refuse s r).1.zones = s.zones ∧ (refuse s r).1.drive = s.drive ∧
    (refuse s r).1.monitor = s.monitor ∧ (refuse s r).1.sup = s.sup ∧ (refuse s r).1.link = s.link ∧
    (refuse s r).1.attn = s.attn ∧ (refuse s r).1.inReset = s.inReset ∧ (refuse s r).1.pending = s.pending := by
  simp [refuse]

@[simp] theorem applyEdit_keeps (m : LineMap) (s : State) :
    (applyEdit m s).programs = s.programs ∧ (applyEdit m s).pos = s.pos ∧ (applyEdit m s).zones = s.zones ∧
    (applyEdit m s).drive = s.drive ∧ (applyEdit m s).monitor = s.monitor ∧ (applyEdit m s).sup = s.sup ∧
    (applyEdit m s).link = s.link ∧ (applyEdit m s).inReset = s.inReset ∧ (applyEdit m s).pending = s.pending := by
  simp only [applyEdit]
  repeat' split
  all_goals simp

@[simp] theorem takeEdit_keeps (e : Option LineMap) (s : State) :
    (takeEdit e s).1.programs = s.programs ∧ (takeEdit e s).1.pos = s.pos ∧ (takeEdit e s).1.zones = s.zones ∧
    (takeEdit e s).1.drive = s.drive ∧ (takeEdit e s).1.monitor = s.monitor ∧ (takeEdit e s).1.sup = s.sup ∧
    (takeEdit e s).1.link = s.link ∧ (takeEdit e s).1.inReset = s.inReset ∧ (takeEdit e s).1.pending = s.pending := by
  unfold takeEdit
  repeat' split
  all_goals simp [accept]

@[simp] theorem ownSetZone_keeps (f : ZoneFields) (s : State) :
    (ownSetZone f s).1.programs = s.programs ∧ (ownSetZone f s).1.pos = s.pos ∧
    (ownSetZone f s).1.zones = s.zones ∧ (ownSetZone f s).1.drive = s.drive ∧
    (ownSetZone f s).1.monitor = s.monitor ∧ (ownSetZone f s).1.sup = s.sup ∧
    (ownSetZone f s).1.link = s.link ∧ (ownSetZone f s).1.inReset = s.inReset ∧
    (ownSetZone f s).1.pending = s.pending := by
  simp [ownSetZone]

@[simp] theorem ownSetChannel_keeps (c : Byte) (a b : Half) (s : State) :
    (ownSetChannel c a b s).1.programs = s.programs ∧ (ownSetChannel c a b s).1.pos = s.pos ∧
    (ownSetChannel c a b s).1.zones = s.zones ∧ (ownSetChannel c a b s).1.drive = s.drive ∧
    (ownSetChannel c a b s).1.monitor = s.monitor ∧ (ownSetChannel c a b s).1.sup = s.sup ∧
    (ownSetChannel c a b s).1.link = s.link ∧ (ownSetChannel c a b s).1.inReset = s.inReset ∧
    (ownSetChannel c a b s).1.pending = s.pending := by
  simp [ownSetChannel]

@[simp] theorem ownSetLine_keeps (f : LineFields) (s : State) :
    (ownSetLine f s).1.programs = s.programs ∧ (ownSetLine f s).1.pos = s.pos ∧
    (ownSetLine f s).1.zones = s.zones ∧ (ownSetLine f s).1.drive = s.drive ∧
    (ownSetLine f s).1.monitor = s.monitor ∧ (ownSetLine f s).1.sup = s.sup ∧
    (ownSetLine f s).1.link = s.link ∧ (ownSetLine f s).1.inReset = s.inReset ∧
    (ownSetLine f s).1.pending = s.pending := by
  simp [ownSetLine]

@[simp] theorem ownSetProfile_keeps (f : ProfileFields) (s : State) :
    (ownSetProfile f s).1.programs = s.programs ∧ (ownSetProfile f s).1.pos = s.pos ∧
    (ownSetProfile f s).1.table = s.table ∧ (ownSetProfile f s).1.zones = s.zones ∧
    (ownSetProfile f s).1.drive = s.drive ∧ (ownSetProfile f s).1.monitor = s.monitor ∧
    (ownSetProfile f s).1.sup = s.sup ∧ (ownSetProfile f s).1.link = s.link ∧
    (ownSetProfile f s).1.attn = s.attn ∧ (ownSetProfile f s).1.inReset = s.inReset ∧
    (ownSetProfile f s).1.pending = s.pending := by
  unfold ownSetProfile
  repeat' split
  all_goals simp [accept]

@[simp] theorem readItem_keeps (n : Nat) (x : Byte) (p : Fin n → List Byte) (s : State) :
    (readItem n x p s).1.map = s.map ∧ (readItem n x p s).1.programs = s.programs ∧
    (readItem n x p s).1.pos = s.pos ∧ (readItem n x p s).1.table = s.table ∧
    (readItem n x p s).1.zones = s.zones ∧ (readItem n x p s).1.drive = s.drive ∧
    (readItem n x p s).1.monitor = s.monitor ∧ (readItem n x p s).1.sup = s.sup ∧
    (readItem n x p s).1.link = s.link ∧ (readItem n x p s).1.attn = s.attn ∧
    (readItem n x p s).1.inReset = s.inReset ∧ (readItem n x p s).1.pending = s.pending := by
  unfold readItem
  split <;> simp [accept]

@[simp] theorem ownReadMap_keeps (x y : Byte) (s : State) :
    (ownReadMap x y s).1.map = s.map ∧ (ownReadMap x y s).1.programs = s.programs ∧
    (ownReadMap x y s).1.pos = s.pos ∧ (ownReadMap x y s).1.table = s.table ∧
    (ownReadMap x y s).1.zones = s.zones ∧ (ownReadMap x y s).1.drive = s.drive ∧
    (ownReadMap x y s).1.monitor = s.monitor ∧ (ownReadMap x y s).1.sup = s.sup ∧
    (ownReadMap x y s).1.link = s.link ∧ (ownReadMap x y s).1.attn = s.attn ∧
    (ownReadMap x y s).1.inReset = s.inReset ∧ (ownReadMap x y s).1.pending = s.pending := by
  unfold ownReadMap
  repeat' split
  all_goals simp [accept]

@[simp] theorem ownMapAccess_keeps (x : Byte) (s : State) :
    (ownMapAccess x s).1.programs = s.programs ∧ (ownMapAccess x s).1.pos = s.pos ∧
    (ownMapAccess x s).1.table = s.table ∧ (ownMapAccess x s).1.zones = s.zones ∧
    (ownMapAccess x s).1.drive = s.drive ∧ (ownMapAccess x s).1.monitor = s.monitor ∧
    (ownMapAccess x s).1.sup = s.sup ∧ (ownMapAccess x s).1.link = s.link ∧
    (ownMapAccess x s).1.attn = s.attn ∧ (ownMapAccess x s).1.inReset = s.inReset ∧
    (ownMapAccess x s).1.pending = s.pending := by
  unfold ownMapAccess
  repeat' split
  all_goals simp [accept]

@[simp] theorem ownDefineProgram_keeps (k : Byte) (a b c : Half) (s : State) :
    (ownDefineProgram k a b c s).1.map = s.map ∧ (ownDefineProgram k a b c s).1.pos = s.pos ∧
    (ownDefineProgram k a b c s).1.table = s.table ∧ (ownDefineProgram k a b c s).1.zones = s.zones ∧
    (ownDefineProgram k a b c s).1.drive = s.drive ∧ (ownDefineProgram k a b c s).1.monitor = s.monitor ∧
    (ownDefineProgram k a b c s).1.sup = s.sup ∧ (ownDefineProgram k a b c s).1.link = s.link ∧
    (ownDefineProgram k a b c s).1.attn = s.attn ∧ (ownDefineProgram k a b c s).1.inReset = s.inReset ∧
    (ownDefineProgram k a b c s).1.pending = s.pending := by
  unfold ownDefineProgram
  repeat' split
  all_goals simp [accept]

@[simp] theorem ownReadProgram_keeps (k : Byte) (s : State) :
    (ownReadProgram k s).1.map = s.map ∧ (ownReadProgram k s).1.programs = s.programs ∧
    (ownReadProgram k s).1.pos = s.pos ∧ (ownReadProgram k s).1.table = s.table ∧
    (ownReadProgram k s).1.zones = s.zones ∧ (ownReadProgram k s).1.drive = s.drive ∧
    (ownReadProgram k s).1.monitor = s.monitor ∧ (ownReadProgram k s).1.sup = s.sup ∧
    (ownReadProgram k s).1.link = s.link ∧ (ownReadProgram k s).1.attn = s.attn ∧
    (ownReadProgram k s).1.inReset = s.inReset ∧ (ownReadProgram k s).1.pending = s.pending := by
  unfold ownReadProgram onSlot
  repeat' split
  all_goals simp [accept]

@[simp] theorem ownFreeze_keeps (k : Byte) (s : State) :
    (ownFreeze k s).1.map = s.map ∧ (ownFreeze k s).1.pos = s.pos ∧ (ownFreeze k s).1.table = s.table ∧
    (ownFreeze k s).1.zones = s.zones ∧ (ownFreeze k s).1.drive = s.drive ∧
    (ownFreeze k s).1.monitor = s.monitor ∧ (ownFreeze k s).1.sup = s.sup ∧ (ownFreeze k s).1.link = s.link ∧
    (ownFreeze k s).1.attn = s.attn ∧ (ownFreeze k s).1.inReset = s.inReset ∧
    (ownFreeze k s).1.pending = s.pending := by
  unfold ownFreeze onSlot
  split
  · simp
  · dsimp only
    split <;> simp [accept, setSlotState]

@[simp] theorem ownWithdraw_keeps (k : Byte) (s : State) :
    (ownWithdraw k s).1.map = s.map ∧ (ownWithdraw k s).1.pos = s.pos ∧ (ownWithdraw k s).1.table = s.table ∧
    (ownWithdraw k s).1.zones = s.zones ∧ (ownWithdraw k s).1.drive = s.drive ∧
    (ownWithdraw k s).1.monitor = s.monitor ∧ (ownWithdraw k s).1.sup = s.sup ∧
    (ownWithdraw k s).1.link = s.link ∧ (ownWithdraw k s).1.attn = s.attn ∧
    (ownWithdraw k s).1.inReset = s.inReset ∧ (ownWithdraw k s).1.pending = s.pending := by
  unfold ownWithdraw onSlot
  split
  · simp
  · dsimp only
    split <;> simp [accept, setSlotState]

@[simp] theorem ownReinstate_keeps (k : Byte) (s : State) :
    (ownReinstate k s).1.map = s.map ∧ (ownReinstate k s).1.pos = s.pos ∧
    (ownReinstate k s).1.table = s.table ∧ (ownReinstate k s).1.zones = s.zones ∧
    (ownReinstate k s).1.drive = s.drive ∧ (ownReinstate k s).1.monitor = s.monitor ∧
    (ownReinstate k s).1.sup = s.sup ∧ (ownReinstate k s).1.link = s.link ∧
    (ownReinstate k s).1.attn = s.attn ∧ (ownReinstate k s).1.inReset = s.inReset ∧
    (ownReinstate k s).1.pending = s.pending := by
  unfold ownReinstate onSlot
  split
  · simp
  · dsimp only
    split <;> simp [accept, setSlotState]

@[simp] theorem ownErase_keeps (k : Byte) (s : State) :
    (ownErase k s).1.map = s.map ∧ (ownErase k s).1.pos = s.pos ∧ (ownErase k s).1.table = s.table ∧
    (ownErase k s).1.zones = s.zones ∧ (ownErase k s).1.drive = s.drive ∧
    (ownErase k s).1.monitor = s.monitor ∧ (ownErase k s).1.sup = s.sup ∧ (ownErase k s).1.link = s.link ∧
    (ownErase k s).1.attn = s.attn ∧ (ownErase k s).1.inReset = s.inReset ∧ (ownErase k s).1.pending = s.pending := by
  unfold ownErase onSlot
  split
  · simp
  · dsimp only
    split <;> simp [accept]

@[simp] theorem ownSetSpeed_keeps (v : Half) (s : State) :
    (ownSetSpeed v s).1.map = s.map ∧ (ownSetSpeed v s).1.programs = s.programs ∧
    (ownSetSpeed v s).1.table = s.table ∧ (ownSetSpeed v s).1.zones = s.zones ∧
    (ownSetSpeed v s).1.drive = s.drive ∧ (ownSetSpeed v s).1.monitor = s.monitor ∧
    (ownSetSpeed v s).1.sup = s.sup ∧ (ownSetSpeed v s).1.link = s.link ∧ (ownSetSpeed v s).1.attn = s.attn ∧
    (ownSetSpeed v s).1.inReset = s.inReset ∧ (ownSetSpeed v s).1.pending = s.pending := by
  simp [ownSetSpeed]

@[simp] theorem ownReadPosition_keeps (c : Byte) (s : State) :
    (ownReadPosition c s).1.map = s.map ∧ (ownReadPosition c s).1.programs = s.programs ∧
    (ownReadPosition c s).1.table = s.table ∧ (ownReadPosition c s).1.zones = s.zones ∧
    (ownReadPosition c s).1.drive = s.drive ∧ (ownReadPosition c s).1.monitor = s.monitor ∧
    (ownReadPosition c s).1.sup = s.sup ∧ (ownReadPosition c s).1.link = s.link ∧
    (ownReadPosition c s).1.attn = s.attn ∧ (ownReadPosition c s).1.inReset = s.inReset ∧
    (ownReadPosition c s).1.pending = s.pending := by
  unfold ownReadPosition
  split <;> simp [accept, clearIgnored]

@[simp] theorem ownAnnounce_keeps (f : AnnounceFields) (s : State) :
    (ownAnnounce f s).1.map = s.map ∧ (ownAnnounce f s).1.pos = s.pos ∧ (ownAnnounce f s).1.zones = s.zones ∧
    (ownAnnounce f s).1.drive = s.drive ∧ (ownAnnounce f s).1.monitor = s.monitor ∧
    (ownAnnounce f s).1.sup = s.sup ∧ (ownAnnounce f s).1.link = s.link ∧ (ownAnnounce f s).1.attn = s.attn ∧
    (ownAnnounce f s).1.inReset = s.inReset ∧ (ownAnnounce f s).1.pending = s.pending := by
  unfold ownAnnounce
  repeat' split
  all_goals simp [accept]
  rename_i h
  have := takeProgram_keeps h
  simp_all

@[simp] theorem ownCancel_keeps (t : Half) (s : State) :
    (ownCancel t s).1.map = s.map ∧ (ownCancel t s).1.pos = s.pos ∧ (ownCancel t s).1.zones = s.zones ∧
    (ownCancel t s).1.drive = s.drive ∧ (ownCancel t s).1.monitor = s.monitor ∧ (ownCancel t s).1.sup = s.sup ∧
    (ownCancel t s).1.link = s.link ∧ (ownCancel t s).1.attn = s.attn ∧ (ownCancel t s).1.inReset = s.inReset ∧
    (ownCancel t s).1.pending = s.pending := by
  unfold ownCancel
  repeat' split
  all_goals simp [accept]

@[simp] theorem ownReadQueue_keeps (s : State) :
    (ownReadQueue s).1.map = s.map ∧ (ownReadQueue s).1.programs = s.programs ∧
    (ownReadQueue s).1.pos = s.pos ∧ (ownReadQueue s).1.table = s.table ∧ (ownReadQueue s).1.zones = s.zones ∧
    (ownReadQueue s).1.drive = s.drive ∧ (ownReadQueue s).1.monitor = s.monitor ∧
    (ownReadQueue s).1.sup = s.sup ∧ (ownReadQueue s).1.link = s.link ∧ (ownReadQueue s).1.attn = s.attn ∧
    (ownReadQueue s).1.inReset = s.inReset ∧ (ownReadQueue s).1.pending = s.pending := by
  simp [ownReadQueue, accept]

@[simp] theorem answerRecord_keeps (r : Option Record) (s : State) :
    (answerRecord r s).1.map = s.map ∧ (answerRecord r s).1.programs = s.programs ∧
    (answerRecord r s).1.pos = s.pos ∧ (answerRecord r s).1.table = s.table ∧
    (answerRecord r s).1.zones = s.zones ∧ (answerRecord r s).1.drive = s.drive ∧
    (answerRecord r s).1.monitor = s.monitor ∧ (answerRecord r s).1.sup = s.sup ∧
    (answerRecord r s).1.link = s.link ∧ (answerRecord r s).1.attn = s.attn ∧
    (answerRecord r s).1.inReset = s.inReset ∧ (answerRecord r s).1.pending = s.pending := by
  cases r <;> simp [answerRecord, accept]

@[simp] theorem ownLookup_keeps (x : Byte) (k : Long) (s : State) :
    (ownLookup x k s).1.map = s.map ∧ (ownLookup x k s).1.programs = s.programs ∧
    (ownLookup x k s).1.pos = s.pos ∧ (ownLookup x k s).1.table = s.table ∧
    (ownLookup x k s).1.zones = s.zones ∧ (ownLookup x k s).1.drive = s.drive ∧
    (ownLookup x k s).1.monitor = s.monitor ∧ (ownLookup x k s).1.sup = s.sup ∧
    (ownLookup x k s).1.link = s.link ∧ (ownLookup x k s).1.attn = s.attn ∧
    (ownLookup x k s).1.inReset = s.inReset ∧ (ownLookup x k s).1.pending = s.pending := by
  unfold ownLookup lookupTag lookupIndex lookupPosition lookupDisplaced
  repeat' split
  all_goals simp [accept]

@[simp] theorem applyAmend_keeps (r : Record) (a : Amendment) (s : State) :
    (applyAmend r a s).map = s.map ∧ (applyAmend r a s).programs = s.programs ∧
    (applyAmend r a s).pos = s.pos ∧ (applyAmend r a s).zones = s.zones ∧ (applyAmend r a s).drive = s.drive ∧
    (applyAmend r a s).monitor = s.monitor ∧ (applyAmend r a s).sup = s.sup ∧
    (applyAmend r a s).link = s.link ∧ (applyAmend r a s).inReset = s.inReset ∧
    (applyAmend r a s).pending = s.pending := by
  simp only [applyAmend]
  split <;> simp

@[simp] theorem acceptRecord_keeps (i : Fin 64) (g : BitVec 8) (s : State) :
    (acceptRecord i g s).1.map = s.map ∧ (acceptRecord i g s).1.programs = s.programs ∧
    (acceptRecord i g s).1.pos = s.pos ∧ (acceptRecord i g s).1.table = s.table ∧
    (acceptRecord i g s).1.zones = s.zones ∧ (acceptRecord i g s).1.drive = s.drive ∧
    (acceptRecord i g s).1.monitor = s.monitor ∧ (acceptRecord i g s).1.sup = s.sup ∧
    (acceptRecord i g s).1.link = s.link ∧ (acceptRecord i g s).1.attn = s.attn ∧
    (acceptRecord i g s).1.inReset = s.inReset ∧ (acceptRecord i g s).1.pending = s.pending := by
  simp [acceptRecord, accept]

@[simp] theorem ownAmend_keeps (f : AmendFields) (s : State) :
    (ownAmend f s).1.map = s.map ∧ (ownAmend f s).1.pos = s.pos ∧ (ownAmend f s).1.zones = s.zones ∧
    (ownAmend f s).1.drive = s.drive ∧ (ownAmend f s).1.monitor = s.monitor ∧ (ownAmend f s).1.sup = s.sup ∧
    (ownAmend f s).1.link = s.link ∧ (ownAmend f s).1.inReset = s.inReset ∧ (ownAmend f s).1.pending = s.pending := by
  unfold ownAmend
  repeat' split
  all_goals simp
  rename_i h
  have := moveProgram_keeps h
  simp_all

@[simp] theorem applyIdentify_keeps (r : Record) (t : Nat) (k : Option (Fin 16)) (s : State) :
    (applyIdentify r t k s).map = s.map ∧ (applyIdentify r t k s).programs = s.programs ∧
    (applyIdentify r t k s).pos = s.pos ∧ (applyIdentify r t k s).zones = s.zones ∧
    (applyIdentify r t k s).drive = s.drive ∧ (applyIdentify r t k s).monitor = s.monitor ∧
    (applyIdentify r t k s).sup = s.sup ∧ (applyIdentify r t k s).link = s.link ∧
    (applyIdentify r t k s).attn = s.attn ∧ (applyIdentify r t k s).inReset = s.inReset ∧
    (applyIdentify r t k s).pending = s.pending := by
  simp [applyIdentify]

@[simp] theorem ownIdentify_keeps (i g : Byte) (t : Half) (k : Option Byte) (s : State) :
    (ownIdentify i g t k s).1.map = s.map ∧ (ownIdentify i g t k s).1.pos = s.pos ∧
    (ownIdentify i g t k s).1.zones = s.zones ∧ (ownIdentify i g t k s).1.drive = s.drive ∧
    (ownIdentify i g t k s).1.monitor = s.monitor ∧ (ownIdentify i g t k s).1.sup = s.sup ∧
    (ownIdentify i g t k s).1.link = s.link ∧ (ownIdentify i g t k s).1.attn = s.attn ∧
    (ownIdentify i g t k s).1.inReset = s.inReset ∧ (ownIdentify i g t k s).1.pending = s.pending := by
  unfold ownIdentify
  dsimp only
  repeat' split
  all_goals simp
  all_goals
    rename_i h
    have := moveProgram_keeps h
    simp_all

@[simp] theorem applyPlace_keeps (r : Record) (s : State) :
    (applyPlace r s).map = s.map ∧ (applyPlace r s).programs = s.programs ∧ (applyPlace r s).pos = s.pos ∧
    (applyPlace r s).zones = s.zones ∧ (applyPlace r s).drive = s.drive ∧
    (applyPlace r s).monitor = s.monitor ∧ (applyPlace r s).sup = s.sup ∧ (applyPlace r s).link = s.link ∧
    (applyPlace r s).inReset = s.inReset ∧ (applyPlace r s).pending = s.pending := by
  simp [applyPlace]

@[simp] theorem ownPlace_keeps (f : PlaceFields) (s : State) :
    (ownPlace f s).1.map = s.map ∧ (ownPlace f s).1.pos = s.pos ∧ (ownPlace f s).1.zones = s.zones ∧
    (ownPlace f s).1.drive = s.drive ∧ (ownPlace f s).1.monitor = s.monitor ∧ (ownPlace f s).1.sup = s.sup ∧
    (ownPlace f s).1.link = s.link ∧ (ownPlace f s).1.inReset = s.inReset ∧ (ownPlace f s).1.pending = s.pending := by
  unfold ownPlace
  dsimp only
  repeat' split
  all_goals simp [accept]
  rename_i h
  have := takeProgram_keeps h
  simp_all

@[simp] theorem ownRetire_keeps (x : Byte) (k : Half) (s : State) :
    (ownRetire x k s).1.map = s.map ∧ (ownRetire x k s).1.pos = s.pos ∧ (ownRetire x k s).1.zones = s.zones ∧
    (ownRetire x k s).1.drive = s.drive ∧ (ownRetire x k s).1.monitor = s.monitor ∧
    (ownRetire x k s).1.sup = s.sup ∧ (ownRetire x k s).1.link = s.link ∧ (ownRetire x k s).1.attn = s.attn ∧
    (ownRetire x k s).1.inReset = s.inReset ∧ (ownRetire x k s).1.pending = s.pending := by
  unfold ownRetire
  repeat' split
  all_goals simp [accept]

@[simp] theorem answerWalk_keeps (r : Option Record) (s : State) :
    (answerWalk r s).1.map = s.map ∧ (answerWalk r s).1.programs = s.programs ∧
    (answerWalk r s).1.pos = s.pos ∧ (answerWalk r s).1.zones = s.zones ∧ (answerWalk r s).1.drive = s.drive ∧
    (answerWalk r s).1.monitor = s.monitor ∧ (answerWalk r s).1.sup = s.sup ∧
    (answerWalk r s).1.link = s.link ∧ (answerWalk r s).1.attn = s.attn ∧
    (answerWalk r s).1.inReset = s.inReset ∧ (answerWalk r s).1.pending = s.pending := by
  cases r <;> simp [answerWalk, accept]

@[simp] theorem ownWalkFirst_keeps (s : State) :
    (ownWalkFirst s).1.map = s.map ∧ (ownWalkFirst s).1.programs = s.programs ∧
    (ownWalkFirst s).1.pos = s.pos ∧ (ownWalkFirst s).1.zones = s.zones ∧ (ownWalkFirst s).1.drive = s.drive ∧
    (ownWalkFirst s).1.monitor = s.monitor ∧ (ownWalkFirst s).1.sup = s.sup ∧
    (ownWalkFirst s).1.link = s.link ∧ (ownWalkFirst s).1.attn = s.attn ∧
    (ownWalkFirst s).1.inReset = s.inReset ∧ (ownWalkFirst s).1.pending = s.pending := by
  simp [ownWalkFirst]

@[simp] theorem ownWalkNext_keeps (s : State) :
    (ownWalkNext s).1.map = s.map ∧ (ownWalkNext s).1.programs = s.programs ∧ (ownWalkNext s).1.pos = s.pos ∧
    (ownWalkNext s).1.zones = s.zones ∧ (ownWalkNext s).1.drive = s.drive ∧
    (ownWalkNext s).1.monitor = s.monitor ∧ (ownWalkNext s).1.sup = s.sup ∧ (ownWalkNext s).1.link = s.link ∧
    (ownWalkNext s).1.attn = s.attn ∧ (ownWalkNext s).1.inReset = s.inReset ∧
    (ownWalkNext s).1.pending = s.pending := by
  simp [ownWalkNext]

@[simp] theorem clearMisses_keeps (l : List (Fin 32)) (s : State) :
    (clearMisses l s).map = s.map ∧ (clearMisses l s).programs = s.programs ∧ (clearMisses l s).pos = s.pos ∧
    (clearMisses l s).table = s.table ∧ (clearMisses l s).zones = s.zones ∧
    (clearMisses l s).monitor = s.monitor ∧ (clearMisses l s).sup = s.sup ∧ (clearMisses l s).link = s.link ∧
    (clearMisses l s).attn = s.attn ∧ (clearMisses l s).inReset = s.inReset ∧
    (clearMisses l s).pending = s.pending := by
  unfold clearMisses
  refine ⟨?_, ?_, ?_, ?_, ?_, ?_, ?_, ?_, ?_, ?_, ?_⟩ <;> exact foldl_keeps _ _ (fun _ _ => by simp) _ _

@[simp] theorem enterState_keeps (z : Fin 16) (x : ZoneState) (s : State) :
    (enterState z x s).map = s.map ∧ (enterState z x s).programs = s.programs ∧
    (enterState z x s).pos = s.pos ∧ (enterState z x s).monitor = s.monitor ∧ (enterState z x s).sup = s.sup ∧
    (enterState z x s).link = s.link ∧ (enterState z x s).inReset = s.inReset ∧
    (enterState z x s).pending = s.pending := by
  cases x <;> simp [enterState]

@[simp] theorem ownEnableZone_keeps (z : Byte) (s : State) :
    (ownEnableZone z s).1.map = s.map ∧ (ownEnableZone z s).1.programs = s.programs ∧
    (ownEnableZone z s).1.pos = s.pos ∧ (ownEnableZone z s).1.monitor = s.monitor ∧
    (ownEnableZone z s).1.sup = s.sup ∧ (ownEnableZone z s).1.link = s.link ∧
    (ownEnableZone z s).1.inReset = s.inReset ∧ (ownEnableZone z s).1.pending = s.pending := by
  unfold ownEnableZone
  repeat' split
  all_goals simp [accept]

@[simp] theorem ownDisableZone_keeps (z : Byte) (s : State) :
    (ownDisableZone z s).1.map = s.map ∧ (ownDisableZone z s).1.programs = s.programs ∧
    (ownDisableZone z s).1.pos = s.pos ∧ (ownDisableZone z s).1.monitor = s.monitor ∧
    (ownDisableZone z s).1.sup = s.sup ∧ (ownDisableZone z s).1.link = s.link ∧
    (ownDisableZone z s).1.inReset = s.inReset ∧ (ownDisableZone z s).1.pending = s.pending := by
  unfold ownDisableZone
  repeat' split
  all_goals simp [accept]

@[simp] theorem ownReadZone_keeps (z : Byte) (s : State) :
    (ownReadZone z s).1.map = s.map ∧ (ownReadZone z s).1.programs = s.programs ∧
    (ownReadZone z s).1.pos = s.pos ∧ (ownReadZone z s).1.table = s.table ∧
    (ownReadZone z s).1.zones = s.zones ∧ (ownReadZone z s).1.drive = s.drive ∧
    (ownReadZone z s).1.monitor = s.monitor ∧ (ownReadZone z s).1.sup = s.sup ∧
    (ownReadZone z s).1.link = s.link ∧ (ownReadZone z s).1.attn = s.attn ∧
    (ownReadZone z s).1.inReset = s.inReset ∧ (ownReadZone z s).1.pending = s.pending := by
  unfold ownReadZone
  repeat' split
  all_goals simp [accept]

@[simp] theorem ownReadChannel_keeps (c o : Byte) (s : State) :
    (ownReadChannel c o s).1.map = s.map ∧ (ownReadChannel c o s).1.programs = s.programs ∧
    (ownReadChannel c o s).1.pos = s.pos ∧ (ownReadChannel c o s).1.table = s.table ∧
    (ownReadChannel c o s).1.zones = s.zones ∧ (ownReadChannel c o s).1.monitor = s.monitor ∧
    (ownReadChannel c o s).1.sup = s.sup ∧ (ownReadChannel c o s).1.link = s.link ∧
    (ownReadChannel c o s).1.attn = s.attn ∧ (ownReadChannel c o s).1.inReset = s.inReset ∧
    (ownReadChannel c o s).1.pending = s.pending := by
  unfold ownReadChannel
  repeat' split
  all_goals simp [accept]

@[simp] theorem ownReadFaults_keeps (s : State) :
    (ownReadFaults s).1.map = s.map ∧ (ownReadFaults s).1.programs = s.programs ∧
    (ownReadFaults s).1.pos = s.pos ∧ (ownReadFaults s).1.table = s.table ∧
    (ownReadFaults s).1.zones = s.zones ∧ (ownReadFaults s).1.drive = s.drive ∧
    (ownReadFaults s).1.monitor = s.monitor ∧ (ownReadFaults s).1.sup = s.sup ∧
    (ownReadFaults s).1.link = s.link ∧ (ownReadFaults s).1.attn = s.attn ∧
    (ownReadFaults s).1.inReset = s.inReset ∧ (ownReadFaults s).1.pending = s.pending := by
  simp [ownReadFaults, accept]

@[simp] theorem ownHalt_keeps (s : State) :
    (ownHalt s).1.map = s.map ∧ (ownHalt s).1.programs = s.programs ∧ (ownHalt s).1.pos = s.pos ∧
    (ownHalt s).1.monitor = s.monitor ∧ (ownHalt s).1.link = s.link ∧ (ownHalt s).1.inReset = s.inReset ∧
    (ownHalt s).1.pending = s.pending := by
  simp [ownHalt, accept]

@[simp] theorem ownResume_keeps (s : State) :
    (ownResume s).1.map = s.map ∧ (ownResume s).1.programs = s.programs ∧ (ownResume s).1.pos = s.pos ∧
    (ownResume s).1.table = s.table ∧ (ownResume s).1.drive = s.drive ∧ (ownResume s).1.monitor = s.monitor ∧
    (ownResume s).1.link = s.link ∧ (ownResume s).1.attn = s.attn ∧ (ownResume s).1.inReset = s.inReset ∧
    (ownResume s).1.pending = s.pending := by
  unfold ownResume
  repeat' split
  all_goals simp [accept]

@[simp] theorem ownResetLine_keeps (s : State) :
    (ownResetLine s).1.sup = s.sup ∧ (ownResetLine s).1.link = s.link ∧
    (ownResetLine s).1.inReset = s.inReset ∧ (ownResetLine s).1.pending = s.pending := by
  simp [ownResetLine, resetLineNow, clearForReset, accept]

@[simp] theorem ownSetAddress_keeps (a g : Byte) (s : State) :
    (ownSetAddress a g s).1.programs = s.programs ∧ (ownSetAddress a g s).1.pos = s.pos ∧
    (ownSetAddress a g s).1.table = s.table ∧ (ownSetAddress a g s).1.zones = s.zones ∧
    (ownSetAddress a g s).1.drive = s.drive ∧ (ownSetAddress a g s).1.monitor = s.monitor ∧
    (ownSetAddress a g s).1.sup = s.sup ∧ (ownSetAddress a g s).1.attn = s.attn ∧
    (ownSetAddress a g s).1.inReset = s.inReset ∧ (ownSetAddress a g s).1.pending = s.pending := by
  unfold ownSetAddress
  repeat' split
  all_goals simp [accept]

@[simp] theorem ownReadLink_keeps (s : State) :
    (ownReadLink s).1.map = s.map ∧ (ownReadLink s).1.programs = s.programs ∧ (ownReadLink s).1.pos = s.pos ∧
    (ownReadLink s).1.table = s.table ∧ (ownReadLink s).1.zones = s.zones ∧ (ownReadLink s).1.drive = s.drive ∧
    (ownReadLink s).1.monitor = s.monitor ∧ (ownReadLink s).1.sup = s.sup ∧ (ownReadLink s).1.attn = s.attn ∧
    (ownReadLink s).1.inReset = s.inReset ∧ (ownReadLink s).1.pending = s.pending := by
  simp [ownReadLink, accept]

@[simp] theorem ownReadEvents_keeps (s : State) :
    (ownReadEvents s).1.map = s.map ∧ (ownReadEvents s).1.programs = s.programs ∧
    (ownReadEvents s).1.pos = s.pos ∧ (ownReadEvents s).1.table = s.table ∧
    (ownReadEvents s).1.zones = s.zones ∧ (ownReadEvents s).1.drive = s.drive ∧
    (ownReadEvents s).1.monitor = s.monitor ∧ (ownReadEvents s).1.sup = s.sup ∧
    (ownReadEvents s).1.link = s.link ∧ (ownReadEvents s).1.attn = s.attn ∧
    (ownReadEvents s).1.inReset = s.inReset ∧ (ownReadEvents s).1.pending = s.pending := by
  simp [ownReadEvents, accept]

@[simp] theorem ownClearEvents_keeps (m : Mask) (s : State) :
    (ownClearEvents m s).1.map = s.map ∧ (ownClearEvents m s).1.programs = s.programs ∧
    (ownClearEvents m s).1.pos = s.pos ∧ (ownClearEvents m s).1.table = s.table ∧
    (ownClearEvents m s).1.zones = s.zones ∧ (ownClearEvents m s).1.drive = s.drive ∧
    (ownClearEvents m s).1.sup = s.sup ∧ (ownClearEvents m s).1.link = s.link ∧
    (ownClearEvents m s).1.inReset = s.inReset ∧ (ownClearEvents m s).1.pending = s.pending := by
  unfold ownClearEvents
  repeat' split
  all_goals simp [accept]

@[simp] theorem ownSetAttention_keeps (m : Mask) (x : Byte) (i : Half) (s : State) :
    (ownSetAttention m x i s).1.map = s.map ∧ (ownSetAttention m x i s).1.programs = s.programs ∧
    (ownSetAttention m x i s).1.pos = s.pos ∧ (ownSetAttention m x i s).1.table = s.table ∧
    (ownSetAttention m x i s).1.zones = s.zones ∧ (ownSetAttention m x i s).1.drive = s.drive ∧
    (ownSetAttention m x i s).1.monitor = s.monitor ∧ (ownSetAttention m x i s).1.sup = s.sup ∧
    (ownSetAttention m x i s).1.link = s.link ∧ (ownSetAttention m x i s).1.inReset = s.inReset ∧
    (ownSetAttention m x i s).1.pending = s.pending := by
  unfold ownSetAttention
  repeat' split
  all_goals simp

@[simp] theorem enterReply_keeps (a c : Byte) (x : Answer) (s : State) :
    (enterReply a c (s, x)).map = s.map ∧ (enterReply a c (s, x)).programs = s.programs ∧
    (enterReply a c (s, x)).pos = s.pos ∧ (enterReply a c (s, x)).table = s.table ∧
    (enterReply a c (s, x)).zones = s.zones ∧ (enterReply a c (s, x)).drive = s.drive ∧
    (enterReply a c (s, x)).monitor = s.monitor ∧ (enterReply a c (s, x)).sup = s.sup ∧
    (enterReply a c (s, x)).attn = s.attn ∧ (enterReply a c (s, x)).inReset = s.inReset ∧
    (enterReply a c (s, x)).pending = s.pending := by
  simp [enterReply]

end Sys2Proof.Machine
end

