-- ==== Sys2Proof/Laws/Requests.lean ====
section
/-! SUPPORT. What running a request is: the request's frame arrives, and its owner's step follows. -/

namespace Sys2Proof.Machine

/-- Every request command is the arrival of its frame. -/
theorem exec_requestCommand (addr : Byte) (r : Request) (s : State) :
    exec (requestCommand addr r) s = s.takes (requestArrives addr r) := by
  cases r <;> rfl

/-- R162, R174: an owner's step leaves the receiver, the speed, the break memory, the reset pin and the queue alone. -/
@[simp] theorem serve_keeps (r : Request) (s : State) :
    (serve r s).1.link.receiver = s.link.receiver ∧ (serve r s).1.link.baud = s.link.baud
      ∧ (serve r s).1.link.lineBreak = s.link.lineBreak ∧ (serve r s).1.inReset = s.inReset
      ∧ (serve r s).1.pending = s.pending := by
  cases r <;> simp [serve, ownReadLink, ownSetAddress, accept, refuse]
  all_goals (repeat' split) <;> simp [State.withLink, State.withMap]

/-- R169 to R171: in HUNT, a request's command is its delivery, its characters heard. -/
theorem exec_hunting {s : State} (awake : s.inReset = false) (hunting : s.link.receiver = .hunt) (addr : Byte)
    (r : Request) : exec (requestCommand addr r) s = .next (deliver addr r s).heard := by
  rw [exec_requestCommand]
  simp [State.takes, awake, requestArrives, arriving, hunting]

/-- R170, R173: a request sent to a station that listens is answered from its owner's step. -/
theorem exec_listening {s : State} {addr : Byte} (h : Listening s addr) (r : Request) :
    exec (requestCommand addr r) s = .next (takeAddressed addr r s).heard := by
  rw [exec_hunting h.awake h.hunting]
  simp [deliver, State.addressing, h.own]

end Sys2Proof.Machine
end

