-- ==== Sys2Proof/Tests/Slice0.lean ====
section
/-! SUPPORT. Tests: ill-formed commands are refused by the well-formedness checks, figures of the manual's worked
examples come out of the model, and every statement with hypotheses has a state that meets them. -/

namespace Sys2Proof.Tests

open Sys2Proof Sys2Proof.Machine

-- One declaration at a time: many kernel evaluations at once need too many threads.
set_option Elab.async false

/-! ### States -/

/-- The state an outcome answers. -/
def after (o : Host.Outcome State Fault Refusal) : State :=
  match o with
  | .next t => t
  | .fault _ => State.reset
  | .refused _ => State.reset

/-- Profile 2 of Example 3. -/
def profile2 : Profile := { isSet := true, tF := 200, tO1 := 0, tR := 10, tO2 := 0, rho := 300, phi := 105 }

/-- A powered zone of Example 10 that ends here and runs on these two channels. -/
def zoneTo (boundary : Nat) (a b : Fin 32) : ZoneEntry :=
  { boundary := boundary, kind := .paired, profile := 2, channelA := some a, channelB := some b, jLo := 50,
    jHi := 400 }

/-- The line of Example 10, with the exit sensor at 29,000 mm. -/
def map10 : LineMap :=
  { zones := bankSet (bankSet (bankSet (bankSet (bankSet
      (Vector.replicate 16 { ZoneEntry.powerOn with boundary := 28000 }) 0 (zoneTo 4000 0 1)) 1 (zoneTo 10000 2 3))
      2 (zoneTo 16000 4 5)) 3 (zoneTo 22000 6 7)) 4 (zoneTo 28000 8 9)
    channels := Vector.replicate 32 { iFmax := 1500, iRmax := 3000 }
    profiles := Vector.replicate 8 profile2
    line := { LineSettings.powerOn with s0 := 1000, lMin := 600, xExit := 29000 }
    access := .opened }

/-- A record of Example 10 with the pulse count at 20,000 and one pulse for each mm. -/
def record10 (index : Fin 64) (lead length area fwd rev : Nat) (slot : Fin 16) : Record :=
  { Record.fresh index 0 (BitVec.ofNat 32 (20000 - lead)) .placed with
    tag := index.val + 1, length := length, areaA := area, areaB := area, slot := some slot, fwdA := fwd,
    revA := rev, fwdB := fwd, revB := rev }

def c1 : Record := record10 0 16300 600 2400 96000000 12000000 0

def c2 : Record := record10 1 15600 800 1800 55600000 6900000 1

/-- The line of Example 10 with its two carriers, moving, every zone still DISABLED. -/
def line10 : State :=
  { State.reset with
    map := map10
    programs := bankSet (bankSet State.reset.programs
      0 { state := .frozen, refs := 1, qT := 5000, jMin := 50, jMax := 400 })
      1 { state := .opened, refs := 1, qT := 4000, jMin := 50, jMax := 400 }
    pos := { State.reset.pos with
      count := 20000, motion := .moving, stopMark := none, parkTimer := none, stopTimer := some 1000
      speed := 1200 }
    table := { State.reset.table with live := [c1, c2] } }

/-- The same with these zones in these states. -/
def State.inStates (s : State) (zs : List (Fin 16 × ZoneState)) : State :=
  zs.foldl (fun t zx => t.modifyZone zx.1 fun q => { q with state := zx.2 }) s

/-- Example 10 with zones 0 to 4 RUNNING. -/
def running10 : State :=
  State.inStates line10 [(0, .running), (1, .running), (2, .running), (3, .running), (4, .running)]

/-- Zone 2 enabled on the line of Example 10. -/
def enabled10 : State := { after (exec (.enableZone 239 2) line10) with link := State.reset.link }

/-- The same after the first period boundary. -/
def started10 : State := after (exec (.periodBoundary 2) enabled10)

/-- The same halted. -/
def halted10 : State := { after (exec (.halt 239) enabled10) with link := State.reset.link }

/-- A receiver state on the part after reset. -/
def withReceiver (r : Receiver) : State := State.reset.withReceiver r

/-- Group number 14 in force. -/
def grouped : State :=
  { State.reset with map := { State.reset.map with line := { State.reset.map.line with group := some 14 } } }

/-- The refusal an owner's check answers with. -/
def refusesWith {α : Type} (x : Except Result α) (e : Result) : Bool :=
  match x with
  | .error r => r == e
  | .ok _ => false

/-- A check that passes. -/
def passes {α : Type} (x : Except Result α) : Bool :=
  match x with
  | .error _ => false
  | .ok _ => true

theorem refusesWith_error {α : Type} {x : Except Result α} {e : Result} (h : refusesWith x e = true) :
    x = .error e := by
  cases x <;> simp_all [refusesWith]

theorem passes_ok {α : Type} {x : Except Result α} (h : passes x = true) : ∃ u, x = .ok u := by
  cases x with
  | error e => simp [passes] at h
  | ok u => exact ⟨u, rfl⟩

theorem listening : Listening State.reset 239 := ⟨rfl, rfl, rfl⟩

theorem listening10 : Listening line10 239 := ⟨rfl, rfl, rfl⟩

theorem tableLaw10 : TableLaw line10 :=
  ⟨by decide +kernel, by decide +kernel, by decide +kernel, by decide +kernel, by decide +kernel⟩

theorem broadcast : ListeningToGroup State.reset 0xFF := ⟨rfl, rfl, by decide, .inl rfl⟩

theorem group14 : ListeningToGroup grouped 0xFE := ⟨rfl, rfl, by decide, .inr ⟨14, rfl, rfl⟩⟩

/-! ### Well-formedness -/

/-- A frame without the start byte, one of length 0, one of length 251, and one that is not as long as it says. -/
theorem test_refused_link_frames :
    (Instr.completeFrame [0xC2, 239, 1, 0x40, 0, 0]).wellFormed = false
    ∧ (Instr.completeFrame [0xC3, 239, 0, 0, 0]).wellFormed = false
    ∧ (Instr.completeFrame ([0xC3, 239, 251] ++ List.replicate 253 0)).wellFormed = false
    ∧ (Instr.completeFrame [0xC3, 239, 2, 0x40, 0, 0]).wellFormed = false := by decide +kernel

/-- A reply with three readbacks, one that is cut short, and one with a parity bit missing. -/
theorem test_refused_drive_frames :
    (Instr.replyFrameEnd ([0x5A, 0x81, 0, 0, 3] ++ List.replicate 29 0) (List.replicate 34 true)).wellFormed = false
    ∧ (Instr.replyFrameEnd [0x5A, 0x81, 0, 0, 0, 0] (List.replicate 6 true)).wellFormed = false
    ∧ (Instr.replyFrameEnd (replyFrame 0 .ok []) (List.replicate 6 true)).wellFormed = false := by decide +kernel

/-! ### Figures of the manual -/

/-- R164: the check of the nine characters 1 to 9. -/
theorem test_crc : crc [0x31, 0x32, 0x33, 0x34, 0x35, 0x36, 0x37, 0x38, 0x39] = 0x29B1 := by decide +kernel

/-- Equation 13: a lead across a wrap of the pulse count. -/
theorem test_lead_wraps : positionDifference 2500 1500 4294967000 = 718 := by decide +kernel

/-- Equation 3: the quotient is truncated toward minus infinity. -/
theorem test_position_floor : positionDifference 2500 0 1501 = -601 := by decide +kernel

/-- Equation 14: 13 pulses resume the line and 12 do not. -/
theorem test_resume_distance :
    resumes { LineSettings.powerOn with scale := 2500 } 13 0 = true
    ∧ resumes { LineSettings.powerOn with scale := 2500 } 12 0 = false := by decide +kernel

/-- Equations 6, 7, 10 and 11: a valid profile, one of no net figure, and one just over the condition. -/
theorem test_profiles :
    profile2.period = 210 ∧ profile2.net = 17000
    ∧ profileOf { profile := 2, tF := 100, tO1 := 10, tR := 50, tO2 := 10, rho := 200, phi := 0 } = none
    ∧ (profileOf { profile := 2, tF := 100, tO1 := 10, tR := 50, tO2 := 10, rho := 180, phi := 0 }).isSome = true := by
  decide +kernel

/-- Example 10: the setpoint of side B of zone 2. -/
theorem test_example10 : running10.setpoint .run 2 .B 5 (running10.entriesOf 2 .B) =
    { order := { iF := 822, iR := 2466, tF := 200, tO1 := 0, tR := 10, tO2 := 0, phi := 105 }, qfOrd := 1644,
      qrOrd := 246, demands := [309, 250], jZ := 274, limited := false } := by decide +kernel

/-- R33, equations 25 and 26: a snapshot keeps the demands it was computed with. -/
theorem test_snapshot_demands :
    (running10.newSnapshot 2).sides.map Side.demands = [[309, 250], [309, 250]] := by decide +kernel

/-- Example 10 with zone 3 FAULTED. -/
theorem test_example10_faulted : (State.inStates running10 [(3, .faulted)]).setpoint .run 2 .A 4
      (running10.entriesOf 2 .A) =
    { order := { iF := 1200, iR := 3000, tF := 200, tO1 := 0, tR := 10, tO2 := 0, phi := 0 }, qfOrd := 2400,
      qrOrd := 300, demands := [400, 400], jZ := 400, limited := true } := by decide +kernel

/-- Example 11: the PROTECT computation over the same entries. -/
theorem test_example11 : running10.setpoint .protect 2 .A 4 (running10.entriesOf 2 .A) =
    { order := { iF := 60, iR := 0, tF := 210, tO1 := 0, tR := 0, tO2 := 0, phi := 0 }, qfOrd := 126,
      qrOrd := 0, demands := [], jZ := 20, limited := false } := by decide +kernel

/-- Example 12: two entries share a readback, and three entries with a tie share another. -/
theorem test_example12 :
    shares 1640 3000 [⟨0, 0, .A, 1200⟩, ⟨1, 0, .A, 1800⟩] = [656, 984]
    ∧ shares 247 3000 [⟨0, 0, .A, 1200⟩, ⟨1, 0, .A, 1800⟩] = [98, 149]
    ∧ shares 1000 1900 [⟨0, 0, .A, 500⟩, ⟨0, 0, .B, 700⟩, ⟨1, 0, .A, 700⟩] = [263, 369, 368]
    ∧ shares 150 1900 [⟨0, 0, .A, 500⟩, ⟨0, 0, .B, 700⟩, ⟨1, 0, .A, 700⟩] = [39, 56, 55] := by decide +kernel

/-- Equation 48 and Example 17. -/
theorem test_example17 :
    zeroAllowance 1500 210 = 31
    ∧ deviationOf 1640 247 1644 246 = (0, .forward)
    ∧ deviationOf 1400 230 1644 246 = (14, .forward)
    ∧ deviationOf 1640 150 1644 246 = (39, .reverse) := by decide +kernel

/-- Equations 52 to 54: the entry marks of three placed carriers. -/
theorem test_placed_marks :
    let s : State := { State.reset with map := { map10 with line := { map10.line with scale := 2500 } } }
    s.placedMark 27150 = 4294899421 ∧ s.placedMark 26300 = 4294901546 ∧ s.placedMark 20000 = 4294917296 := by
  decide +kernel

/-- Equations 56 and 57: the SET SPEED frame has 8 characters and its reply 11. -/
theorem test_frame_lengths :
    (requestFrame 12 (.setSpeed 1500)).length = 8
    ∧ (linkFrame ([12, 6, 0x98, 0, 0, 0] ++ nat2 1500)).length = 11 := by decide +kernel

/-- A line whose plating ends at 25,500 mm and whose exit sensor stands at 27,000 mm, with slot 0 in use (Example
19). -/
def line19 : State :=
  { line10 with
    map := { map10 with
      zones := bankSet map10.zones 4 (zoneTo 25500 8 9)
      line := { map10.line with scale := 2500, xExit := 27000 } }
    pos := State.reset.pos
    table := CarrierTable.powerOn }

/-- Example 19: the first carrier placed is on target, past the plating end and beyond the exit window. -/
theorem test_example19 :
    let f : PlaceFields :=
      { tag := 301, lead := 27150, length := 600, areaA := 2400, areaB := 2400, slot := 0, fwdA := 133000000,
        revA := 12000000, fwdB := 133000000, revB := 12000000 }
    (after (exec (.place 239 f) line19)).table.live.map
        (fun r => (r.index.val, r.generation.toNat, r.entryMark.toNat, r.state)) = [(0, 1, 4294899421, .lost)]
    ∧ (after (exec (.place 239 f) line19)).table.live.map
        (fun r => (r.reachedA, r.reachedB, r.platingClosed, r.outcome))
        = [(some 27150, some 27150, true, some .met)] := by
  decide +kernel

/-! ### States that meet the hypotheses of the statements -/

theorem witness_FrontCommandIsRun : State.reset.pending = [] := rfl

theorem witness_ResetPins :
    ({ State.reset with inReset := true } : State).inReset = true
    ∧ (∀ p, Instr.halt 239 ≠ .powerOnReset p) ∧ Instr.halt 239 ≠ .resetNLow
    ∧ strapStation 0 = 239 ∧ strapStation 1 = 1 ∧ strapStation 239 = 239 ∧ strapStation 240 = 239 :=
  ⟨rfl, by simp, by simp, by decide, by decide, by decide, by decide⟩

theorem witness_CharactersMakeTheFrame :
    wholeLinkFrame (requestFrame 239 .halt) = true ∧ State.reset.inReset = false
    ∧ State.reset.link.receiver = .hunt := ⟨by decide +kernel, rfl, rfl⟩

theorem witness_RefusedRequestLeavesThePart :
    (serve (.readProgram 16) State.reset).2.result.taken = false ∧ Listening State.reset 239 :=
  ⟨by decide +kernel, listening⟩

/-- The clauses that take a request, and those that judge a frame with none, at a length of 249 and at none. -/
theorem witness_AddressDecides :
    Listening State.reset 239 ∧ (ListeningToGroup grouped 0xFE ∧ groupTaken .halt = true)
    ∧ (ListeningToGroup State.reset 0xFF ∧ groupTaken .readLink = false)
    ∧ ((0xFE : Byte).toNat ≠ State.reset.link.station ∧ (0xFE : Byte) ≠ 0xFF ∧ State.reset.map.line.group = none)
    ∧ (wholeLinkFrame [0xC3, 239, 1, 0x40, 0, 0] = true ∧ crcGood [239, 1, 0x40, 0, 0] = false)
    ∧ 128 ≤ (0x80 : Byte).toNat ∧ (0x7F : Byte).toNat < 128
    ∧ parseRequest 0x7F [] = .unknownRequest ∧ parseRequest 0x40 (List.replicate 249 0) = .badLength
    ∧ (List.replicate 249 (0 : Byte)).length ≤ 249
    ∧ ∀ r, parseRequest 0x40 (List.replicate 249 0) ≠ .request r := by
  have h : parseRequest 0x40 (List.replicate 249 0) = .badLength := by decide +kernel
  exact ⟨listening, ⟨group14, rfl⟩, ⟨broadcast, rfl⟩, ⟨by decide, by decide, rfl⟩, by decide +kernel, by decide,
    by decide, by decide +kernel, h, List.length_replicate.le, fun r => by rw [h]; simp⟩

theorem witness_FrameIsAbandoned :
    (withReceiver (.frame [0xC3, 239])).inReset = false
    ∧ (withReceiver (.frame [0xC3, 239])).link.receiver = .frame [0xC3, 239]
    ∧ [(0xC3 : Byte), 239].length = 2
    ∧ (0 : Byte).toNat = 0 ∧ 251 ≤ (251 : Byte).toNat
    ∧ (let c : Character := { characterOf 0 with parity := true }
      stopError c = false ∧ parityError c = true) := by decide

/-- A reply that waits. -/
def someReply : Reply :=
  { address := 239, code := 0xC0, result := .accepted, status1 := 2, status2 := 0, payload := [] }

theorem witness_CharactersAndBreaks :
    (State.reset.inReset = false ∧ State.reset.link.receiver = .hunt ∧ State.reset.link.lineBreak = .clear)
    ∧ ((characterOf 0xC2).data ≠ 0xC3 ∧ parityError { characterOf 0xC3 with parity := true } = true
      ∧ stopError { characterOf 0xC3 with stop := false } = true)
    ∧ (let s := State.reset.withLineBreak .begun
      s.link.receiver = .hunt ∧ s.link.lineBreak = .begun ∧ s.inReset = false)
    ∧ (withReceiver (.frame [0xC3, 239])).link.receiver = .frame [0xC3, 239]
    ∧ (frameComplete [0xC3, 239, 1] = false ∧ badLengthCharacter [0xC3, 239, 1] = false)
    ∧ (frameComplete [0xC3, 239, 250] = false ∧ badLengthCharacter [0xC3, 239, 250] = false)
    ∧ ((State.reset.withLineBreak .counted).link.lineBreak = .counted
      ∧ (State.reset.withLineBreak .counted).link.receiver = .hunt)
    ∧ (let s := withReceiver (.reply someReply false false)
      s.link.receiver = .reply someReply false false ∧ s.link.lineBreak ≠ .counted ∧ s.inReset = false)
    ∧ (withReceiver (.reply someReply false true)).link.receiver = .reply someReply false true
    ∧ (withReceiver (.reply someReply true false)).link.receiver = .reply someReply true false := by decide

/-- R162: 0xC3 has an even number of ones, so its parity bit reads 0 and its stop bit 1. -/
theorem test_character_levels :
    lineLevels (characterOf 0xC3)
      = [false, true, true, false, false, false, false, true, true, false, true]
    ∧ lineLevels (characterOf 0x01)
      = [false, true, false, false, false, false, false, false, false, true, true] := by decide

/-- R167, R168: a break in a frame shows as a character of zeros with a stop error; its count is the only one until
the line has been idle again. -/
theorem test_break_counts_once :
    let s := withReceiver (.frame [0xC3, 239])
    let errors (cs : List Instr) : Nat := (cs.foldl (fun t c => after (exec c t)) s).link.framingErrors
    errors [.characterReceived 0 false false, .lineBreak] = 1
    ∧ errors [.characterReceived 0 false false, .lineBreak, .lineBreak] = 1
    ∧ errors [.characterReceived 0 false false, .lineBreak, .lineReturnsToIdle, .lineBreak] = 2
    ∧ errors [.characterReceived 0 false false, characterCommand (characterOf 0), .lineBreak] = 2
    ∧ errors [.characterReceived 0 false false, .readLink 7, .lineBreak] = 2 := by decide +kernel

/-- The line of Example 10 with its first carrier this far in. -/
def leadAt (lead : Nat) : State := line10.withPos { line10.pos with count := BitVec.ofNat 32 (lead + 3700) }

/-- SET ZONE that makes zone 4 of Example 10 UNPOWERED, so that the plating ends with zone 3. -/
def unpowered4 : ZoneFields :=
  { zone := 4, boundary := 28000, kind := 2, profile := 0, channelA := 255, channelB := 255, jLo := 1, jHi := 1 }

/-- The zone entry it carries. -/
def entry4 : ZoneEntry :=
  { boundary := 28000, kind := .unpowered, profile := 0, channelA := none, channelB := none, jLo := 1, jHi := 1 }

/-- SET LINE with the settings of Example 10 and the exit sensor here. -/
def exitAt (x : Half) : LineFields :=
  { scale := 1000, sense := 0, entryEdge := 0, exitEdge := 0, holdOff := 50, xExit := x, window := 100, lMin := 600,
    defaultLength := 600, defaultAreaA := 1000, defaultAreaB := 1000, defaultSlot := 255, s0 := 1000,
    stopTime := 1000, parkTime := 300, resumeDistance := 5, restartDelay := 2000, jP := 20, warnBand := 10,
    tripBand := 25, replyWindow := 2, group := 255 }

/-- Profile 7 with a reversal phase φ. -/
def profile7 (phi : Half) : ProfileFields :=
  { profile := 7, tF := 200, tO1 := 0, tR := 10, tO2 := 0, rho := 300, phi := phi }

/-- R52: the trail stands at the new E_plate, and the lead 1 mm beyond the new X_exit + W. -/
theorem witness_MapEditIsTaken :
    (Listening (leadAt 22600) 239 ∧ (leadAt 22600).map.access = .opened ∧ TableLaw (leadAt 22600))
    ∧ (zoneEntryOf unpowered4 = some (4, entry4)
      ∧ let m : LineMap := { map10 with zones := bankSet map10.zones 4 entry4 };
        (leadAt 22600).keepsRunning m = true ∧ m.valid (leadAt 22600).table.live = true
        ∧ m.ePlate ≠ map10.ePlate ∧ ((leadAt 22600).withMap m).plates c1 = true)
    ∧ (let m : LineMap := { map10 with channels := bankSet map10.channels 31 { iFmax := 1500, iRmax := 3000 } };
        (leadAt 22600).keepsRunning m = true ∧ m.valid (leadAt 22600).table.live = true)
    ∧ (Listening (leadAt 28101) 239 ∧ (leadAt 28101).map.access = .opened ∧ TableLaw (leadAt 28101)
      ∧ lineSettingsOf (exitAt 28000) = some { map10.line with xExit := 28000 }
      ∧ let m : LineMap := { map10 with line := { map10.line with xExit := 28000 } };
        (leadAt 28101).keepsRunning m = true ∧ m.valid (leadAt 28101).table.live = true
        ∧ ((leadAt 28101).withMap m).losesSight c1 = true)
    ∧ (Listening State.reset 239 ∧ State.reset.map.access = .closed
      ∧ ∀ z : Fin 16, State.reset.zones[z].state = .disabled)
    ∧ (let f := profile7 209
      f.profile = byteOf (7 : Fin 8) ∧ f.phi.toNat < f.tF.toNat + f.tO1.toNat + f.tR.toNat + f.tO2.toNat
      ∧ f.rho.toNat * f.tR.toNat + 5 * (f.tF.toNat + f.tO1.toNat + f.tR.toNat + f.tO2.toNat) ≤ 100 * f.tF.toNat) := by
  refine ⟨⟨⟨by decide +kernel, by decide +kernel, by decide +kernel⟩, rfl, ?_⟩, by decide +kernel, by decide +kernel,
    ⟨⟨by decide +kernel, by decide +kernel, by decide +kernel⟩, rfl, ?_, by decide +kernel, by decide +kernel⟩,
    ⟨listening, rfl, by decide +kernel⟩, by decide⟩ <;> constructor <;> decide +kernel

/-- R52, R65: an edit that lowers E_plate to a record's trail closes its plating, and one mm short of it does not;
R51: a record 1 mm beyond the new exit window is LOST, and one at its end is not. -/
theorem test_map_edit_watches :
    let edit (lead : Nat) (c : Instr) := after (exec c (leadAt lead))
    let first (s : State) := s.table.live.head?.map fun r => (r.platingClosed, r.outcome, r.state)
    first (edit 22600 (.setZone 239 unpowered4)) = some (true, some .short, .tracking)
    ∧ (edit 22600 (.setZone 239 unpowered4)).attn.flags = Event.shortfall.mask
    ∧ first (edit 22599 (.setZone 239 unpowered4)) = some (false, none, .tracking)
    ∧ first (edit 28101 (.setLine 239 (exitAt 28000))) = some (false, none, .lost)
    ∧ (edit 28101 (.setLine 239 (exitAt 28000))).attn.flags = Event.missedExit.mask
    ∧ first (edit 28100 (.setLine 239 (exitAt 28000))) = some (false, none, .tracking) := by decide +kernel

/-- A map access state on the part after reset. -/
def withAccess (a : MapAccess) : State := State.reset.withAccess a

/-- Zone 2 in service on a map that is CLOSED. -/
def closed10 : State := enabled10.withAccess .closed

/-- The map of Example 10 with channel 4 rated at nothing. -/
def unrated4 : LineMap := { map10 with channels := bankSet map10.channels 4 { iFmax := 0, iRmax := 0 } }

/-- SET ZONE for zone 15, ending beyond the exit sensor. -/
def zone15 : ZoneFields :=
  { zone := 15, boundary := 29001, kind := 2, profile := 0, channelA := 255, channelB := 255, jLo := 1, jHi := 1 }

/-- The zone entry it carries. -/
def entry15 : ZoneEntry :=
  { boundary := 29001, kind := .unpowered, profile := 0, channelA := none, channelB := none, jLo := 1, jHi := 1 }

/-- The map of Example 10 with that zone. -/
def beyondExit : LineMap := { map10 with zones := bankSet map10.zones 15 entry15 }

theorem listeningEnabled : Listening enabled10 239 :=
  ⟨by decide +kernel, by decide +kernel, by decide +kernel⟩

/-- The map edits and SET PROFILE share their states; φ is refused at the period 210, and 209 is in its range. -/
theorem witness_MapEditIsRefused :
    (Listening (withAccess .locked) 239 ∧ (withAccess .locked).mapEdit (.setChannel 32 0 0) = some none
      ∧ (withAccess .locked).map.access = .locked)
    ∧ (Listening State.reset 239 ∧ State.reset.mapEdit (.setChannel 32 0 0) = some none
      ∧ State.reset.map.access = .closed ∧ ∀ z : Fin 16, State.reset.zones[z].state = .disabled)
    ∧ (Listening closed10 239 ∧ closed10.map.access = .closed ∧ closed10.zones[(2 : Fin 16)].state ≠ .disabled
      ∧ closed10.mapEdit (.setChannel 32 0 0) = some none)
    ∧ (Listening enabled10 239 ∧ enabled10.map.access = .opened
      ∧ enabled10.mapEdit (.setChannel 4 0 0) = some (some unrated4) ∧ enabled10.keepsRunning unrated4 = false)
    ∧ (Listening line10 239 ∧ line10.mapEdit (.setZone zone15) = some (some beyondExit)
      ∧ line10.keepsRunning beyondExit = true ∧ beyondExit.valid line10.table.live = false)
    ∧ (let period (f : ProfileFields) := f.tF.toNat + f.tO1.toNat + f.tR.toNat + f.tO2.toNat
      ¬ ((profile7 210).phi.toNat < period (profile7 210)) ∧ (profile7 209).phi.toNat < period (profile7 209)) :=
  ⟨⟨⟨rfl, rfl, rfl⟩, by decide +kernel, rfl⟩, ⟨listening, by decide +kernel, rfl, by decide +kernel⟩,
    ⟨⟨by decide +kernel, by decide +kernel, by decide +kernel⟩, rfl, by decide +kernel, by decide +kernel⟩,
    ⟨listeningEnabled, by decide +kernel, by decide +kernel, by decide +kernel⟩,
    ⟨listening10, by decide +kernel, by decide +kernel, by decide +kernel⟩, by decide⟩

theorem witness_MapAccessRequest : Listening State.reset 239 ∧ 2 < (3 : Byte).toNat := ⟨listening, by decide⟩

theorem witness_LockedMapStaysLocked :
    (withAccess .locked).map.access = .locked ∧ (∀ p, Instr.mapAccess 239 0 ≠ .powerOnReset p)
    ∧ ∃ t, exec (.mapAccess 239 0) (withAccess .locked) = .next t := ⟨rfl, by simp, _, rfl⟩

theorem witness_DefineProgramRequest :
    Listening State.reset 239 ∧ ¬ ((16 : Byte).toNat ≤ 15) ∧ (15 : Byte) = byteOf (15 : Fin 16)
    ∧ (1 ≤ (20000 : Half).toNat ∧ (20000 : Half).toNat ≤ 20000 ∧ 1 ≤ (1 : Half).toNat ∧ (1 : Half).toNat ≤ 2000
      ∧ (2000 : Half).toNat ≤ 2000 ∧ (1 : Half).toNat ≤ (2000 : Half).toNat) :=
  ⟨listening, by decide⟩

theorem witness_SlotStateRequests : Listening line10 239 ∧ 15 < (16 : Byte).toNat := ⟨listening10, by decide⟩

theorem witness_ReadsChangeNothing :
    Listening line10 239 ∧ 4 < (5 : Byte).toNat ∧ 15 < (16 : Byte).toNat ∧ (16 : Byte) ≠ 0xFF
    ∧ 31 < (32 : Byte).toNat ∧ 7 < (8 : Byte).toNat
    ∧ (1 ≤ (1 : Long).toNat ∧ (65535 : Long).toNat ≤ 65535) ∧ 65535 < (65536 : Long).toNat
    ∧ (63 : Long).toNat ≤ 63 ∧ 63 < (64 : Long).toNat ∧ 3 < (4 : Byte).toNat := ⟨listening10, by decide⟩

theorem witness_ReadsThatClear :
    Listening line10 239 ∧ 1 < (2 : Byte).toNat ∧ 31 < (32 : Byte).toNat := ⟨listening10, by decide⟩

theorem witness_SetSpeedRequest : Listening State.reset 239 ∧ ListeningToGroup grouped 0xFE := ⟨listening, group14⟩

/-- An announcement with no program. -/
def announced (tag : Half) (slot : Byte) : AnnounceFields :=
  { tag := tag, length := 600, areaA := 2400, areaB := 0, slot := slot }

/-- The announcement that is queued for it. -/
def queued (tag : Nat) : Announcement := { tag := tag, length := 600, areaA := 2400, areaB := 0, slot := none }

/-- The line of Example 10 with these announcements queued. -/
def withQueue (q : List Announcement) : State := line10.withTable { line10.table with queue := q }

theorem witness_AnnounceRequest :
    Listening line10 239 ∧ announcementOf 600 (announced 0 255) = none
    ∧ (announcementOf 600 (announced 2 255) = some (queued 2) ∧ line10.tagHeld 2 = true)
    ∧ (let s := withQueue [queued 11, queued 12, queued 13, queued 14, queued 15, queued 16, queued 17, queued 18]
      Listening s 239 ∧ announcementOf s.map.line.lMin (announced 65535 255) = some (queued 65535)
      ∧ s.tagHeld 65535 = false ∧ 8 ≤ s.table.queue.length)
    ∧ (line10.tagHeld 3 = false ∧ line10.table.queue.length < 8 ∧ (queued 3).slot = none)
    ∧ (announcementOf 600 (announced 3 15) = some { queued 3 with slot := some 15 }
      ∧ line10.programs[(15 : Fin 16)].state = .empty ∧ line10.programs[(0 : Fin 16)].state = .frozen) :=
  ⟨listening10, by decide +kernel, by decide +kernel, ⟨⟨rfl, rfl, rfl⟩, by decide +kernel⟩, by decide +kernel,
    by decide +kernel⟩

theorem witness_CancelRequest :
    Listening (withQueue [queued 11, queued 12]) 239 ∧ (65535 : Half) ≠ 0
    ∧ (∀ a ∈ (withQueue [queued 11, queued 12]).table.queue, a.tag ≠ (65535 : Half).toNat)
    ∧ (withQueue [queued 11, queued 12]).table.queue = [queued 11] ++ queued 12 :: []
    ∧ (queued 12).tag = (12 : Half).toNat ∧ (∀ b ∈ [queued 11], b.tag ≠ (12 : Half).toNat) :=
  ⟨⟨rfl, rfl, rfl⟩, by decide, by decide, rfl, by decide, by decide⟩

/-- An amendment of a tag's length and program. -/
def amendment (tag : Half) (length : Half) (program : Byte) : AmendFields :=
  { tag := tag, length := some length, areas := none, program := some program }

/-- The amendment that it asks for. -/
def amended (tag length : Nat) (slot : Fin 16) : Amendment :=
  { tag := tag, length := some length, areas := none, program := some (some slot) }

theorem witness_AmendRequest :
    Listening line10 239 ∧ amendmentOf 600 (amendment 1 2001 0) = none
    ∧ (amendmentOf 600 (amendment 3 600 0) = some (amended 3 600 0)
      ∧ (line10.table.live.find? fun r => r.tag == 3) = none)
    ∧ (line10.table.live.find? fun r => r.tag == 1) = some c1
    ∧ (amendmentOf 600 (amendment 1 2000 0) = some (amended 1 2000 0)
      ∧ line10.lengthOverlaps c1 (some 2000) = true)
    ∧ (amendmentOf 600 (amendment 1 700 15) = some (amended 1 700 15)
      ∧ line10.lengthOverlaps c1 (some 700) = false
      ∧ moveProgram c1.slot (some 15) line10 = .error .slotEmpty)
    ∧ ∃ u, moveProgram c1.slot (some 1) line10 = .ok u :=
  ⟨listening10, by decide +kernel, by decide +kernel, by decide +kernel, by decide +kernel,
    ⟨by decide +kernel, by decide +kernel, refusesWith_error (by decide +kernel)⟩, passes_ok (by decide +kernel)⟩

/-- A carrier with no tag and no program. -/
def unknown : Record := { c2 with tag := 0, slot := none }

/-- The line of Example 10 with its second carrier unidentified. -/
def untagged10 : State := line10.withLive [c1, unknown]

theorem witness_IdentifyRequest :
    Listening untagged10 239 ∧ identityOf 64 3 none = none
    ∧ (identityOf 63 3 none = some (63, 3, none)
      ∧ (untagged10.table.live.find? fun r => r.index == 63 && r.generation == 0) = none)
    ∧ ((untagged10.table.live.find? fun r => r.index == 0 && r.generation == 0) = some c1 ∧ c1.tag ≠ 0)
    ∧ ((untagged10.table.live.find? fun r => r.index == 1 && r.generation == 0) = some unknown ∧ unknown.tag = 0)
    ∧ (untagged10.tagHeld 1 = true ∧ untagged10.tagHeld 3 = false)
    ∧ moveProgram unknown.slot (some 15) untagged10 = .error .slotEmpty
    ∧ ∃ u, moveProgram unknown.slot none untagged10 = .ok u :=
  ⟨⟨rfl, rfl, rfl⟩, by decide +kernel, by decide +kernel, by decide +kernel, by decide +kernel, by decide +kernel,
    refusesWith_error (by decide +kernel), passes_ok (by decide +kernel)⟩

/-- A carrier to be placed. -/
def placing (tag lead : Half) (slot : Byte) : PlaceFields :=
  { tag := tag, lead := lead, length := 600, areaA := 2400, areaB := 0, slot := slot, fwdA := 0, revA := 0,
    fwdB := 0, revB := 0 }

/-- Sixty-four records. -/
def full10 : State := line10.withLive ((List.finRange 64).map fun i => { c1 with index := i, tag := 0 })

/-- What is asked to be placed. -/
def placed (tag lead : Nat) (slot : Option (Fin 16)) : Placement :=
  { tag := tag, lead := lead, length := 600, areaA := 2400, areaB := 0, slot := slot, fwdA := 0, revA := 0,
    fwdB := 0, revB := 0 }

theorem witness_PlaceRequest :
    Listening line10 239 ∧ placementOf 600 { placing 3 0 255 with length := 599 } = none
    ∧ (placementOf 600 (placing 2 0 255) = some (placed 2 0 none) ∧ line10.tagHeld 2 = true)
    ∧ (placementOf 600 (placing 0 0 255) = some (placed 0 0 none) ∧ 64 ≤ full10.table.live.length)
    ∧ (placementOf 600 (placing 3 16000 255) = some (placed 3 16000 none) ∧ line10.tagHeld 3 = false
      ∧ line10.table.live.length < 64 ∧ freeIndex line10.table.live = some 2
      ∧ line10.placeOverlaps (placedRecord (placed 3 16000 none) 2 1 4000) = true)
    ∧ (placementOf 600 (placing 3 0 1) = some (placed 3 0 (some 1))
      ∧ line10.placeOverlaps (placedRecord (placed 3 0 (some 1)) 2 1 20000) = false
      ∧ ∃ u, takeProgram (some 1) line10 = .ok u)
    ∧ (placementOf 600 (placing 3 0 15) = some (placed 3 0 (some 15))
      ∧ takeProgram (some 15) line10 = .error .slotEmpty) :=
  ⟨listening10, by decide +kernel, by decide +kernel, by decide +kernel, by decide +kernel,
    ⟨by decide +kernel, by decide +kernel, passes_ok (by decide +kernel)⟩,
    by decide +kernel, refusesWith_error (by decide +kernel)⟩

/-- R71, check 4: with 1,600 mm to the record ahead and that record 600 mm long, a new one of 1,600 mm stands clear of
it and one of 1,700 mm does not; and where the record ahead is 1,700 mm long, one of 600 mm does not either. -/
theorem test_place_overlaps :
    let new (length : Nat) : Record := placedRecord { placed 3 14000 none with length := length } 2 1 6000
    (line10.placeOverlaps (new 1600), line10.placeOverlaps (new 1700)) = (false, true)
    ∧ (line10.withLive [{ c2 with length := 1700 }]).placeOverlaps (new 600) = true := by decide +kernel

theorem witness_RetireRequest :
    Listening line10 239 ∧ line10.retireTarget 2 0 = .error .badValue ∧ (∃ r, line10.retireTarget 1 0x0100 = .ok r)
    ∧ findRecord line10.table.live 1 0 = some c2 ∧ line10.table.live = [c1] ++ c2 :: []
    ∧ (∀ q ∈ [c1], q.index ≠ c2.index ∨ q.generation ≠ c2.generation) ∧ (65535 : Half) ≠ 0 :=
  ⟨listening10, refusesWith_error (by decide +kernel), passes_ok (by decide +kernel), by decide +kernel, rfl,
    by decide +kernel, by decide⟩

theorem witness_WalkRequests :
    (Listening line10 239 ∧ line10.table.cursor = .nowhere)
    ∧ (let s := line10.withTable { line10.table with cursor := .aheadOf 1 0 }
      Listening s 239 ∧ s.table.live = [c1] ++ c2 :: [] ∧ s.table.cursor = .aheadOf c2.index c2.generation)
    ∧ (let s := line10.withTable { line10.table with cursor := .atRecord 0 0 }
      Listening s 239 ∧ s.table.live = [] ++ c1 :: [c2] ∧ s.table.cursor = .atRecord c1.index c1.generation)
    ∧ (∀ q ∈ [c1], q.index ≠ c2.index ∨ q.generation ≠ c2.generation) :=
  ⟨⟨listening10, rfl⟩, ⟨⟨rfl, rfl, rfl⟩, rfl, rfl⟩, ⟨⟨rfl, rfl, rfl⟩, rfl, rfl⟩, by decide +kernel⟩

theorem witness_EnableZoneRequest :
    Listening line10 239 ∧ 15 < (16 : Byte).toNat
    ∧ (Listening enabled10 239 ∧ enabled10.zones[(2 : Fin 16)].state = .running)
    ∧ (line10.zones[(15 : Fin 16)].state = .disabled ∧ line10.map.enableable 15 = false)
    ∧ (line10.zones[(4 : Fin 16)].state = .disabled ∧ line10.map.enableable 4 = true) :=
  ⟨listening10, by decide, ⟨⟨by decide +kernel, by decide +kernel, by decide +kernel⟩, by decide +kernel⟩,
    by decide +kernel, by decide +kernel⟩

theorem serviceEnabled : ServiceLaw enabled10.zones[(2 : Fin 16)] :=
  ⟨by decide +kernel, by decide +kernel, by decide +kernel, by decide +kernel, by decide +kernel, by decide +kernel⟩

theorem witness_DisableZoneRequest :
    Listening enabled10 239 ∧ 15 < (16 : Byte).toNat ∧ enabled10.zones[(0 : Fin 16)].state = .disabled
    ∧ enabled10.zones[(2 : Fin 16)].state ≠ .disabled ∧ ServiceLaw enabled10.zones[(2 : Fin 16)] :=
  ⟨listeningEnabled, by decide, by decide +kernel, by decide +kernel, serviceEnabled⟩

theorem witness_HaltCommands :
    (Listening halted10 239 ∧ halted10.sup.halted = true ∧ halted10.inReset = false)
    ∧ (Listening enabled10 239 ∧ enabled10.inReset = false ∧ enabled10.sup.halted = false)
    ∧ (ListeningToGroup grouped 0xFE ∧ grouped.sup.halted = false)
    ∧ (let s := { grouped with sup := { halted := true, haltNActive := false } }
      ListeningToGroup s 0xFE ∧ s.sup.halted = true) :=
  ⟨⟨⟨by decide +kernel, by decide +kernel, by decide +kernel⟩, by decide +kernel, by decide +kernel⟩,
    ⟨⟨by decide +kernel, by decide +kernel, by decide +kernel⟩, by decide +kernel, by decide +kernel⟩,
    ⟨group14, rfl⟩, ⟨rfl, rfl, by decide, .inr ⟨14, rfl, rfl⟩⟩, rfl⟩

theorem witness_ResumeRequest :
    (Listening State.reset 239 ∧ State.reset.sup.halted = false)
    ∧ (ListeningToGroup grouped 0xFE ∧ grouped.sup.halted = false)
    ∧ (Listening halted10 239 ∧ halted10.sup.halted = true ∧ halted10.sup.haltNActive = false)
    ∧ (let s := { grouped with sup := { halted := true, haltNActive := false } }
      ListeningToGroup s 0xFE ∧ s.sup.halted = true ∧ s.sup.haltNActive = false) :=
  ⟨⟨listening, rfl⟩, ⟨group14, rfl⟩,
    ⟨⟨by decide +kernel, by decide +kernel, by decide +kernel⟩, by decide +kernel, by decide +kernel⟩,
    ⟨rfl, rfl, by decide, .inr ⟨14, rfl, rfl⟩⟩, rfl, rfl⟩

theorem witness_ResetLineRequest :
    (Listening line10 239 ∧ line10.map.channelUses.Nodup ∧ line10.drive.bus = none)
    ∧ (Listening enabled10 239 ∧ enabled10.map.channelUses.Nodup ∧ enabled10.drive.bus ≠ none) :=
  ⟨⟨listening10, by decide +kernel, rfl⟩,
    ⟨by decide +kernel, by decide +kernel, by decide +kernel⟩, by decide +kernel, by decide +kernel⟩

theorem witness_SetAddressRequest :
    Listening State.reset 239
    ∧ ¬ (1 ≤ (240 : Byte).toNat ∧ (240 : Byte).toNat ≤ 239 ∧ ((15 : Byte).toNat ≤ 14 ∨ (15 : Byte) = 0xFF))
    ∧ (1 ≤ (1 : Byte).toNat ∧ (239 : Byte).toNat ≤ 239) ∧ (14 : Byte) = byteOf (14 : Fin 15) :=
  ⟨listening, by decide, by decide, by decide⟩

theorem witness_ClearEventsRequest :
    Listening State.reset 239 ∧ 2 ^ 18 ≤ (262144 : Mask).toNat ∧ (262143 : Mask).toNat < 2 ^ 18 :=
  ⟨listening, by decide, by decide⟩

/-- PULSE mode with the MAJOR flag set and enabled and the reminder timer running. -/
def reminding : Attention :=
  { flags := 1, enables := 1, mode := .pulse, interval := 60, pulseOn := false, reminderTimer := some 60 }

theorem witness_SetAttentionRequest :
    Listening (State.reset.withAttn reminding) 239 ∧ 2 ^ 18 ≤ (262144 : Mask).toNat ∧ 1 < (2 : Byte).toNat
    ∧ (262143 : Mask).toNat < 2 ^ 18 ∧ (1 : Byte).toNat ≤ 1
    ∧ (State.reset.withAttn reminding).attn.interval ≠ min (59 : Half).toNat 60 :=
  ⟨⟨rfl, rfl, rfl⟩, by decide, by decide, by decide, by decide, by decide⟩

theorem witness_AttentionTimersAndOutputs :
    State.reset.inReset = false ∧ State.reset.attn.reminderTimer = none
    ∧ (State.reset.withAttn reminding).attn.reminderTimer ≠ none := by decide

/-- Zones 2 and 4 of Example 10 RUNNING, zone 2 after its first boundary. -/
def pair10 : State := { after (exec (.enableZone 239 4) started10) with link := State.reset.link }

/-- That line stopped, four pulses past its stop mark, with zones 2 and 4 in PROTECT, zone 2's UNSTARTED snapshot
behind a STARTED one, and zone 3 PARKED. -/
def resuming : State :=
  let s := after (exec .stopTimerExpiry pair10)
  State.inStates (s.withPos { s.pos with count := s.pos.count + 4 }) [(3, .parked)]

/-- The pending list of zone 2 there. -/
def resumingPending : List Snapshot := resuming.zones[(2 : Fin 16)].pending

theorem witness_EncoderPulseCounts :
    (line10.inReset = false ∧ line10.pos.motion = .moving)
    ∧ (State.reset.pos.motion ≠ .moving ∧ State.reset.pos.stopMark = some 0
      ∧ ((State.reset.pos.count + 1) - 0).toInt.natAbs * 1000
          < State.reset.map.line.resumeDistance * State.reset.map.line.scale)
    ∧ (resuming.inReset = false ∧ resuming.pos.motion ≠ .moving ∧ resuming.pos.stopMark = some 20000
      ∧ resuming.map.line.resumeDistance * resuming.map.line.scale
          ≤ ((resuming.pos.count + 1) - 20000).toInt.natAbs * 1000)
    ∧ (resuming.zones[(3 : Fin 16)].state = .parked ∧ resuming.zones[(0 : Fin 16)].state = .disabled)
    ∧ (resuming.zones[(2 : Fin 16)].state = .protect
      ∧ ∃ older n, resumingPending = older ++ [n] ∧ older.length = 1 ∧ n.phase = .unstarted
        ∧ (∀ o ∈ older, o.phase ≠ .unstarted) ∧ (n.sides.map Side.channel).Nodup ∧ n.sides.length = 2)
    ∧ (resuming.zones[(4 : Fin 16)].state = .protect
      ∧ ∀ y : Fin 16, y ≠ 2 → resuming.zones[y].state = .protect → ∀ o ∈ resuming.zones[y].pending,
        o.phase = .unstarted → ∀ n ∈ resumingPending, ∀ d ∈ n.sides, ∀ e ∈ o.sides, d.channel ≠ e.channel) := by
  refine ⟨by decide +kernel, by decide +kernel, by decide +kernel, by decide +kernel, ⟨by decide +kernel, ?_⟩,
    by decide +kernel⟩
  exact ⟨[resumingPending[0]'(by decide +kernel)], resumingPending[1]'(by decide +kernel), by decide +kernel, rfl,
    by decide +kernel, by decide +kernel, by decide +kernel, by decide +kernel⟩

theorem witness_QuietInputs : State.reset.inReset = false := rfl

theorem witness_MotionTimersExpire :
    (enabled10.inReset = false ∧ enabled10.pos.motion = .moving ∧ enabled10.pos.stopTimer ≠ none)
    ∧ (State.reset.inReset = false ∧ State.reset.pos.motion = .stopped ∧ State.reset.pos.parkTimer ≠ none)
    ∧ State.reset.pos.motion ≠ .moving ∧ line10.pos.motion ≠ .stopped := by decide +kernel

/-- R23, R79: a snapshot keeps the profile it was computed with. -/
theorem test_snapshot_profile :
    (enabled10.zones[(2 : Fin 16)].pending.map fun n => (n.profile.rho, n.profile.phi, n.period))
      = [(300, 105, 210)] := by
  decide +kernel

/-- Zones 2 and 4 RUNNING on a moving line with different channels, and zone 2 in PROTECT on a stopped one whose map
uses no channel twice. -/
theorem witness_MotionTimersExpire_zones :
    (pair10.pos.motion = .moving ∧ pair10.pos.stopTimer ≠ none ∧ pair10.zones[(4 : Fin 16)].state = .running
      ∧ (∀ n ∈ pair10.zones[(2 : Fin 16)].pending, (n.sides.map Side.channel).Nodup)
      ∧ ∀ y : Fin 16, y ≠ 2 → pair10.zones[y].state = .running → ∀ o ∈ pair10.zones[y].pending,
        o.phase = .unstarted → ∀ n ∈ pair10.zones[(2 : Fin 16)].pending, ∀ d ∈ n.sides, ∀ e ∈ o.sides,
          d.channel ≠ e.channel)
    ∧ (∃ older n, pair10.zones[(2 : Fin 16)].pending = older ++ [n] ∧ n.phase = .unstarted
      ∧ ∀ o ∈ older, o.phase ≠ .unstarted)
    ∧ (resuming.pos.motion = .stopped ∧ resuming.pos.parkTimer ≠ none ∧ resuming.map.channelUses.Nodup
      ∧ resuming.map.zones[(2 : Fin 16)].channels = [4, 5]) := by
  refine ⟨by decide +kernel, ?_, by decide +kernel⟩
  exact ⟨[pair10.zones[(2 : Fin 16)].pending[0]'(by decide +kernel)],
    pair10.zones[(2 : Fin 16)].pending[1]'(by decide +kernel), by decide +kernel⟩

/-- PROTECT zones with what leaving service asks for: a lawful list, an UNSTARTED snapshot to discard, and entries of it
that name a live record. -/
theorem witness_MotionTimersExpire_parked :
    TableLaw resuming ∧ QueueLaw resuming ∧ ServiceLaw resuming.zones[(2 : Fin 16)]
    ∧ ServiceLaw resuming.zones[(3 : Fin 16)] ∧ ServiceLaw resuming.zones[(4 : Fin 16)]
    ∧ (∀ z : Fin 16, z ≠ 2 → z ≠ 3 → z ≠ 4 → resuming.zones[z] = Sequencer.powerOn)
    ∧ (resumingPending.map (resuming.discards 2)).any id = true
    ∧ ((resuming.discardedEntries 2).any fun e => e.names c1) = true := by
  refine ⟨?_, ?_, ?_, ?_, ?_, by decide +kernel, by decide +kernel, by decide +kernel⟩ <;>
    constructor <;> decide +kernel

/-- A hold-off mark of 50 mm on both sensors, set at count 0. -/
def marked (count : Count) : State :=
  State.reset.withPos { State.reset.pos with
    count := count
    entry := { high := true, mark := some (0, 50), ignored := 255 }
    exit := { high := true, mark := some (0, 50), ignored := 0 } }

theorem witness_SensorEdgeIsFiltered :
    (∃ c d, (marked 49).pos.entry.mark = some (c, d)
      ∧ ((marked 49).pos.count - c).toInt * 1000 / ((marked 49).map.line.scale : Int) < (d : Int))
    ∧ (∃ c d, (marked 49).pos.exit.mark = some (c, d)
      ∧ ((marked 49).pos.count - c).toInt * 1000 / ((marked 49).map.line.scale : Int) < (d : Int))
    ∧ ((marked 50).pos.direction = .forward ∧ (marked 50).inReset = false)
    ∧ (¬ ∃ c d, (marked 50).pos.entry.mark = some (c, d)
      ∧ ((marked 50).pos.count - c).toInt * 1000 / ((marked 50).map.line.scale : Int) < (d : Int))
    ∧ (¬ ∃ c d, (marked 50).pos.exit.mark = some (c, d)
      ∧ ((marked 50).pos.count - c).toInt * 1000 / ((marked 50).map.line.scale : Int) < (d : Int)) := by
  refine ⟨⟨0, 50, rfl, by decide⟩, ⟨0, 50, rfl, by decide⟩, ⟨rfl, rfl⟩, ?_, ?_⟩
  · rintro ⟨c, d, h, h'⟩
    cases h
    exact absurd h' (by decide)
  · rintro ⟨c, d, h, h'⟩
    cases h
    exact absurd h' (by decide)

/-- Example 10's table before a pulse, and a record that each watch reports. -/
theorem witness_EncoderPulseCounts_table :
    TableLaw line10
    ∧ (let s := line10.withPos { line10.pos with count := 40000 }
      s.plates c1 = true ∧ s.losesSight c1 = true ∧ s.watched c1 = { c1 with
        platingClosed := true, outcome := some .short, state := .lost }) := by
  refine ⟨tableLaw10, ?_⟩
  decide +kernel

/-- The line of Example 10 when its second carrier is 599 mm past the entry sensor. -/
def crowded : State := line10.withPos { line10.pos with count := 4999 }

/-- A full table whose first record has left. -/
def displacing : State := full10.withLive ((List.finRange 64).map fun i =>
  { c1 with index := i, tag := 0, state := if i = 0 then .exited else .tracking })

/-- A TRACKING record at this lead in front of Example 10's exit sensor. -/
def leaving (lead : Nat) : Record :=
  { record10 0 0 600 2400 0 0 0 with
    entryMark := 20000 - BitVec.ofNat 32 lead, state := .tracking, platingClosed := true }

/-- The line of Example 10 with that record alone. -/
def exiting (lead : Nat) : State := line10.withLive [leaving lead]

/-- The entry clauses: a record 599 mm in is too close and one of 600 is not; a full table without and with an EXITED
record; a queue with an announcement; a rear record whose trail is past the sensor, and one it would overlap. -/
theorem witness_ArrivalIsTaken :
    (crowded.table.live.getLast? = some c2 ∧ crowded.lead c2 = 599 ∧ crowded.map.line.lMin = 600)
    ∧ (let s := line10.withPos { line10.pos with count := 5000 }
      s.table.live = [c1] ++ [c2] ∧ s.lead c2 = 600 ∧ s.trail c2 < 0)
    ∧ ((∀ r, full10.table.live.getLast? = some r → (full10.map.line.lMin : Int) ≤ full10.lead r)
      ∧ full10.table.live.length = 64 ∧ ∀ r ∈ full10.table.live, r.state ≠ .exited)
    ∧ ((∀ r, displacing.table.live.getLast? = some r → (displacing.map.line.lMin : Int) ≤ displacing.lead r)
      ∧ displacing.table.live.length = 64
      ∧ displacing.table.live = [] ++ { c1 with tag := 0, state := .exited } :: displacing.table.live.tail)
    ∧ ((∀ r, line10.table.live.getLast? = some r → (line10.map.line.lMin : Int) ≤ line10.lead r)
      ∧ line10.table.live.length < 64 ∧ freeIndex line10.table.live = some 2 ∧ 0 ≤ line10.trail c2)
    ∧ (withQueue [{ queued 11 with length := 599 }]).table.queue = [{ queued 11 with length := 599 }]
    ∧ (line10.table.queue = [] ∧ line10.map.line.defaultSlot = none)
    ∧ (∀ r ∈ State.reset.table.live, r.state ≠ .tracking) := by
  refine ⟨by decide +kernel, by decide +kernel, ⟨?_, by decide +kernel⟩, ⟨?_, by decide +kernel, by decide +kernel⟩,
    ⟨?_, by decide +kernel⟩, rfl, by decide +kernel, by decide⟩
  · exact fun r h => by
      have : full10.table.live.getLast? = some { c1 with index := 63, tag := 0 } := by decide +kernel
      rw [this] at h
      cases h
      decide +kernel
  · exact fun r h => by
      have : displacing.table.live.getLast? = some { c1 with index := 63, tag := 0, state := .tracking } := by
        decide +kernel
      rw [this] at h
      cases h
      decide +kernel
  · exact fun r h => by
      have : line10.table.live.getLast? = some c2 := by decide +kernel
      rw [this] at h
      cases h
      decide +kernel

theorem displacing_table : TableLaw displacing ∧ TableLaw line10 :=
  ⟨⟨by decide +kernel, by decide +kernel, by decide +kernel, by decide +kernel, by decide +kernel⟩, tableLaw10⟩

theorem exiting_laws (lead : Nat) (h : lead = 28899 ∨ lead = 28900 ∨ lead = 29100) :
    TableLaw (exiting lead) ∧ WatchLaw (exiting lead) := by
  rcases h with rfl | rfl | rfl <;>
  exact ⟨⟨by decide +kernel, by decide +kernel, by decide +kernel, by decide +kernel, by decide +kernel⟩,
    by decide +kernel, by decide +kernel⟩

/-- The exit clause at both ends of the window of 100 mm about 29,000 mm, and just before it. -/
theorem witness_ArrivalIsTaken_exit :
    (exiting 28900).lead (leaving 28900) = 28900 ∧ (exiting 29100).lead (leaving 29100) = 29100
    ∧ (exiting 28899).lead (leaving 28899) = 28899
    ∧ (exiting 29100).table.live = [] ++ leaving 29100 :: [] ∧ (leaving 29100).state = .tracking
    ∧ (∀ q ∈ ([] : List Record), q.state ≠ .tracking)
    ∧ ((exiting 29100).map.line.xExit = 29000 ∧ (exiting 29100).map.line.window = 100) := by decide +kernel

theorem serviceLaw10 : ServiceLaw started10.zones[(2 : Fin 16)] :=
  ⟨by decide +kernel, by decide +kernel, by decide +kernel, by decide +kernel, by decide +kernel, by decide +kernel⟩

/-- Zone 2 after two boundaries more, its ORDERs still waiting. -/
def fullList10 : State := after (exec (.periodBoundary 2) started10)

theorem fullList_law : ServiceLaw fullList10.zones[(2 : Fin 16)] := by
  constructor <;> decide +kernel

theorem fullList_laws : QueueLaw fullList10 ∧ TableLaw fullList10 := by
  constructor <;> constructor <;> decide +kernel

/-- Three snapshots pending, the oldest with open sides that name records, and ORDERs of the UNSTARTED one waiting; and
one snapshot pending. -/
theorem witness_PeriodBoundaryIsTaken :
    (fullList10.inReset = false ∧ fullList10.zones[(2 : Fin 16)].state = .running
      ∧ fullList10.zones[(2 : Fin 16)].periodTimer ≠ none)
    ∧ ((fullList10.zones[(2 : Fin 16)].pending.map fun n => (n.phase, (n.sides.map Side.channel)))
        = [(.ended, [4, 5]), (.started, [4, 5]), (.unstarted, [4, 5])])
    ∧ ((fullList10.zones[(2 : Fin 16)].pending.head?.map fun n =>
        n.sides.map fun d => (d.closed, decide (d.aZ ≠ 0), d.entries.length))
          = some [(false, true, 2), (false, true, 2)])
    ∧ (fullList10.drive.queue.any (isOrder 4 fullList10.zones[(2 : Fin 16)].lastSeq) = true)
    ∧ (enabled10.zones[(2 : Fin 16)].pending.length = 1 ∧ enabled10.zones[(0 : Fin 16)].periodTimer = none) := by
  decide +kernel

/-- A HALTED zone 2 and a PARKED zone 3 whose restart timers run on a moving line. -/
def restarting : State :=
  ((State.inStates line10 [(2, .halted), (3, .parked)]).modifyZone 2 fun q =>
    { q with restartTimer := some 2000 }).modifyZone 3 fun q => { q with restartTimer := some 2000 }

theorem witness_RestartTimerExpires :
    (restarting.inReset = false ∧ restarting.sup.halted = false)
    ∧ restarting.zones[(0 : Fin 16)].restartTimer = none
    ∧ (restarting.zones[(2 : Fin 16)].restartTimer ≠ none ∧ restarting.zones[(2 : Fin 16)].state = .halted)
    ∧ (restarting.zones[(3 : Fin 16)].restartTimer ≠ none ∧ restarting.zones[(3 : Fin 16)].state = .parked
      ∧ restarting.pos.motion = .moving)
    ∧ (restarting.map.zones[(2 : Fin 16)].channels).Nodup := by decide +kernel

/-- The HALTED zone's list and the table are lawful. -/
theorem witness_RestartTimerExpires_laws : TableLaw restarting ∧ ServiceLaw restarting.zones[(2 : Fin 16)] := by
  constructor <;> constructor <;> decide +kernel

/-- A transaction on the bus and items that wait. -/
def onBus (item : DriveItem) (p : BusPhase) (queue : List DriveItem) : State :=
  State.reset.withDrive { State.reset.drive with
    bus := some { item := item, window := 2, phase := p }, queue := queue }

theorem witness_BusTransactionPhases :
    (onBus (.stop 4 none) .sending []).drive.bus = some { item := .stop 4 none, window := 2, phase := .sending }
    ∧ (DriveItem.stop 4 none).addressee ≠ none ∧ DriveItem.abort.addressee = none
    ∧ (onBus .abort .sending [.stop 4 none]).drive.bus = some { item := .abort, window := 2, phase := .sending }
    ∧ QueueLaw (onBus .abort .sending [.stop 4 none]) ∧ BusPhase.waiting ≠ .sending
    ∧ BusPhase.receiving ≠ .waiting :=
  ⟨rfl, by decide, rfl, rfl, ⟨by decide, by decide⟩, by decide, by decide⟩

theorem witness_TransactionEnds :
    (onBus (.stop 31 none) .waiting []).inReset = false
    ∧ (onBus (.stop 31 none) .waiting []).drive.bus
        = some { item := .stop 31 none, window := 2, phase := .waiting }
    ∧ (DriveItem.stop 31 none).addressee = some 31 ∧ BusPhase.waiting ≠ .sending
    ∧ [({ seq := 0, qf := 2 ^ 32 - 1, qr := 0 } : Readback), { seq := 255, qf := 0, qr := 2 ^ 32 - 1 }].length ≤ 2
    ∧ (∀ b ∈ [({ seq := 0, qf := 2 ^ 32 - 1, qr := 0 } : Readback), { seq := 255, qf := 0, qr := 2 ^ 32 - 1 }],
        b.qf < 2 ^ 32 ∧ b.qr < 2 ^ 32)
    ∧ (30 : Fin 32) ≠ 31 ∧ [true] ≠ evenParity [0x5A]
    ∧ (crcGood [0x81, 31, 0, 0, 0, 0] = false ∧ (0x5B : Byte) ≠ 0x5A ∧ (0x80 : Byte) ≠ 0x81 ∧ 2 < (3 : Byte).toNat
      ∧ [(0 : Byte)].length ≠ 9 * (0 : Byte).toNat) :=
  ⟨rfl, rfl, rfl, by decide, by decide, by decide, by decide, by decide, by decide +kernel⟩

/-- The STARTED snapshot of zone 2 and its side A. -/
def runSnapshot : Snapshot := started10.zones[(2 : Fin 16)].pending[0]'(by decide +kernel)

def runSide : Side := runSnapshot.sides[0]'(by decide +kernel)

/-- Zone 2 with that snapshot, DISABLED, and zone 3 with the same one. -/
def leftOpen : State := State.inStates started10 [(2, .disabled)]

def twoZones : State := started10.modifyZone 3 fun q => { q with pending := [runSnapshot] }

theorem matches_run : MatchesOpen started10 4 1 2 runSnapshot runSide := by
  constructor <;> decide +kernel

theorem matches_two : MatchesOpen twoZones 4 1 2 runSnapshot runSide
    ∧ MatchesOpen twoZones 4 1 3 runSnapshot runSide := by
  constructor <;> constructor <;> decide +kernel

theorem matches_unique (z : Fin 16) (n : Snapshot) (d : Side) (h : MatchesOpen started10 4 1 z n d) :
    z = 2 ∧ n = runSnapshot ∧ d = runSide := by
  have all : ∀ z : Fin 16, ∀ n ∈ started10.zones[z].pending, n.seq = 1 → n.phase ≠ .unstarted → ∀ d ∈ n.sides,
      d.channel = 4 → z = 2 ∧ n = runSnapshot ∧ d = runSide := by decide +kernel
  exact all z n h.pending h.number h.run d h.side h.channel

theorem matches_none (z : Fin 16) (n : Snapshot) (d : Side) : ¬ MatchesOpen State.reset 4 1 z n d := by
  intro h
  have none : ∀ z : Fin 16, ∀ n ∈ State.reset.zones[z].pending, False := by decide +kernel
  exact none z n h.pending

theorem leftOpen_table : TableLaw leftOpen := by
  constructor <;> decide +kernel

/-- A STOP whose zone is out of service and has an open side with entries, and an ORDER without a flush. -/
theorem witness_TransactionEnds_lost :
    (DriveItem.stop 4 (some 2)).closes = true ∧ leftOpen.zones[(2 : Fin 16)].state = .disabled
    ∧ (∀ n ∈ leftOpen.zones[(2 : Fin 16)].pending, (n.sides.map Side.channel).Nodup)
    ∧ (runSnapshot ∈ leftOpen.zones[(2 : Fin 16)].pending ∧ runSide ∈ runSnapshot.sides ∧ runSide.channel = 4
      ∧ runSide.closed = false ∧ runSide.aZ ≠ 0 ∧ (runSide.entries.any fun e => e.names c1) = true)
    ∧ (∀ r ∈ leftOpen.table.live, r.fwdA ≤ 4294967295 ∧ r.revA ≤ 4294967295 ∧ r.fwdB ≤ 4294967295
      ∧ r.revB ≤ 4294967295)
    ∧ started10.drive.channels[(4 : Fin 32)].misses ≠ 2 ∧ started10.zones[(2 : Fin 16)].state = .running := by
  decide +kernel

/-- An entry of a live record, by its index. -/
def entryAt (i : Fin 64) : Entry := { index := i, generation := 0, face := .A, area := 1200 }

/-- A side with carriers and one without; an entry whose record is gone, has no program, has met its target, has no live
zone ahead, and has all that the last case of R96 asks for; and a profile with no reverse time. -/
theorem witness_SetpointIsComputed :
    (totalArea [] = 0 ∧ 0 < totalArea (running10.entriesOf 2 .A))
    ∧ (running10.map.zones[(2 : Fin 16)]).jLo ≤ (running10.map.zones[(2 : Fin 16)]).jHi
    ∧ (State.reset.map.profiles[State.reset.map.zones[(2 : Fin 16)].profile]).tR = 0
    ∧ findRecord running10.table.live 63 0 = none
    ∧ findRecord [{ c1 with slot := none }] 0 0 = some { c1 with slot := none }
    ∧ (findRecord running10.table.live 0 0 = some c1 ∧ c1.slot = some 0)
    ∧ remainingCharge running10.programs[(0 : Fin 16)] { c1 with fwdA := 132000000 } .A = 0
    ∧ (remainingCharge line10.programs[(0 : Fin 16)] c1 .A ≠ 0 ∧ line10.liveAhead (line10.centre c1) = 0)
    ∧ (running10.liveAhead (running10.centre c1) = 12000 ∧ 0 < c1.area .A ∧ 0 < profile2.net) := by decide +kernel

/-- A side of channel 4 with these ordered charges. -/
def ordered (qf qr : Nat) : Side :=
  { face := .A, channel := 4, order := { iF := 0, iR := 0, tF := 200, tO1 := 0, tR := 10, tO2 := 0, phi := 0 },
    qfOrd := qf, qrOrd := qr, aZ := 0, jZ := 0, late := false, closed := false, entries := [], demands := [] }

/-- NO_ORDER just beyond the allowance of 31 mC, and deviations of 26, 25 and 10 on the bands 25 and 10. -/
theorem witness_MeasuredSideIsClassed :
    (0 < (ordered 0 0).channel.val ∧ (ordered 0 0).qfOrd = 0
      ∧ line10.map.channels[(4 : Fin 32)].iFmax * 210 / 10000 < 32)
    ∧ (line10.map.line.tripBand < (deviationOf 126 0 100 0).1)
    ∧ ((deviationOf 125 0 100 0).1 ≤ line10.map.line.tripBand
      ∧ line10.map.line.warnBand < (deviationOf 125 0 100 0).1)
    ∧ ((deviationOf 110 0 100 0).1 ≤ line10.map.line.warnBand) := by decide +kernel

theorem witness_ClosureConservesCharge :
    let d := line10.newSide 2 .run .A 4
    d.aZ = totalArea d.entries ∧ 0 < d.aZ ∧ line10.zones[(2 : Fin 16)].orphanFwd + 1640 ≤ 4294967295
    ∧ line10.zones[(2 : Fin 16)].orphanRev + 247 ≤ 4294967295
    ∧ ∀ r ∈ line10.table.live, r.fwdA + 1640 ≤ 4294967295 ∧ r.fwdB + 1640 ≤ 4294967295
      ∧ r.revA + 247 ≤ 4294967295 ∧ r.revB + 247 ≤ 4294967295 := by decide +kernel

/-- Example 10 after two steps, with both classes raised and a boundary waiting. -/
def busyMajor : State := { started10 with
  attn := { started10.attn with flags := started10.attn.flags ||| Event.major.mask ||| Event.minor.mask }
  pending := [.periodBoundary 2] }

/-- Zone 2 of Example 10 with its first ORDER on the bus and a second miss counted of its channel. -/
def missing : State := enabled10.withDrive { enabled10.drive with
  channels := bankSet enabled10.drive.channels 4 { enabled10.drive.channels[(4 : Fin 32)] with misses := 2 }
  bus := some { item := .stop 4 (some 2), window := 2, phase := .waiting } }

theorem witness_RaisedClassIsLatched :
    (∃ t, step busyMajor = .next t ∧ busyMajor.attn.isSet .major = true ∧ t.attn.isSet .major = true
      ∧ busyMajor.attn.isSet .minor = true ∧ t.attn.isSet .minor = true)
    ∧ (line10.zones[(2 : Fin 16)].state = .disabled ∧ enabled10.zones[(2 : Fin 16)].state ≠ .disabled
      ∧ enabled10.zones[(2 : Fin 16)].state ≠ .faulted ∧ ServiceLaw enabled10.zones[(2 : Fin 16)]
      ∧ 4 ∈ enabled10.map.zones[(2 : Fin 16)].channels)
    ∧ (missing.inReset = false
      ∧ missing.drive.bus = some { item := .stop 4 (some 2), window := 2, phase := .waiting }
      ∧ (DriveItem.stop 4 (some 2)).addressee = some 4 ∧ BusPhase.waiting ≠ .sending
      ∧ missing.drive.channels[(4 : Fin 32)].misses = 2) :=
  ⟨⟨_, rfl, by decide +kernel, by decide +kernel, by decide +kernel, by decide +kernel⟩,
    ⟨by decide +kernel, by decide +kernel, by decide +kernel, serviceEnabled, by decide +kernel⟩, by decide +kernel⟩

/-- Example 10 after two steps, with a boundary waiting. -/
def busy : State := { started10 with pending := [.periodBoundary 2] }

theorem busy_steps : ∃ t, step busy = .next t := ⟨_, rfl⟩

theorem witness_HaltLawIsKept : HaltLaw busy := ⟨by decide +kernel, by decide +kernel, by decide +kernel⟩

/-- Example 10 after two steps leaves service with two snapshots to discard, the MARK of the STARTED one waiting. -/
theorem busy_discards :
    busy.zones[(2 : Fin 16)].pending.map (busy.discards 2) = [true, true]
    ∧ busy.drive.queue.any (isMarkOf 2 1) = true ∧ ((busy.discardedEntries 2).any fun e => e.names c1) = true := by
  decide +kernel

theorem witness_MotionLawIsKept : MotionLaw busy :=
  ⟨by decide +kernel, by decide +kernel, by decide +kernel, by decide +kernel, by decide +kernel, by decide +kernel⟩

theorem witness_MapLawIsKept : MapLaw busy := ⟨by decide +kernel, by decide +kernel⟩

theorem busy_service (z : Fin 16) (h : busy.zones[z] = Sequencer.powerOn ∨ z = 2) : ServiceLaw busy.zones[z] := by
  rcases h with h | rfl
  · rw [h]
    exact ⟨by decide, by decide, by decide, by decide, by decide, by decide⟩
  · exact serviceLaw10

theorem witness_ServiceLawIsKept : MapLaw busy ∧ ∀ z : Fin 16, ServiceLaw busy.zones[z] :=
  ⟨witness_MapLawIsKept, fun z => busy_service z (by revert z; decide +kernel)⟩

theorem witness_QueueLawIsKept : QueueLaw busy ∧ busy.drive.queue ≠ [] :=
  ⟨⟨by decide +kernel, by decide +kernel⟩, by decide +kernel⟩

theorem witness_TableLawIsKept : TableLaw busy :=
  ⟨by decide +kernel, by decide +kernel, by decide +kernel, by decide +kernel, by decide +kernel⟩

theorem busy_holds : HoldLaw busy := by
  constructor <;> decide +kernel

theorem witness_ReferenceLawIsKept :
    TableLaw busy ∧ ReferenceLaw busy ∧ MapLaw busy ∧ (∀ z : Fin 16, ServiceLaw busy.zones[z]) ∧ HoldLaw busy
    ∧ (∀ e ∈ busy.pendingEntries, e.generation ≠ busy.table.generations[e.index] + 1)
    ∧ 0 < busy.pendingEntries.length :=
  ⟨witness_TableLawIsKept, ⟨by decide +kernel, by decide +kernel⟩, witness_MapLawIsKept, witness_ServiceLawIsKept.2,
    busy_holds, by decide +kernel, by decide +kernel⟩

/-- What the statements on leaving service ask for together. -/
theorem witness_DisableZoneRequest_laws :
    TableLaw busy ∧ QueueLaw busy ∧ ServiceLaw busy.zones[(2 : Fin 16)] ∧ busy.inReset = false
    ∧ busy.link.receiver = .hunt ∧ busy.link.station = 239 ∧ busy.zones[(2 : Fin 16)].state = .running :=
  ⟨witness_TableLawIsKept, witness_QueueLawIsKept.1, serviceLaw10, rfl, by decide +kernel, by decide +kernel,
    by decide +kernel⟩

theorem witness_HaltCommands_laws :
    TableLaw busy ∧ QueueLaw busy ∧ (∀ z : Fin 16, ServiceLaw busy.zones[z]) ∧ busy.sup.halted = false :=
  ⟨witness_TableLawIsKept, witness_QueueLawIsKept.1, witness_ServiceLawIsKept.2, by decide +kernel⟩

/-- R66, R67: a record named, one that a credit of 36,000,000 mC brings to its target and one mC less does not, and an
index that names none. -/
theorem witness_ClosureConservesCharge_calls :
    (line10.table.live = [c1] ++ c2 :: [] ∧ (∀ q ∈ [c1], q.index ≠ c2.index ∨ q.generation ≠ c2.generation))
    ∧ (line10.table.live = [] ++ c1 :: [c2] ∧ c1.slot = some 0 ∧ 0 < c1.area .A ∧ c1.reached .A = none
      ∧ line10.programs[(0 : Fin 16)].qT * c1.area .A * 10 = c1.fwdA + 36000000 - c1.revA)
    ∧ findRecord line10.table.live 63 0 = none := by decide +kernel

/-- R67: the accounts of Example 10 are within their top. -/
theorem witness_ClosureConservesCharge_step :
    TableLaw busy ∧ ∀ r ∈ busy.table.live,
      r.fwdA ≤ 4294967295 ∧ r.revA ≤ 4294967295 ∧ r.fwdB ≤ 4294967295 ∧ r.revB ≤ 4294967295 :=
  ⟨witness_TableLawIsKept, by decide +kernel⟩

theorem witness_WatchLawIsKept : TableLaw busy ∧ WatchLaw busy :=
  ⟨witness_TableLawIsKept, by decide +kernel, by decide +kernel⟩

theorem witness_AttentionLawIsKept : AttentionLaw busy :=
  ⟨by decide +kernel, by decide +kernel, by decide +kernel, by decide +kernel, by decide +kernel⟩

theorem busy_line : LineRanges busy.map.line := by
  constructor <;> decide +kernel

theorem witness_RangeLawIsKept : RangeLaw busy := by
  constructor
  case line => exact busy_line
  all_goals decide +kernel

theorem witness_LineOrderLawIsKept :
    TableLaw busy ∧ MapLaw busy ∧ RangeLaw busy
    ∧ (∀ r ∈ busy.table.live, (pulsesBetween busy.pos.count r.entryMark).natAbs < 2 ^ 30)
    ∧ LineOrderLaw busy ∧ busy.table.live.length = 2 :=
  ⟨witness_TableLawIsKept, witness_MapLawIsKept, witness_RangeLawIsKept, by decide +kernel,
    ⟨by decide +kernel, by decide +kernel⟩, by decide +kernel⟩

end Sys2Proof.Tests
end

/-! Proofs about the Program Store's requests: DEFINE PROGRAM (R26), FREEZE, WITHDRAW, REINSTATE and ERASE
(R27 to R30). -/

namespace Sys2Proof.Machine

/-! ### How a listening station answers a request (R170, R173) -/

/-- The state in which an owner's step and its answer wait in the receiver as a reply. -/
def answered (addr code : Byte) (sa : State × Answer) : State :=
  sa.1.answering addr code sa.2.result sa.2.payload

@[simp] theorem answered_accept (addr code : Byte) (t : State) (payload : List Byte) :
    answered addr code (accept t payload) = t.answering addr code .accepted payload := rfl

@[simp] theorem answered_refuse (addr code : Byte) (t : State) (x : Result) :
    answered addr code (refuse t x) = t.answering addr code x [] := rfl

/-- A taken request that changes one slot. -/
@[simp] theorem answered_modifySlot (addr code : Byte) (k : Fin 16) (f : Slot → Slot) (s : State) :
    answered addr code (accept (s.modifySlot k f) [])
      = ({ s with programs := bankSet s.programs k (f s.programs[k]) } : State).answering addr code .accepted [] := rfl

@[simp] theorem answered_setSlotState (addr code : Byte) (k : Fin 16) (x : SlotState) (s : State) :
    answered addr code (setSlotState k x s)
      = ({ s with programs := bankSet s.programs k { s.programs[k] with state := x } } : State).answering
          addr code .accepted [] := answered_modifySlot ..

/-- R170, R173: at a station that listens, a request's command is its owner's step with the answer waiting. -/
theorem exec_eq_answered {s : State} {addr : Byte} (h : Listening s addr) (r : Request) :
    exec (requestCommand addr r) s = .next (answered addr (requestCode r) (serve r s)) :=
  exec_listening h r

/-! ### Numbers below a bound, and values in a range -/

theorem indexOf_byteOf {n : Nat} (bound : n ≤ 256) (k : Fin n) : indexOf n (byteOf k) = some k := by
  have same : (byteOf k).toNat = k.val := by
    rw [byteOf, BitVec.toNat_ofNat, Nat.mod_eq_of_lt (by omega)]
  simp [indexOf, same]

theorem indexOf_eq_none_iff {n : Nat} {b : Byte} : indexOf n b = none ↔ n ≤ b.toNat := by
  simp [indexOf]

theorem inRange_eq_some {w lo hi : Nat} {x : BitVec w} (low : lo ≤ x.toNat) (high : x.toNat ≤ hi) :
    inRange lo hi x = some x.toNat := if_pos ⟨low, high⟩

theorem inRange_eq_some_iff {w lo hi v : Nat} {x : BitVec w} :
    inRange lo hi x = some v ↔ (lo ≤ x.toNat ∧ x.toNat ≤ hi) ∧ x.toNat = v := by
  simp [inRange]

/-! ### The slot number (sec. 2.3) -/

theorem onSlot_byteOf (k : Fin 16) (act : Fin 16 → State × Answer) (s : State) :
    onSlot (byteOf k) act s = act k := by
  rw [onSlot, indexOf_byteOf (by decide)]

theorem onSlot_above {slot : Byte} (above : 15 < slot.toNat) (act : Fin 16 → State × Answer) (s : State) :
    onSlot slot act s = refuse s .badValue := by
  rw [onSlot, indexOf_eq_none_iff.2 above]

/-- Sec. 2.3: a request whose owner looks at the slot number first is refused for a slot above 15. -/
theorem exec_slotAbove {s : State} {addr slot : Byte} (h : Listening s addr) (above : 15 < slot.toNat)
    {r : Request} {act : Fin 16 → State × Answer} (owner : serve r s = onSlot slot act s) :
    exec (requestCommand addr r) s = .next (s.answering addr (requestCode r) .badValue []) := by
  rw [exec_eq_answered h, owner, onSlot_above above, answered_refuse]

/-! ### The values of a DEFINE PROGRAM (R24, R26) -/

/-- R24: the ranges of the charge and of the two current densities, and their order. -/
def ProgramRanges (qT jMin jMax : Half) : Prop :=
  1 ≤ qT.toNat ∧ qT.toNat ≤ 20000 ∧ 1 ≤ jMin.toNat ∧ jMin.toNat ≤ 2000
    ∧ 1 ≤ jMax.toNat ∧ jMax.toNat ≤ 2000 ∧ jMin.toNat ≤ jMax.toNat

theorem programValuesOf_byteOf (k : Fin 16) {qT jMin jMax : Half} (ranges : ProgramRanges qT jMin jMax) :
    programValuesOf (byteOf k) qT jMin jMax = some (k, qT.toNat, jMin.toNat, jMax.toNat) := by
  obtain ⟨qLow, qHigh, minLow, minHigh, maxLow, maxHigh, ordered⟩ := ranges
  simp [programValuesOf, indexOf_byteOf, inRange_eq_some qLow qHigh, inRange_eq_some minLow minHigh,
    inRange_eq_some maxLow maxHigh, ordered]

/-- What a DEFINE PROGRAM yields values from was in range. -/
theorem programValuesOf_some {slot : Byte} {qT jMin jMax : Half} {v : Fin 16 × Nat × Nat × Nat}
    (h : programValuesOf slot qT jMin jMax = some v) : slot.toNat ≤ 15 ∧ ProgramRanges qT jMin jMax := by
  simp only [programValuesOf, Option.bind_eq_bind, Option.bind_eq_some_iff, inRange_eq_some_iff,
    Option.ite_none_right_eq_some] at h
  obtain ⟨k, slotOk, _, ⟨⟨qLow, qHigh⟩, rfl⟩, _, ⟨⟨minLow, minHigh⟩, rfl⟩, _,
    ⟨⟨maxLow, maxHigh⟩, rfl⟩, ordered, -⟩ := h
  have below : ¬ 16 ≤ slot.toNat := fun above => by
    rw [indexOf_eq_none_iff.2 above] at slotOk
    cases slotOk
  exact ⟨by omega, qLow, qHigh, minLow, minHigh, maxLow, maxHigh, ordered⟩

theorem ownDefineProgram_outOfRange {slot : Byte} {qT jMin jMax : Half}
    (bad : ¬ (slot.toNat ≤ 15 ∧ ProgramRanges qT jMin jMax)) (s : State) :
    ownDefineProgram slot qT jMin jMax s = refuse s .badValue := by
  have noValues : programValuesOf slot qT jMin jMax = none :=
    Option.eq_none_iff_forall_ne_some.2 fun _ values => bad (programValuesOf_some values)
  rw [ownDefineProgram, noValues]

/-! ### The settled statements -/

/-- Settles O15: out of range there are no values to store; in range the slot's state decides. -/
theorem defineProgramRequest : Obligations.DefineProgramRequest := by
  intro addr slot qT jMin jMax s h
  have command := exec_eq_answered h (.defineProgram slot qT jMin jMax)
  refine ⟨fun bad => command.trans (congrArg _ ?_), fun k slotIs ranges => command.trans (congrArg _ ?_)⟩
  · rw [serve, ownDefineProgram_outOfRange bad, answered_refuse, requestCode]
  · subst slotIs
    rw [serve, ownDefineProgram, programValuesOf_byteOf k ranges]
    dsimp only
    cases stateIs : s.programs[k].state with
    | empty => exact answered_modifySlot ..
    | opened => simp only [answered_modifySlot, stateIs, requestCode]
    | frozen => exact answered_refuse ..
    | withdrawn => exact answered_refuse ..

/-- Settles O16: the slot number is in range and the slot's state decides, or it is not and no slot is looked at. -/
theorem slotStateRequests : Obligations.SlotStateRequests := by
  intro addr k s h
  have command (r : Request) := exec_eq_answered h r
  refine ⟨(command (.freeze (byteOf k))).trans (congrArg _ ?freeze),
    (command (.withdraw (byteOf k))).trans (congrArg _ ?withdraw),
    (command (.reinstate (byteOf k))).trans (congrArg _ ?reinstate),
    (command (.erase (byteOf k))).trans (congrArg _ ?erase),
    fun slot above => ⟨exec_slotAbove h above (r := .freeze slot) rfl,
      exec_slotAbove h above (r := .withdraw slot) rfl, exec_slotAbove h above (r := .reinstate slot) rfl,
      exec_slotAbove h above (r := .erase slot) rfl⟩⟩
  case freeze =>
    rw [serve, ownFreeze, onSlot_byteOf]
    cases s.programs[k].state with
    | empty => exact answered_refuse ..
    | opened => exact answered_setSlotState ..
    | frozen => exact answered_accept ..
    | withdrawn => exact answered_refuse ..
  case withdraw =>
    rw [serve, ownWithdraw, onSlot_byteOf]
    cases s.programs[k].state with
    | empty => exact answered_refuse ..
    | opened => exact answered_setSlotState ..
    | frozen => exact answered_setSlotState ..
    | withdrawn => exact answered_accept ..
  case reinstate =>
    rw [serve, ownReinstate, onSlot_byteOf]
    cases s.programs[k].state with
    | empty => exact answered_refuse ..
    | opened => exact answered_refuse ..
    | frozen => exact answered_refuse ..
    | withdrawn => exact answered_setSlotState ..
  case erase =>
    rw [serve, ownErase, onSlot_byteOf]
    by_cases free : s.programs[k].refs = 0
    · rw [if_neg (by omega), if_pos free]
      simp only [answered_modifySlot, free, requestCode]
    · rw [if_pos (by omega), if_neg free]
      exact answered_refuse ..

end Sys2Proof.Machine

/-! Proofs about the Carrier Table's requests: CANCEL ANNOUNCEMENT (R60), WALK FIRST and WALK NEXT (R74). -/

namespace Sys2Proof.Machine

/-! ### The first member that answers a test, and the record behind one -/

theorem find?_append_cons {α : Type} {test : α → Bool} {ahead behind : List α} {x : α}
    (passed : ∀ y ∈ ahead, test y = false) (found : test x = true) :
    (ahead ++ x :: behind).find? test = some x :=
  List.find?_eq_some_iff_append.2 ⟨found, ahead, behind, rfl, fun y mem => by rw [passed y mem]; rfl⟩

@[simp] theorem Record.named_self (r : Record) : r.named r.index r.generation = true := by
  simp [Record.named]

/-- R55: a record is another one when its index or its generation differs. -/
theorem Record.named_eq_false_iff {r : Record} {i : Fin 64} {g : BitVec 8} :
    r.named i g = false ↔ r.index ≠ i ∨ r.generation ≠ g := by
  simp [Record.named, imp_iff_not_or]

theorem findRecord_append_cons {ahead behind : List Record} {r : Record}
    (others : ∀ q ∈ ahead, q.named r.index r.generation = false) :
    findRecord (ahead ++ r :: behind) r.index r.generation = some r :=
  find?_append_cons others r.named_self

/-- R57: the successor of a record of the line is the first one behind it. -/
theorem successorOf_append_cons {ahead behind : List Record} {r : Record}
    (others : ∀ q ∈ ahead, q.named r.index r.generation = false) :
    successorOf r.index r.generation (ahead ++ r :: behind) = behind.head? := by
  induction ahead with
  | nil => simp [successorOf]
  | cons q ahead ih =>
    obtain ⟨other, others⟩ := List.forall_mem_cons.1 others
    simpa [successorOf, other] using ih others

/-! ### Tags (R56) and the cancelling of an announcement (R60) -/

theorem tagOf_zero : tagOf 0 = none := rfl

/-- R56: every tag but 0 can be a carrier's. -/
theorem tagOf_of_ne_zero {tag : Half} (nonzero : tag ≠ 0) : tagOf tag = some tag.toNat := by
  have positive : tag.toNat ≠ 0 := fun zero => nonzero (BitVec.eq_of_toNat_eq zero)
  have bound : tag.toNat < 65536 := tag.isLt
  exact inRange_eq_some (by omega) (by omega)

theorem ownCancel_zero (s : State) : ownCancel 0 s = refuse s .badValue := by
  rw [ownCancel, tagOf_zero]

theorem ownCancel_notHeld {tag : Half} {s : State} (nonzero : tag ≠ 0)
    (free : ∀ a ∈ s.table.queue, a.tag ≠ tag.toNat) : ownCancel tag s = refuse s .noSuchTag := by
  have noneHolds : (s.table.queue.find? fun a => a.tag == tag.toNat) = none :=
    List.find?_eq_none.2 fun a mem => by simpa using free a mem
  simp only [ownCancel, tagOf_of_ne_zero nonzero, noneHolds]

/-- R60: the announcement is removed wherever it stands in the queue. -/
theorem ownCancel_held {tag : Half} {s : State} {ahead behind : List Announcement} {a : Announcement}
    (nonzero : tag ≠ 0) (queued : s.table.queue = ahead ++ a :: behind) (holds : a.tag = tag.toNat)
    (passed : ∀ b ∈ ahead, b.tag ≠ tag.toNat) :
    ownCancel tag s = accept
      (releaseProgram a.slot (s.withTable { s.table with queue := ahead ++ behind }))
      (nat1 (ahead.length + behind.length)) := by
  have others : ∀ b ∈ ahead, (b.tag == tag.toNat) = false := fun b mem => by simpa using passed b mem
  have matching : (a.tag == tag.toNat) = true := by simpa using holds
  simp only [ownCancel, tagOf_of_ne_zero nonzero, queued,
    find?_append_cons (test := fun b : Announcement => b.tag == tag.toNat) others matching,
    removeFirst_append (test := fun b : Announcement => b.tag == tag.toNat) others matching, List.length_append]

/-! ### The walk (R74) -/

/-- R74: a cursor ahead of a record of the line gives WALK NEXT that record. -/
theorem nextOnWalk_aheadOf {s : State} {ahead behind : List Record} {r : Record}
    (line : s.table.live = ahead ++ r :: behind)
    (others : ∀ q ∈ ahead, q.named r.index r.generation = false)
    (cursor : s.table.cursor = .aheadOf r.index r.generation) : s.nextOnWalk = some r := by
  simp only [State.nextOnWalk, cursor, line, findRecord_append_cons others]

/-- R74: a cursor at a record of the line gives WALK NEXT its successor, if it has one. -/
theorem nextOnWalk_atRecord {s : State} {ahead behind : List Record} {r : Record}
    (line : s.table.live = ahead ++ r :: behind)
    (others : ∀ q ∈ ahead, q.named r.index r.generation = false)
    (cursor : s.table.cursor = .atRecord r.index r.generation) : s.nextOnWalk = behind.head? := by
  simp only [State.nextOnWalk, cursor, line, successorOf_append_cons others]

theorem nextOnWalk_nowhere {s : State} (cursor : s.table.cursor = .nowhere) : s.nextOnWalk = none := by
  simp only [State.nextOnWalk, cursor]

/-- R74: a walk that returns a record answers with it and sets the cursor at it. -/
theorem answered_answerWalk_some (addr code : Byte) (r : Record) (s : State) :
    answered addr code (answerWalk (some r) s)
      = ({ s with table := { s.table with cursor := .atRecord r.index r.generation } } : State).answering
          addr code .accepted (0 :: s.recordPayload r) := by
  have payload : nat1 0 ++ s.recordPayload r = 0 :: s.recordPayload r := List.singleton_append
  rw [answerWalk, answered_accept, payload, State.withTable]

/-- R74: a walk that returns none answers END and sets the cursor to none. -/
theorem answered_answerWalk_none (addr code : Byte) (s : State) :
    answered addr code (answerWalk none s)
      = ({ s with table := { s.table with cursor := .nowhere } } : State).answering addr code .accepted [1] := rfl

/-! ### The settled statements -/

/-- Settles O21: the tag is 0, or no announcement holds it, or the first that does is removed and its slot released. -/
theorem cancelRequest : Obligations.CancelRequest := by
  intro addr tag s h
  have command := exec_eq_answered h (.cancelAnnouncement tag)
  refine ⟨fun zero => command.trans (congrArg _ ?_), fun nonzero free => command.trans (congrArg _ ?_),
    fun ahead behind a nonzero queued holds passed => command.trans (congrArg _ ?_)⟩
  · rw [serve, zero, ownCancel_zero, answered_refuse, requestCode]
  · rw [serve, ownCancel_notHeld nonzero free, answered_refuse, requestCode]
  · rw [serve, ownCancel_held nonzero queued holds passed, answered_accept, requestCode]
    cases a.slot with
    | none => rfl
    | some k => rfl

/-- Settles O26: the record that the line or the cursor gives decides between a record returned and END. -/
theorem walkRequests : Obligations.WalkRequests := by
  intro addr s h
  have first := exec_eq_answered h .walkFirst
  have next := exec_eq_answered h .walkNext
  rw [serve, ownWalkFirst] at first
  rw [serve, ownWalkNext] at next
  refine ⟨first.trans ?_, fun cursor => next.trans (congrArg _ ?_), fun ahead behind r line distinct => ?_⟩
  · cases s.table.live with
    | nil => exact congrArg _ (answered_answerWalk_none ..)
    | cons r rest => exact congrArg _ (answered_answerWalk_some ..)
  · rw [nextOnWalk_nowhere cursor]
    exact answered_answerWalk_none ..
  · have others : ∀ q ∈ ahead, q.named r.index r.generation = false :=
      fun q mem => Record.named_eq_false_iff.2 (distinct q mem)
    refine ⟨fun cursor => next.trans (congrArg _ ?_), fun cursor => next.trans ?_⟩
    · rw [nextOnWalk_aheadOf line others cursor]
      exact answered_answerWalk_some ..
    · rw [nextOnWalk_atRecord line others cursor]
      cases behind with
      | nil => exact congrArg _ (answered_answerWalk_none ..)
      | cons q rest => exact congrArg _ (answered_answerWalk_some ..)

end Sys2Proof.Machine

/-! Proofs about the Regulation Monitor: the deviation of a measured side (R140), current without order (R141) and the
class of a hand-off (R142). -/

namespace Sys2Proof.Machine

/-! ### The deviation (R140) -/

/-- R140: a charge above the order and one below it by the same amount give the same figure. -/
theorem directionalDeviation_eq_natAbs (q qOrd : Nat) :
    directionalDeviation q qOrd = if qOrd = 0 then 0 else min 999 (((q : Int) - qOrd).natAbs * 100 / qOrd) := by
  have gap : max q qOrd - min q qOrd = ((q : Int) - qOrd).natAbs := by omega
  rw [directionalDeviation, gap]

/-- R140: the deviation is the larger figure, and its phase is FORWARD on a tie. -/
theorem deviationOf_eq_max (qf qr qfOrd qrOrd : Nat) :
    deviationOf qf qr qfOrd qrOrd
      = (max (directionalDeviation qf qfOrd) (directionalDeviation qr qrOrd),
          if directionalDeviation qr qrOrd ≤ directionalDeviation qf qfOrd then .forward else .reverse) := by
  rcases Nat.lt_or_ge (directionalDeviation qf qfOrd) (directionalDeviation qr qrOrd) with below | atLeast
  · simp only [deviationOf, if_pos below, max_eq_right below.le, if_neg below.not_ge]
  · simp only [deviationOf, if_neg atLeast.not_gt, max_eq_left atLeast, if_pos atLeast]

/-! ### The class of a hand-off (R141, R142) -/

/-- R141: current flowed on a side that was ordered at zero, beyond its allowance. -/
def State.FlowsWithoutOrder (s : State) (d : Side) (qf : Nat) : Prop :=
  d.qfOrd = 0 ∧ zeroAllowance s.map.channels[d.channel].iFmax d.order.period < qf

/-- R142: the case that a class of a hand-off carries. -/
def measuredCase (z : Fin 16) (mode : Mode) (d : Side) (cause : Cause) (amount : Nat) (phase : DevPhase) : Case :=
  { cause := cause, zone := some z, channel := d.channel, mode := some mode, deviation := some amount,
    phase := some phase }

section
variable {s : State} {z : Fin 16} {mode : Mode} {d : Side} {qf qr amount : Nat} {phase : DevPhase}

theorem classify_flowsWithoutOrder (flows : s.FlowsWithoutOrder d qf) :
    s.classify z mode d qf qr = .major (measuredCase z mode d .noOrder 999 .forward) :=
  if_pos flows

/-- R142: a side that is no NO_ORDER case is classed by where its deviation stands against the two bands. -/
theorem classify_of_deviation (ordered : ¬ s.FlowsWithoutOrder d qf)
    (deviates : deviationOf qf qr d.qfOrd d.qrOrd = (amount, phase)) :
    s.classify z mode d qf qr
      = if s.map.line.tripBand < amount then .major (measuredCase z mode d .deviation amount phase)
        else if s.map.line.warnBand < amount then .minor (measuredCase z mode d .deviation amount phase)
        else .nothing := by
  rw [State.classify, deviates]
  exact if_neg ordered

end

/-! ### The settled statement -/

/-- Settles O46: the NO_ORDER test decides first, then the deviation against the trip band, then the warn band. -/
theorem measuredSideIsClassed : Obligations.MeasuredSideIsClassed := by
  intro s z m d qf qr figure f r period noOrder case phase
  have deviates : deviationOf qf qr d.qfOrd d.qrOrd = (max f r, phase) := by
    rw [deviationOf_eq_max, directionalDeviation_eq_natAbs, directionalDeviation_eq_natAbs]
  have classed (ordered : ¬ noOrder) := classify_of_deviation (z := z) (mode := m) ordered deviates
  refine ⟨classify_flowsWithoutOrder, fun ordered trips => ?_, fun ordered inTrip warns => ?_,
    fun ordered inTrip inWarn => ?_⟩
  · exact (classed ordered).trans (if_pos trips)
  · exact (classed ordered).trans ((if_neg inTrip.not_gt).trans (if_pos warns))
  · exact (classed ordered).trans ((if_neg inTrip.not_gt).trans (if_neg inWarn.not_gt))

end Sys2Proof.Machine

/-! What one step can do: the inversion lemma from which each law that a step keeps is derived. -/

namespace Sys2Proof.Machine

/-! ### What the receiver does (R165 to R173) -/

/-- R175: an error counter stays, or counts one more. -/
def Counts (old new : Nat) : Prop := new = old ∨ new = satAdd Config.byteTop old 1

/-- R165, R175: what the receiver alone does to the plant link: the station and the speed stay, and each error counter
counts at most one more. -/
structure LinkMoves (l l' : PlantLink) : Prop where
  station : l'.station = l.station
  baud : l'.baud = l.baud
  crcErrors : Counts l.crcErrors l'.crcErrors
  framingErrors : Counts l.framingErrors l'.framingErrors
  overruns : Counts l.overruns l'.overruns
  groupMisuse : Counts l.groupMisuse l'.groupMisuse

/-- The receiver and what is kept of a break, replaced together. -/
def State.relinked (s : State) (rc : Receiver) (b : LineBreak) : State :=
  s.withLink { s.link with receiver := rc, lineBreak := b }

/-- R165 to R173: what the receiver makes of what arrives: a request goes to its owner, or the plant link alone moves,
with LINK raised or not. -/
inductive Received (s : State) : State → Prop where
  | served (r : Request) (rc : Receiver) (b : LineBreak) : Received s ((serve r s).1.relinked rc b)
  | moved (l : PlantLink) (h : LinkMoves s.link l) : Received s (s.withLink l)
  | raised (l : PlantLink) (h : LinkMoves s.link l) : Received s (raise .link (s.withLink l))

theorem Counts.refl (n : Nat) : Counts n n := .inl rfl

theorem Received.relinked {s t : State} (h : Received s t) (rc : Receiver) (b : LineBreak) :
    Received s (t.relinked rc b) := by
  cases h with
  | served r _ _ => exact .served r rc b
  | moved l h => exact .moved { l with receiver := rc, lineBreak := b } ⟨h.1, h.2, h.3, h.4, h.5, h.6⟩
  | raised l h => exact .raised { l with receiver := rc, lineBreak := b } ⟨h.1, h.2, h.3, h.4, h.5, h.6⟩

section
variable (s : State)

theorem received_still : Received s s := .moved s.link ⟨rfl, rfl, .refl _, .refl _, .refl _, .refl _⟩

/-- The counters move as these operations say, and the receiver with what is kept of a break as the caller says. -/
theorem received_countCrc (rc : Receiver) (b : LineBreak) : Received s ((countCrc s).relinked rc b) :=
  .raised { s.link with crcErrors := satAdd Config.byteTop s.link.crcErrors 1, receiver := rc, lineBreak := b }
    ⟨rfl, rfl, .inr rfl, .refl _, .refl _, .refl _⟩

theorem received_countFraming (rc : Receiver) (b : LineBreak) : Received s ((countFraming s).relinked rc b) :=
  .raised
    { s.link with framingErrors := satAdd Config.byteTop s.link.framingErrors 1, receiver := rc, lineBreak := b }
    ⟨rfl, rfl, .refl _, .inr rfl, .refl _, .refl _⟩

theorem received_countMisuse (rc : Receiver) (b : LineBreak) : Received s ((countMisuse s).relinked rc b) :=
  .raised { s.link with groupMisuse := satAdd Config.byteTop s.link.groupMisuse 1, receiver := rc, lineBreak := b }
    ⟨rfl, rfl, .refl _, .refl _, .refl _, .inr rfl⟩

theorem received_countOverrun (rc : Receiver) (b : LineBreak) : Received s ((countOverrun s).relinked rc b) :=
  .raised { s.link with overruns := satAdd Config.byteTop s.link.overruns 1, receiver := rc, lineBreak := b }
    ⟨rfl, rfl, .refl _, .refl _, .inr rfl, .refl _⟩

theorem received_relinked (rc : Receiver) (b : LineBreak) : Received s (s.relinked rc b) :=
  (received_still s).relinked rc b

theorem received_overrunNow : Received s (overrunNow s) := by
  unfold overrunNow
  split
  · exact received_countOverrun s _ _
  · exact received_still s

theorem received_abandonFrame : Received s (abandonFrame s) := received_countFraming s .hunt s.link.lineBreak

theorem received_abandonOnBreak : Received s (abandonOnBreak s) := received_countFraming s .hunt _

theorem received_deliver (addr : Byte) (r : Request) : Received s (deliver addr r s) := by
  unfold deliver
  split
  · exact .served r _ (serve r s).1.link.lineBreak
  · unfold takeGroup
    split
    · exact .served r .hunt (serve r s).1.link.lineBreak
    · exact received_countMisuse s .hunt s.link.lineBreak
  · exact received_relinked s .hunt s.link.lineBreak

theorem received_rejectUnparsed (addr code : Byte) (x : Result) : Received s (rejectUnparsed addr code x s) := by
  unfold rejectUnparsed
  split
  · exact received_relinked s _ s.link.lineBreak
  · exact received_countMisuse s .hunt s.link.lineBreak
  · exact received_relinked s .hunt s.link.lineBreak

theorem received_judgeFrame (frame : List Byte) : Received s (judgeFrame frame s) := by
  unfold judgeFrame
  split
  · split
    · exact received_countCrc s .hunt s.link.lineBreak
    · split
      · exact received_relinked s .hunt s.link.lineBreak
      · split
        · exact received_rejectUnparsed ..
        · exact received_rejectUnparsed ..
        · exact received_deliver ..
  · exact received_relinked s .hunt s.link.lineBreak

theorem received_arriving (frame : List Byte) {outcome : State → State} (h : Received s (outcome s)) :
    Received s (arriving frame outcome s) := by
  unfold arriving
  split
  · exact h.relinked (outcome s).link.receiver _
  · split
    · exact h
    · exact received_still s
  · exact received_overrunNow s

theorem received_character (c : Character) : Received s (receiveCharacter c s) := by
  unfold receiveCharacter
  split
  · unfold huntCharacter
    dsimp only
    split
    · exact received_relinked s _ _
    · exact received_relinked s s.link.receiver _
  · unfold frameCharacter
    split
    · exact received_abandonOnBreak s
    · split
      · exact received_abandonFrame s
      · unfold takeIntoFrame
        split
        · exact received_abandonFrame s
        · split
          · exact received_judgeFrame ..
          · exact received_relinked s _ s.link.lineBreak
  · exact received_overrunNow s

theorem received_abandonFor (cause : AbandonCause) : Received s (abandonFor cause s) := by
  unfold abandonFor
  split
  · exact received_abandonOnBreak s
  · exact received_abandonOnBreak s
  · exact received_abandonFrame s
  · exact received_abandonFrame s
  · exact received_still s

theorem received_gapExpires : Received s (gapExpires s) := by
  unfold gapExpires
  split
  · exact received_abandonFrame s
  · exact received_still s

theorem received_countBreak : Received s (countBreak s) := by
  unfold countBreak
  split
  · exact received_abandonFrame s
  · exact received_still s
  · exact received_still s
  · exact received_countFraming s s.link.receiver s.link.lineBreak
  · exact received_overrunNow s

theorem received_breakReached : Received s (breakReached s) :=
  (received_countBreak s).relinked (countBreak s).link.receiver .counted

theorem received_turnaroundEnds : Received s (turnaroundEnds s) := by
  unfold turnaroundEnds
  split
  · exact received_relinked s _ s.link.lineBreak
  · exact received_still s

theorem received_replyHasGone : Received s (replyHasGone s) := by
  unfold replyHasGone
  split
  · exact received_relinked s _ s.link.lineBreak
  · exact received_still s

theorem received_completeFrame (frame : List Byte) :
    Received s (if wholeLinkFrame frame then arriving frame (judgeFrame frame) s else s) := by
  split
  · exact received_arriving s frame (received_judgeFrame s frame)
  · exact received_still s

end

/-! ### What a step does -/

/-- What the event at the pins, on the drive bus or of a timer that a command stands for makes of an awake part. -/
inductive Happened (s : State) : State → Prop where
  | encoder (sense : QuadSense) : Happened s (encoderStep sense s)
  | stopTimer : Happened s (stopTimerExpires s)
  | parkTimer : Happened s (parkTimerExpires s)
  | edge (which : Sensor) : Happened s (takeEdge which s)
  | otherEdge (which : Sensor) (high : Bool) :
    Happened s (s.withPos (s.pos.withSensor which { s.pos.sensor which with high := high }))
  | skipped (a b : Bool) : Happened s (s.withPos { s.pos with encA := a, encB := b })
  | haltActive : Happened s (haltLine (s.withSup { s.sup with haltNActive := true }))
  | haltInactive : Happened s (s.withSup { s.sup with haltNActive := false })
  | period (z : Fin 16) : Happened s (periodTimerExpires z s)
  | restart (z : Fin 16) : Happened s (restartTimerExpires z s)
  | frameSent : Happened s (frameSent s)
  | replyBegun : Happened s (replyBegun s)
  | goodEnd (item : DriveItem) (c : Fin 32) (st : ReplyStatus) (rbs : List Readback)
    (awaits : s.awaiting = some (item, c)) : Happened s (goodEnd item c st rbs s)
  | badEnd (item : DriveItem) (c : Fin 32) (how : TransactionEnd) (awaits : s.awaiting = some (item, c)) :
    Happened s (badEnd item c how s)
  | pulseTimer : Happened s (s.withAttn { s.attn with pulseOn := false })
  | reminderTimer : Happened s (s.withAttn s.attn.reminderExpires)

/-- What a command other than a power-on reset makes of the part: nothing, RESET_N going low, or for an awake part an
event or something received. -/
inductive Moved (s : State) : State → Prop where
  | still : Moved s s
  | resetLow : Moved s { s.cutShort with inReset := true }
  | event {t : State} (awake : s.inReset = false) (h : Happened s t) : Moved s t
  | link {t : State} (awake : s.inReset = false) (h : Received s t) : Moved s t

/-- What one command makes of the part: nothing, a reset, or for an awake part an event or something received. -/
inductive Stepped (s : State) : State → Prop where
  | still : Stepped s s
  | powerOn (pins : Pins) (high : pins.haltNHigh = true) : Stepped s (powerOnState pins s.pending)
  | powerOnHalted (pins : Pins) : Stepped s (haltLine (powerOnState pins s.pending))
  | resetLow : Stepped s { s.cutShort with inReset := true }
  | event {t : State} (awake : s.inReset = false) (h : Happened s t) : Stepped s t
  | link {t : State} (awake : s.inReset = false) (h : Received s t) : Stepped s t

theorem Moved.stepped {s t : State} (h : Moved s t) : Stepped s t := by
  cases h with
  | still => exact .still
  | resetLow => exact .resetLow
  | event awake h => exact .event awake h
  | link awake h => exact .link awake h

/-- R160: an event is taken by an awake part, and changes nothing while RESET_N is low. -/
theorem takes_cases {s t : State} {f : State → State} (h : s.takes f = .next t) :
    t = s ∨ (s.inReset = false ∧ t = f s) := by
  unfold State.takes at h
  obtain rfl := Host.Outcome.next.inj h
  cases awake : s.inReset
  · exact .inr ⟨rfl, by simp⟩
  · exact .inl (by simp)

theorem moved_event {s t : State} {f : State → State} (h : s.takes f = .next t)
    (hf : Happened s (f s) ∨ f s = s) : Moved s t := by
  rcases takes_cases h with rfl | ⟨awake, rfl⟩
  · exact .still
  · rcases hf with happened | still
    · exact .event awake happened
    · exact still.symm ▸ .still

theorem moved_link {s t : State} {f : State → State} (h : s.takes f = .next t) (hf : Received s (f s)) :
    Moved s t := by
  rcases takes_cases h with rfl | ⟨awake, rfl⟩
  · exact .still
  · exact .link awake hf

theorem happened_replyEnds (data : List Byte) (parity : List Bool) (s : State) :
    Happened s (replyEnds data parity s) ∨ replyEnds data parity s = s := by
  unfold replyEnds
  split
  · rename_i item c awaits
    refine .inl ?_
    cases judgeReply data parity c with
    | good st rbs => exact .goodEnd item c st rbs awaits
    | wrongChannel => exact .badEnd item c _ awaits
    | garbled => exact .badEnd item c _ awaits
  · exact .inr rfl

theorem happened_replyBreaksOff (s : State) : Happened s (replyBreaksOff s) ∨ replyBreaksOff s = s := by
  unfold replyBreaksOff
  split
  · exact .inl (.badEnd _ _ _ ‹_›)
  · exact .inr rfl

theorem happened_windowEnds (s : State) : Happened s (windowEnds s) ∨ windowEnds s = s := by
  unfold windowEnds
  split
  · rename_i b bus
    split
    · rename_i waiting
      split
      · rename_i c addressee
        exact .inl (.badEnd b.item c .missing (by simp [State.awaiting, bus, waiting, addressee]))
      · exact .inr rfl
    · exact .inr rfl
  · exact .inr rfl

theorem moved_request {s t : State} (addr : Byte) (r : Request) (h : exec (requestCommand addr r) s = .next t) :
    Moved s t := by
  rw [exec_requestCommand] at h
  exact moved_link h (received_arriving s _ (received_deliver s addr r))

/-- Every command but a power-on reset does one of these things. -/
theorem moved_of_exec {i : Instr} {s t : State} (notPower : ∀ pins, i ≠ .powerOnReset pins) (h : exec i s = .next t) :
    Moved s t := by
  cases i with
  | powerOnReset pins => exact absurd rfl (notPower pins)
  | resetNLow => exact Host.Outcome.next.inj h ▸ .resetLow
  | encoderPulse sense => exact moved_event h (.inl (.encoder sense))
  | stopTimerExpiry => exact moved_event h (.inl .stopTimer)
  | parkTimerExpiry => exact moved_event h (.inl .parkTimer)
  | sensorEdge which => exact moved_event h (.inl (.edge which))
  | sensorOtherEdge which =>
    exact moved_event (f := fun s => s.withPos (s.pos.withSensor which
      { s.pos.sensor which with high := !(s.map.line.edge which).levelAfter })) h (.inl (.otherEdge which _))
  | skippedState =>
    exact moved_event (f := fun s => s.withPos { s.pos with encA := !s.pos.encA, encB := !s.pos.encB }) h
      (.inl (.skipped _ _))
  | haltNActive =>
    exact moved_event (f := fun s => haltLine (s.withSup { s.sup with haltNActive := true })) h (.inl .haltActive)
  | haltNInactive =>
    exact moved_event (f := fun s => s.withSup { s.sup with haltNActive := false }) h (.inl .haltInactive)
  | periodBoundary z => exact moved_event h (.inl (.period z))
  | restartTimerExpiry z => exact moved_event h (.inl (.restart z))
  | driveFrameSent => exact moved_event h (.inl .frameSent)
  | replyBegins => exact moved_event h (.inl .replyBegun)
  | replyFrameEnd data parity => exact moved_event h (happened_replyEnds data parity s)
  | replyBrokenOff => exact moved_event h (happened_replyBreaksOff s)
  | replyWindowEnd => exact moved_event h (happened_windowEnds s)
  | pulseTimerExpiry =>
    exact moved_event (f := fun s => s.withAttn { s.attn with pulseOn := false }) h (.inl .pulseTimer)
  | reminderTimerExpiry =>
    exact moved_event (f := fun s => s.withAttn s.attn.reminderExpires) h (.inl .reminderTimer)
  | completeFrame frame =>
    exact moved_link (f := fun s => if wholeLinkFrame frame then arriving frame (judgeFrame frame) s else s) h
      (received_completeFrame s frame)
  | characterReceived data parity stop => exact moved_link h (received_character s _)
  | abandonment cause => exact moved_link h (received_abandonFor s cause)
  | gap => exact moved_link h (received_gapExpires s)
  | lineBreak => exact moved_link h (received_breakReached s)
  | lineReturnsToIdle =>
    exact moved_link (f := fun s => s.withLineBreak .clear) h (received_relinked s s.link.receiver .clear)
  | overrun => exact moved_link h (received_overrunNow s)
  | turnaround => exact moved_link h (received_turnaroundEnds s)
  | replySent => exact moved_link h (received_replyHasGone s)
  | setZone addr f => exact moved_request addr (.setZone f) h
  | setChannel addr c iF iR => exact moved_request addr (.setChannel c iF iR) h
  | setLine addr f => exact moved_request addr (.setLine f) h
  | setProfile addr f => exact moved_request addr (.setProfile f) h
  | readMap addr selector item => exact moved_request addr (.readMap selector item) h
  | mapAccess addr operation => exact moved_request addr (.mapAccess operation) h
  | defineProgram addr slot qT lo hi => exact moved_request addr (.defineProgram slot qT lo hi) h
  | readProgram addr slot => exact moved_request addr (.readProgram slot) h
  | freeze addr slot => exact moved_request addr (.freeze slot) h
  | withdraw addr slot => exact moved_request addr (.withdraw slot) h
  | reinstate addr slot => exact moved_request addr (.reinstate slot) h
  | erase addr slot => exact moved_request addr (.erase slot) h
  | setSpeed addr speed => exact moved_request addr (.setSpeed speed) h
  | readPosition addr clear => exact moved_request addr (.readPosition clear) h
  | announce addr f => exact moved_request addr (.announce f) h
  | cancelAnnouncement addr tag => exact moved_request addr (.cancelAnnouncement tag) h
  | lookup addr selector key => exact moved_request addr (.lookup selector key) h
  | amend addr f => exact moved_request addr (.amend f) h
  | identify addr index generation tag slot => exact moved_request addr (.identify index generation tag slot) h
  | place addr f => exact moved_request addr (.place f) h
  | retire addr selector key => exact moved_request addr (.retire selector key) h
  | walkFirst addr => exact moved_request addr .walkFirst h
  | walkNext addr => exact moved_request addr .walkNext h
  | readQueue addr => exact moved_request addr .readQueue h
  | enableZone addr zone => exact moved_request addr (.enableZone zone) h
  | disableZone addr zone => exact moved_request addr (.disableZone zone) h
  | readZone addr zone => exact moved_request addr (.readZone zone) h
  | readChannel addr channel clear => exact moved_request addr (.readChannel channel clear) h
  | readFaults addr => exact moved_request addr .readFaults h
  | halt addr => exact moved_request addr .halt h
  | resume addr => exact moved_request addr .resume h
  | resetLine addr => exact moved_request addr .resetLine h
  | setAddress addr address group => exact moved_request addr (.setAddress address group) h
  | readLink addr => exact moved_request addr .readLink h
  | readEvents addr => exact moved_request addr .readEvents h
  | clearEvents addr mask => exact moved_request addr (.clearEvents mask) h
  | setAttention addr mask mode interval => exact moved_request addr (.setAttention mask mode interval) h

/-- Every command does one of these things. -/
theorem stepped_of_exec {i : Instr} {s t : State} (h : exec i s = .next t) : Stepped s t := by
  by_cases power : ∃ pins, i = .powerOnReset pins
  · obtain ⟨pins, rfl⟩ := power
    obtain rfl := Host.Outcome.next.inj h
    split
    · exact .powerOn pins ‹_›
    · exact .powerOnHalted pins
  · exact (moved_of_exec (fun pins same => power ⟨pins, same⟩) h).stepped

/-- A step takes one command from the front of the queue, or idles. -/
theorem stepped_of_step {s t : State} (h : step s = .next t) :
    ∃ waiting : List Instr, Stepped { s with pending := waiting } t := by
  unfold step at h
  split at h
  · obtain rfl := Host.Outcome.next.inj h
    exact ⟨s.pending, .still⟩
  · exact ⟨_, stepped_of_exec h⟩

end Sys2Proof.Machine

/-! What the work of the part does at most, whatever it is for: the watches, the calls of the Carrier Table, the
closures, the posts and the steps of the zones change a record, a counter or the drive queue only in these ways and raise
only these events. Each law that speaks of one of these takes it from here. -/

namespace Sys2Proof.Machine

/-! ### The steps of leaving service -/

/-- R83: the zone's new state, with both timers stopped. -/
def stopTimers (z : Fin 16) (x : ZoneState) (s : State) : State :=
  s.modifyZone z fun q => { q with state := x, periodTimer := none, restartTimer := none }

/-- R83, R80: the STARTED snapshot is discarded while its MARK still waits. -/
def discardIfMarkWaits (z : Fin 16) (s : State) : State :=
  match s.zones[z].pending.find? Snapshot.isStarted with
  | some n => if waits (isMarkOf z n.seq) s then discardSnapshot z Snapshot.isStarted s else s
  | none => s

/-- R83, R80: what is left when leaving service has discarded what it discards. -/
def stopAndDiscard (z : Fin 16) (x : ZoneState) (s : State) : State :=
  discardSnapshot z Snapshot.isUnstarted (discardIfMarkWaits z (stopTimers z x s))

@[simp] theorem stopAndDiscard_keeps (z : Fin 16) (x : ZoneState) (s : State) :
    (stopAndDiscard z x s).map = s.map ∧ (stopAndDiscard z x s).programs = s.programs ∧
    (stopAndDiscard z x s).pos = s.pos ∧ (stopAndDiscard z x s).monitor = s.monitor ∧
    (stopAndDiscard z x s).sup = s.sup ∧ (stopAndDiscard z x s).link = s.link ∧
    (stopAndDiscard z x s).inReset = s.inReset ∧ (stopAndDiscard z x s).pending = s.pending := by
  unfold stopAndDiscard discardIfMarkWaits stopTimers
  repeat' split
  all_goals simp

/-- R83: a zone leaves service in these steps, and posts no STOP where the line is halted. -/
theorem leaveService_eq (z : Fin 16) (x : ZoneState) (s : State) :
    leaveService z x s = if x = .halted then stopAndDiscard z x s
      else postStops s.map.zones[z].channels (some z) (stopAndDiscard z x s) := by
  have sameMap : (stopAndDiscard z x s).map = s.map := by simp
  unfold leaveService
  dsimp only
  split
  · rw [if_pos rfl]
    unfold stopAndDiscard discardIfMarkWaits stopTimers
    rfl
  · rename_i other
    rw [if_neg other, ← sameMap]
    unfold stopAndDiscard discardIfMarkWaits stopTimers
    rfl

/-! ### Raised events -/

/-- R178: the Attention Unit after some of these events, and no other, have been raised. -/
def Raises (events : List Event) (a b : Attention) : Prop :=
  ∃ raised : List Event, raised ⊆ events ∧ b = raised.foldl Attention.raiseFlag a

theorem Raises.refl (events : List Event) (a : Attention) : Raises events a a := ⟨[], by simp, rfl⟩

theorem Raises.raise {events : List Event} {e : Event} (mem : e ∈ events) (a : Attention) :
    Raises events a (a.raiseFlag e) := ⟨[e], by simpa using mem, rfl⟩

theorem Raises.trans {events : List Event} {a b c : Attention} (h : Raises events a b) (k : Raises events b c) :
    Raises events a c := by
  obtain ⟨l, hl, rfl⟩ := h
  obtain ⟨m, hm, rfl⟩ := k
  exact ⟨l ++ m, List.append_subset.2 ⟨hl, hm⟩, by rw [List.foldl_append]⟩

theorem Raises.mono {events more : List Event} {a b : Attention} (h : Raises events a b) (sub : events ⊆ more) :
    Raises more a b := by
  obtain ⟨l, hl, e⟩ := h
  exact ⟨l, fun _ mem => sub (hl mem), e⟩

/-- What every raise keeps, all the raises keep. -/
theorem Raises.induct {events : List Event} {a b : Attention} (P : Attention → Prop) (h : Raises events a b)
    (start : P a) (each : ∀ e ∈ events, ∀ c, P c → P (c.raiseFlag e)) : P b := by
  obtain ⟨l, hl, rfl⟩ := h
  induction l generalizing a with
  | nil => exact start
  | cons e l ih =>
    obtain ⟨he, hl⟩ := List.cons_subset.1 hl
    exact ih (each e he a start) hl

/-! ### One record -/

/-- What the work does at most to a live record: no account smaller and none past its top, no plating-closed mark taken
back, no record TRACKING again, and nothing of what it was made of changed. -/
structure Record.Worked (r r' : Record) : Prop where
  index : r'.index = r.index
  generation : r'.generation = r.generation
  tag : r'.tag = r.tag
  entryMark : r'.entryMark = r.entryMark
  length : r'.length = r.length
  areaA : r'.areaA = r.areaA
  areaB : r'.areaB = r.areaB
  slot : r'.slot = r.slot
  accounts : ∀ f : Face, (r.fwd f ≤ Config.accountTop → r.fwd f ≤ r'.fwd f ∧ r'.fwd f ≤ Config.accountTop)
    ∧ (r.rev f ≤ Config.accountTop → r.rev f ≤ r'.rev f ∧ r'.rev f ≤ Config.accountTop)
  closed : r.platingClosed = true → r'.platingClosed = true
  tracking : r'.state = .tracking → r.state = .tracking
  gap : r.marks.gap = true → r'.marks.gap = true
  estimated : r.marks.estimated = true → r'.marks.estimated = true

theorem Record.Worked.refl (r : Record) : r.Worked r :=
  ⟨rfl, rfl, rfl, rfl, rfl, rfl, rfl, rfl, fun _ => ⟨fun h => ⟨le_rfl, h⟩, fun h => ⟨le_rfl, h⟩⟩, id, id, id, id⟩

theorem Record.Worked.trans {r s t : Record} (h : r.Worked s) (k : s.Worked t) : r.Worked t where
  index := k.index.trans h.index
  generation := k.generation.trans h.generation
  tag := k.tag.trans h.tag
  entryMark := k.entryMark.trans h.entryMark
  length := k.length.trans h.length
  areaA := k.areaA.trans h.areaA
  areaB := k.areaB.trans h.areaB
  slot := k.slot.trans h.slot
  accounts f := by
    obtain ⟨hf, hr⟩ := h.accounts f
    obtain ⟨kf, kr⟩ := k.accounts f
    exact ⟨fun le => ⟨(hf le).1.trans (kf (hf le).2).1, (kf (hf le).2).2⟩,
      fun le => ⟨(hr le).1.trans (kr (hr le).2).1, (kr (hr le).2).2⟩⟩
  closed := k.closed ∘ h.closed
  tracking := h.tracking ∘ k.tracking
  gap := k.gap ∘ h.gap
  estimated := k.estimated ∘ h.estimated

/-- An update of a record that leaves its accounts alone. -/
theorem Record.Worked.of_fields {r r' : Record} (accounts : (∀ f, r'.fwd f = r.fwd f) ∧ ∀ f, r'.rev f = r.rev f)
    (closed : r.platingClosed = true → r'.platingClosed = true)
    (tracking : r'.state = .tracking → r.state = .tracking)
    (same : r' = { r' with
      index := r.index, generation := r.generation, tag := r.tag, entryMark := r.entryMark, length := r.length
      areaA := r.areaA, areaB := r.areaB, slot := r.slot })
    (gap : r.marks.gap = true → r'.marks.gap = true := by exact id)
    (estimated : r.marks.estimated = true → r'.marks.estimated = true := by exact id) : r.Worked r' := by
  have same {α : Type} (part : Record → α) := congrArg part same
  have accountsOk : ∀ f : Face, (r.fwd f ≤ Config.accountTop → r.fwd f ≤ r'.fwd f ∧ r'.fwd f ≤ Config.accountTop)
      ∧ (r.rev f ≤ Config.accountTop → r.rev f ≤ r'.rev f ∧ r'.rev f ≤ Config.accountTop) := fun f =>
    ⟨fun le => ⟨(accounts.1 f).ge, (accounts.1 f).le.trans le⟩,
      fun le => ⟨(accounts.2 f).ge, (accounts.2 f).le.trans le⟩⟩
  exact ⟨same Record.index, same Record.generation, same Record.tag, same Record.entryMark, same Record.length,
    same Record.areaA, same Record.areaB, same Record.slot, accountsOk, closed, tracking, gap, estimated⟩

@[simp] theorem Record.fwd_A (r : Record) : r.fwd .A = r.fwdA := rfl
@[simp] theorem Record.fwd_B (r : Record) : r.fwd .B = r.fwdB := rfl
@[simp] theorem Record.rev_A (r : Record) : r.rev .A = r.revA := rfl
@[simp] theorem Record.rev_B (r : Record) : r.rev .B = r.revB := rfl
@[simp] theorem Record.area_A (r : Record) : r.area .A = r.areaA := rfl
@[simp] theorem Record.area_B (r : Record) : r.area .B = r.areaB := rfl

theorem worked_pendingCount (r : Record) (n : Nat) : r.Worked { r with pendingCount := n } :=
  .of_fields ⟨fun f => by cases f <;> rfl, fun f => by cases f <;> rfl⟩ id id rfl

theorem worked_outcome (r : Record) (o : Option PlatingOutcome) : r.Worked { r with outcome := o } :=
  .of_fields ⟨fun f => by cases f <;> rfl, fun f => by cases f <;> rfl⟩ id id rfl

theorem worked_platingClosed (r : Record) : r.Worked { r with platingClosed := true } :=
  .of_fields ⟨fun f => by cases f <;> rfl, fun f => by cases f <;> rfl⟩ (fun _ => rfl) id rfl

theorem worked_state (r : Record) {x : RecordState} (moved : x ≠ .tracking) : r.Worked { r with state := x } :=
  .of_fields ⟨fun f => by cases f <;> rfl, fun f => by cases f <;> rfl⟩ id (fun h => absurd h moved) rfl

theorem worked_markReached (r : Record) (f : Face) (lead : Int) : r.Worked (r.markReached f lead) := by
  cases f <;>
    exact .of_fields ⟨fun f => by cases f <;> rfl, fun f => by cases f <;> rfl⟩ id id rfl

theorem worked_markClosure (r : Record) (k : ClosureKind) : r.Worked (r.markClosure k) := by
  cases k with
  | measured => exact .refl r
  | forced => exact .of_fields ⟨fun f => by cases f <;> rfl, fun f => by cases f <;> rfl⟩ id id rfl id fun _ => rfl
  | lost => exact .of_fields ⟨fun f => by cases f <;> rfl, fun f => by cases f <;> rfl⟩ id id rfl (fun _ => rfl) id

theorem satAdd_within {top a : Nat} (b : Nat) (le : a ≤ top) : a ≤ satAdd top a b ∧ satAdd top a b ≤ top :=
  ⟨by unfold satAdd; omega, satAdd_le ..⟩

theorem worked_addCharge (r : Record) (f : Face) (fwd rev : Nat) : r.Worked (r.addCharge f fwd rev) := by
  cases f with
  | A =>
    refine ⟨rfl, rfl, rfl, rfl, rfl, rfl, rfl, rfl, fun f => ?_, id, id, id, id⟩
    cases f with
    | A => exact ⟨satAdd_within fwd, satAdd_within rev⟩
    | B => exact ⟨fun le => ⟨le_rfl, le⟩, fun le => ⟨le_rfl, le⟩⟩
  | B =>
    refine ⟨rfl, rfl, rfl, rfl, rfl, rfl, rfl, rfl, fun f => ?_, id, id, id, id⟩
    cases f with
    | A => exact ⟨fun le => ⟨le_rfl, le⟩, fun le => ⟨le_rfl, le⟩⟩
    | B => exact ⟨satAdd_within fwd, satAdd_within rev⟩

/-! ### The Carrier Table -/

/-- The records are worked on in their places, and the rest of the table is kept. -/
structure TableWorked (a b : CarrierTable) : Prop where
  live : List.Forall₂ Record.Worked a.live b.live
  rest : b = { a with live := b.live }

theorem TableWorked.refl (a : CarrierTable) : TableWorked a a :=
  ⟨List.forall₂_same.2 fun r _ => .refl r, rfl⟩

theorem forall₂_trans {α : Type} {R : α → α → Prop} (trans : ∀ x y z, R x y → R y z → R x z) {k l m : List α}
    (h : List.Forall₂ R k l) (h' : List.Forall₂ R l m) : List.Forall₂ R k m := by
  induction h generalizing m with
  | nil => exact h'
  | cons head _ ih =>
    cases h' with
    | cons head' tail' => exact .cons (trans _ _ _ head head') (ih tail')

theorem TableWorked.trans {a b c : CarrierTable} (h : TableWorked a b) (k : TableWorked b c) : TableWorked a c where
  live := forall₂_trans (R := Record.Worked) (fun _ _ _ => .trans) h.live k.live
  rest := by rw [k.rest, h.rest]

theorem forall₂_modifyFirst {α : Type} {R : α → α → Prop} (refl : ∀ x, R x x) {test : α → Bool} {f : α → α}
    (h : ∀ x, test x = true → R x (f x)) (l : List α) : List.Forall₂ R l (modifyFirst test f l) := by
  induction l with
  | nil => exact .nil
  | cons x l ih =>
    by_cases hx : test x
    · simpa only [modifyFirst, hx, if_true] using .cons (h x hx) (List.forall₂_same.2 fun y _ => refl y)
    · simpa only [modifyFirst, hx, Bool.false_eq_true, if_false] using .cons (refl x) ih

theorem tableWorked_modifyFirst {a : CarrierTable} (test : Record → Bool) {f : Record → Record}
    (h : ∀ r : Record, r.Worked (f r)) : TableWorked a { a with live := modifyFirst test f a.live } :=
  ⟨forall₂_modifyFirst .refl (fun r _ => h r) _, rfl⟩

/-! ### The drive queue -/

/-- R127, R131: every place holds at most one item, and while one waits a transaction is on the bus. -/
structure DriveBus.Lawful (d : DriveBus) : Prop where
  places : (d.queue.map DriveItem.place).Nodup
  busy : d.queue ≠ [] → d.bus ≠ none

/-- R135, R136: what the work does at most to a channel's counters: stale readbacks are counted. -/
def ChannelsWorked (a b : Vector ChannelState 32) : Prop :=
  ∀ c : Fin 32, ∃ n : Nat, b[c] = { a[c] with stale := n } ∧ (a[c].stale ≤ Config.halfTop → n ≤ Config.halfTop)

/-- A lawful queue stays lawful. -/
structure DriveWorked (a b : DriveBus) : Prop where
  lawful : a.Lawful → b.Lawful
  channels : ChannelsWorked a.channels b.channels

theorem ChannelsWorked.refl (a : Vector ChannelState 32) : ChannelsWorked a a := fun c => ⟨a[c].stale, rfl, id⟩

theorem ChannelsWorked.trans {a b c : Vector ChannelState 32} (h : ChannelsWorked a b) (k : ChannelsWorked b c) :
    ChannelsWorked a c := fun i => by
  obtain ⟨m, hm, mle⟩ := h i
  obtain ⟨n, hn, nle⟩ := k i
  rw [hm] at hn nle
  exact ⟨n, hn, fun le => nle (mle le)⟩

theorem DriveWorked.refl (a : DriveBus) : DriveWorked a a := ⟨id, .refl _⟩

theorem DriveWorked.trans {a b c : DriveBus} (h : DriveWorked a b) (k : DriveWorked b c) : DriveWorked a c :=
  ⟨k.lawful ∘ h.lawful, h.channels.trans k.channels⟩

/-! ### The counters of a zone -/

/-- R76: the late counter and the orphan accounts within their tops. -/
structure Sequencer.CountersIn (q : Sequencer) : Prop where
  late : q.late ≤ Config.halfTop
  orphanFwd : q.orphanFwd ≤ Config.accountTop
  orphanRev : q.orphanRev ≤ Config.accountTop

/-- The zones' counters stay within their tops. -/
def ZonesWorked (a b : Vector Sequencer 16) : Prop := ∀ z : Fin 16, a[z].CountersIn → b[z].CountersIn

/-! ### The work as a whole -/

/-- What the work does at most, with the events it may raise. -/
structure Works (events : List Event) (s t : State) : Prop where
  table : TableWorked s.table t.table
  attn : Raises events s.attn t.attn
  drive : DriveWorked s.drive t.drive
  zones : ZonesWorked s.zones t.zones

section
variable {E F : List Event} {s t u : State}

theorem Works.refl (E : List Event) (s : State) : Works E s s := ⟨.refl _, .refl _ _, .refl _, fun _ => id⟩

theorem Works.trans (h : Works E s t) (k : Works E t u) : Works E s u :=
  ⟨h.table.trans k.table, h.attn.trans k.attn, h.drive.trans k.drive, fun z => k.zones z ∘ h.zones z⟩

theorem Works.mono (h : Works E s t) (sub : E ⊆ F) : Works F s t := ⟨h.table, h.attn.mono sub, h.drive, h.zones⟩

theorem works_foldl {α : Type} {f : State → α → State} (h : ∀ s a, Works E s (f s a)) (l : List α) (s : State) :
    Works E s (l.foldl f s) := by
  induction l generalizing s with
  | nil => exact .refl E s
  | cons a l ih => exact (h s a).trans (ih _)

/-- An update of blocks that the work does not speak of. -/
theorem Works.of_same (table : t.table = s.table) (attn : t.attn = s.attn) (drive : t.drive = s.drive)
    (zones : t.zones = s.zones) : Works E s t :=
  ⟨table ▸ .refl _, attn ▸ .refl _ _, drive ▸ .refl _, fun z => by rw [zones]; exact id⟩

/-- An update of the drive bus alone. -/
theorem Works.of_drive {d : DriveBus} (h : DriveWorked s.drive d) : Works E s (s.withDrive d) :=
  ⟨.refl _, .refl _ _, h, fun _ => id⟩

theorem works_raise {e : Event} (mem : e ∈ E) (s : State) : Works E s (raise e s) :=
  ⟨.refl _, .raise mem _, .refl _, fun _ => id⟩

theorem works_modifyRecord {f : Record → Record} (h : ∀ r : Record, r.Worked (f r)) (i : Fin 64) (g : BitVec 8) (s : State) :
    Works E s (modifyRecord i g f s) :=
  ⟨tableWorked_modifyFirst _ h, .refl _ _, .refl _, fun _ => id⟩

theorem works_modifyZone (z : Fin 16) {f : Sequencer → Sequencer} (h : ∀ q, q.CountersIn → (f q).CountersIn)
    (s : State) : Works E s (s.modifyZone z f) := by
  refine ⟨.refl _, .refl _ _, .refl _, fun y counters => ?_⟩
  rw [modifyZone_get]
  split
  · exact h _ (‹y = z› ▸ counters)
  · exact counters

end

/-- An update of a sequencer that leaves its counters alone. -/
theorem works_adjustZone {E : List Event} (z : Fin 16) {f : Sequencer → Sequencer} (s : State)
    (same : ∀ q, (f q).late = q.late ∧ (f q).orphanFwd = q.orphanFwd ∧ (f q).orphanRev = q.orphanRev := by
      exact fun _ => ⟨rfl, rfl, rfl⟩) : Works E s (s.modifyZone z f) :=
  works_modifyZone z (fun q h => by
    obtain ⟨late, fwd, rev⟩ := same q
    exact ⟨late ▸ h.late, fwd ▸ h.orphanFwd, rev ▸ h.orphanRev⟩) s

section
variable (E : List Event) (s : State)

theorem works_withPos (p : Position) : Works E s (s.withPos p) := .of_same rfl rfl rfl rfl
theorem works_withSup (x : Supervisor) : Works E s (s.withSup x) := .of_same rfl rfl rfl rfl
theorem works_withMonitor (m : Monitor) : Works E s (s.withMonitor m) := .of_same rfl rfl rfl rfl

end

/-! ### The calls and the watches of the Carrier Table -/

section
variable (i : Fin 64) (g : BitVec 8) (s : State)

theorem works_testTarget (f : Face) : Works [.target] s (testTarget i g f s) := by
  unfold testTarget
  split
  · exact .refl _ s
  · split
    · exact (works_modifyRecord (fun r => worked_markReached r f _) i g s).trans (works_raise (by simp) _)
    · exact .refl _ s

theorem works_settleOutcome : Works [.shortfall] s (settleOutcome i g s) := by
  have written : Works [.shortfall] s (modifyRecord i g (fun r => { r with outcome := some r.judge }) s) :=
    works_modifyRecord (fun r => worked_outcome r _) i g s
  unfold settleOutcome
  split
  · exact .refl _ s
  · split
    · dsimp only
      split
      · exact written.trans (works_raise (by simp) _)
      · exact written
    · exact .refl _ s

theorem works_holdRecord : Works [] s (holdRecord i g s) := works_modifyRecord (fun r => worked_pendingCount r _) i g s

theorem works_releaseEntry : Works [.shortfall] s (releaseEntry i g s) :=
  (works_modifyRecord (fun r => worked_pendingCount r _) i g s).trans (works_settleOutcome ..)

theorem works_creditRecord (f : Face) (fwd rev : Nat) (k : ClosureKind) :
    Works [.target] s (creditRecord i g f fwd rev k s) :=
  (works_modifyRecord (fun r => (worked_addCharge r f fwd rev).trans (worked_markClosure _ k)) i g s).trans
    (works_testTarget ..)

theorem works_platingEndWatch : Works [.shortfall] s (platingEndWatch i g s) := by
  unfold platingEndWatch
  split
  · exact .refl _ s
  · split
    · exact (works_modifyRecord worked_platingClosed i g s).trans (works_settleOutcome ..)
    · exact .refl _ s

theorem works_exitWindowWatch : Works [.missedExit] s (exitWindowWatch i g s) := by
  unfold exitWindowWatch
  split
  · exact .refl _ s
  · split
    · exact (works_modifyRecord (fun r => worked_state r (x := .lost) (by simp)) i g s).trans (works_raise (by simp) _)
    · exact .refl _ s

end

theorem works_platingEndWatchAll (s : State) : Works [.shortfall] s (platingEndWatchAll s) :=
  works_foldl (f := fun t (r : Record) => platingEndWatch r.index r.generation t) (fun _ _ => works_platingEndWatch ..) _ s

theorem works_exitWindowWatchAll (s : State) : Works [.missedExit] s (exitWindowWatchAll s) :=
  works_foldl (f := fun t (r : Record) => exitWindowWatch r.index r.generation t) (fun _ _ => works_exitWindowWatch ..) _ s

theorem works_exitArrival (s : State) : Works [.exit, .phantomExit] s (exitArrival s) := by
  unfold exitArrival
  split
  · exact works_raise (by simp) s
  · split
    · exact (works_modifyRecord (fun r => worked_state r (x := .exited) (by simp)) _ _ s).trans (works_raise (by simp) _)
    · exact works_raise (by simp) s

/-! ### The drive queue -/

theorem takingOver_place {item old : DriveItem} : (item.takingOver old).place = item.place := by
  cases item <;> rfl

theorem map_modifyFirst_of_test {α β : Type} {test : α → Bool} {f : α → α} {g : α → β}
    (h : ∀ x, test x = true → g (f x) = g x) (l : List α) : (modifyFirst test f l).map g = l.map g := by
  induction l with
  | nil => rfl
  | cons x l ih => by_cases hx : test x <;> simp [modifyFirst, hx, h, ih]

theorem chooseItem_eq_none {queue : List DriveItem} (h : chooseItem queue = none) : queue = [] := by
  unfold chooseItem at h
  split at h
  · cases h
  · split at h
    · cases h
    · exact List.head?_eq_none_iff.1 h

theorem lawful_withdraw {d : DriveBus} (h : d.Lawful) (test : DriveItem → Bool) :
    DriveBus.Lawful { d with queue := removeFirst test d.queue } where
  places := ((removeFirst_sublist test d.queue).map _).nodup h.places
  busy waits := h.busy fun empty => waits (by simp [empty, removeFirst])

/-- R131: with the arbiter's choice made, nothing waits on a free bus. -/
theorem lawful_beginTransaction {s : State} (h : (s.drive.queue.map DriveItem.place).Nodup) :
    (beginTransaction s).drive.Lawful := by
  unfold beginTransaction
  split
  · exact ⟨((removeFirst_sublist _ _).map _).nodup h, fun _ => by simp⟩
  · rename_i other
    refine ⟨h, fun waits free => ?_⟩
    cases choice : chooseItem s.drive.queue with
    | none => exact waits (chooseItem_eq_none choice)
    | some item => exact other item free choice

@[simp] theorem beginTransaction_channels (s : State) :
    (beginTransaction s).drive.channels = s.drive.channels := by
  unfold beginTransaction
  split <;> rfl

theorem works_beginTransaction (s : State) : Works [] s (beginTransaction s) where
  table := by simpa using .refl _
  attn := by simpa using .refl _ _
  drive := ⟨fun h => lawful_beginTransaction h.places, by simpa using .refl _⟩
  zones z := by simp

theorem works_endTransaction (s : State) : Works [] s (endTransaction s) where
  table := by simpa using .refl _
  attn := by simpa using .refl _ _
  drive := ⟨fun h => lawful_beginTransaction h.places, by simpa [endTransaction] using .refl _⟩
  zones z := by simp

/-- R128: an item in an occupied place replaces the one there. -/
theorem driveWorked_replace (item : DriveItem) (d : DriveBus) :
    DriveWorked d { d with queue := modifyFirst (fun i => i.place = item.place) item.takingOver d.queue } := by
  have samePlaces : (modifyFirst (fun i => i.place = item.place) item.takingOver d.queue).map DriveItem.place
      = d.queue.map DriveItem.place :=
    map_modifyFirst_of_test (fun old there => takingOver_place.trans (by simpa using Eq.comm.1 (of_decide_eq_true there))) _
  refine ⟨fun h => ⟨samePlaces ▸ h.places, fun waits => h.busy fun empty => waits ?_⟩, .refl _⟩
  simp [empty, modifyFirst]

theorem works_postItem_of_free {item : DriveItem} {s : State}
    (free : (s.drive.queue.any fun i => i.place = item.place) = false) : Works [] s (postItem item s) := by
  have entered : s.drive.Lawful → ((s.drive.queue ++ [item]).map DriveItem.place).Nodup := fun h => by
    simp only [List.map_append, List.map_cons, List.map_nil, List.nodup_append, List.nodup_singleton, true_and,
      List.mem_singleton, List.mem_map, forall_eq]
    refine ⟨h.places, ?_⟩
    rintro p ⟨i, mem, rfl⟩ same
    have := List.any_eq_false.1 free i mem
    simp [same] at this
  unfold postItem
  rw [if_neg (by simp [free])]
  dsimp only
  split
  · refine ⟨by simpa using .refl _, by simpa using .refl _ _,
      ⟨fun h => lawful_beginTransaction (entered h), by simpa using .refl _⟩, fun z => by simp⟩
  · rename_i busy
    refine .of_drive ⟨fun h => ⟨entered h, fun _ (noBus : s.drive.bus = none) => ?_⟩, .refl _⟩
    have emptyQueue : s.drive.queue = [] := by
      by_contra waits
      exact h.busy waits noBus
    simp [emptyQueue, noBus] at busy

theorem works_postItem (item : DriveItem) (s : State) : Works [.late] s (postItem item s) := by
  by_cases there : (s.drive.queue.any fun i => i.place = item.place) = true
  · unfold postItem
    rw [if_pos there]
    dsimp only
    split
    · exact (Works.of_drive (driveWorked_replace item s.drive)).trans (works_raise (by simp) _)
    · exact .of_drive (driveWorked_replace item s.drive)
  · exact (works_postItem_of_free (Bool.not_eq_true _ ▸ there)).mono (by simp)

/-- R129: LATE is raised for a MARK alone. -/
theorem works_postItem_of_notMark {item : DriveItem} (notMark : item.isMark = false) (s : State) :
    Works [] s (postItem item s) := by
  by_cases there : (s.drive.queue.any fun i => i.place = item.place) = true
  · unfold postItem
    rw [if_pos there]
    simp only [notMark, Bool.false_eq_true, if_false]
    exact .of_drive (driveWorked_replace item s.drive)
  · exact works_postItem_of_free (Bool.not_eq_true _ ▸ there)

theorem works_postStops (cs : List (Fin 32)) (poster : Option (Fin 16)) (s : State) :
    Works [] s (postStops cs poster s) :=
  works_foldl (f := fun t c => postItem (.stop c poster) t) (fun _ _ => works_postItem_of_notMark rfl _) _ s

theorem works_postOrders (z : Fin 16) (n : Snapshot) (s : State) : Works [] s (postOrders z n s) :=
  works_foldl (f := fun t (d : Side) => postItem (orderItem z n d) t) (fun _ _ => works_postItem_of_notMark rfl _) _ s

theorem works_withdraw (test : DriveItem → Bool) (s : State) : Works [] s (withdraw test s) :=
  .of_drive ⟨fun h => lawful_withdraw h test, .refl _⟩

theorem works_withdrawOrders (n : Snapshot) (s : State) : Works [] s (withdrawOrders n s) :=
  works_foldl (f := fun t (d : Side) => withdraw (isOrder d.channel n.seq) t) (fun _ _ => works_withdraw ..) _ s

theorem works_countStale (c : Fin 32) (s : State) : Works [] s (countStale c s) := by
  refine .of_drive ⟨fun h => ⟨h.places, h.busy⟩, fun d => ?_⟩
  by_cases same : d = c
  · subst same
    exact ⟨satAdd Config.halfTop s.drive.channels[d].stale 1, by simp, fun _ => satAdd_le ..⟩
  · exact ⟨s.drive.channels[d].stale, bankSet_get_other _ same _, id⟩

/-! ### Closures -/

theorem works_addOrphan (z : Fin 16) (fwd rev : Nat) (s : State) : Works [] s (addOrphan z fwd rev s) := by
  refine works_modifyZone z (fun q h => ?_) s
  exact ⟨h.late, satAdd_le .., satAdd_le ..⟩

section
variable (z : Fin 16) (s : State)

theorem works_creditEntry (e : Entry) (fwd rev : Nat) (k : ClosureKind) :
    Works [.target, .shortfall] s (creditEntry z e fwd rev k s) := by
  have credited : Works [.target] s (if s.credits e.index e.generation
      then creditRecord e.index e.generation e.face fwd rev k s else addOrphan z fwd rev s) := by
    split
    · exact works_creditRecord ..
    · exact (works_addOrphan ..).mono (by simp)
  exact (credited.mono (by simp)).trans ((works_releaseEntry ..).mono (by simp))

theorem works_creditEntries (k : ClosureKind) (l : List (Entry × Nat × Nat)) :
    Works [.target, .shortfall] s (creditEntries z k l s) := by
  induction l generalizing s with
  | nil => exact .refl _ s
  | cons x l ih => exact (works_creditEntry ..).trans (ih _)

theorem works_shareOut (d : Side) (qf qr : Nat) (k : ClosureKind) :
    Works [.target, .shortfall] s (shareOut z d qf qr k s) := by
  unfold shareOut
  split
  · exact (works_addOrphan ..).mono (by simp)
  · exact works_creditEntries ..

theorem works_closeSide (seq : BitVec 8) (d : Side) (qf qr : Nat) (k : ClosureKind) :
    Works [.target, .shortfall] s (closeSide z seq d qf qr k s) :=
  (works_shareOut z s d qf qr k).trans (works_adjustZone z _)

theorem works_forceClose (n : Snapshot) : Works [.target, .shortfall] s (forceClose z n s) :=
  works_foldl (f := fun t (d : Side) => closeSide z n.seq d d.qfOrd d.qrOrd .forced t) (fun _ _ => works_closeSide ..) _ s

theorem works_loseSidesOf (c : Fin 32) : Works [.target, .shortfall] s (loseSidesOf c s z) := by
  unfold loseSidesOf
  split
  · refine works_foldl (fun t n => ?_) _ s
    split
    · exact works_closeSide ..
    · exact .refl _ t
  · exact .refl _ s

theorem works_loseSides (c : Fin 32) : Works [.target, .shortfall] s (loseSides c s) :=
  works_foldl (f := loseSidesOf c) (fun t y => works_loseSidesOf y t c) _ s

/-! ### Snapshots -/

theorem works_holdEntries (n : Snapshot) : Works [] s (holdEntries n s) :=
  works_foldl (f := fun t (e : Entry) => holdRecord e.index e.generation t) (fun _ _ => works_holdRecord ..) _ s

theorem works_releaseEntries (n : Snapshot) : Works [.shortfall] s (releaseEntries n s) :=
  works_foldl (f := fun t (e : Entry) => releaseEntry e.index e.generation t) (fun _ _ => works_releaseEntry ..) _ s

theorem works_raiseLimited (mode : Mode) (sides : List Side) (at' : State) :
    Works [.limited] s (raiseLimited z mode sides at' s) := by
  unfold raiseLimited
  split
  · exact works_raise (by simp) s
  · exact .refl _ s

theorem works_buildSnapshot : Works [.limited] s (buildSnapshot z s) := by
  refine .trans (.trans (.trans ?noted ((works_holdEntries ..).mono ?_)) (works_raiseLimited ..))
    ((works_postOrders ..).mono ?_)
  case noted => exact works_adjustZone z s
  all_goals simp

theorem works_recompute : Works [.limited] s (recompute z s) := by
  unfold recompute
  split
  · exact .refl _ s
  · refine .trans (.trans ?noted (works_raiseLimited ..)) ((works_postOrders ..).mono (by simp))
    exact works_adjustZone z s

theorem works_discardSnapshot (test : Snapshot → Bool) : Works [.shortfall] s (discardSnapshot z test s) := by
  unfold discardSnapshot
  split
  · exact .refl _ s
  · refine .trans (.trans (.trans ?gone (works_releaseEntries ..)) ((works_withdraw ..).mono (by simp)))
      ((works_withdrawOrders ..).mono (by simp))
    exact works_adjustZone z s

/-! ### The zones -/

theorem works_enterService (x : ZoneState) : Works [.limited] s (enterService z x s) := by
  have entered : Works [.limited] s (s.modifyZone z fun q => { q with state := x, restartTimer := none }) :=
    works_adjustZone z s
  unfold enterService
  refine (entered.trans (works_buildSnapshot z _)).trans ?_
  exact works_adjustZone z _

theorem works_discardIfMarkWaits : Works [.shortfall] s (discardIfMarkWaits z s) := by
  unfold discardIfMarkWaits
  split
  · split
    · exact works_discardSnapshot ..
    · exact .refl _ s
  · exact .refl _ s

theorem works_leaveService (x : ZoneState) : Works [.shortfall] s (leaveService z x s) := by
  have stopped : Works [.shortfall] s (stopTimers z x s) := works_adjustZone z s
  have discarded := (stopped.trans (works_discardIfMarkWaits z _)).trans
    (works_discardSnapshot z _ Snapshot.isUnstarted)
  rw [leaveService_eq]
  split
  · exact discarded
  · exact discarded.trans ((works_postStops ..).mono (by simp))

theorem works_boundaryForce : Works [.target, .shortfall] s (boundaryForce z s) := by
  unfold boundaryForce
  split
  · split
    · exact works_forceClose ..
    · exact .refl _ s
  · exact .refl _ s

theorem works_lateSide (n : Snapshot) (d : Side) : Works [.late] s (lateSide z n s d) := by
  unfold lateSide
  split
  · refine (((works_withdraw (isOrder d.channel n.seq) s).mono (by simp)).trans ?_).trans (works_raise (by simp) _)
    refine works_modifyZone z (fun q h => ?_) _
    exact ⟨satAdd_le .., h.orphanFwd, h.orphanRev⟩
  · exact .refl _ s

theorem works_boundaryStart : Works [.late] s (boundaryStart z s) := by
  have advanced : Works [.late] s (s.modifyZone z fun q => { q with pending := advancePhases q.pending }) :=
    works_adjustZone z s
  unfold boundaryStart
  dsimp only
  split
  · exact advanced
  · exact .trans (advanced.trans (works_postItem ..)) (works_foldl (fun t d => works_lateSide z t _ d) _ _)

theorem works_takeBoundary : Works [.target, .shortfall, .late, .limited] s (takeBoundary z s) := by
  have forced := works_boundaryForce z s
  have started := works_boundaryStart z (boundaryForce z s)
  have built := works_buildSnapshot z (boundaryStart z (boundaryForce z s))
  unfold takeBoundary
  refine (((forced.mono (by simp)).trans (started.mono (by simp))).trans (built.mono (by simp))).trans ?_
  exact works_adjustZone z _

/-- R86 to R89: the events a motion change can raise in a zone. -/
def motionEvents : Motion → List Event
  | .parked => [.shortfall]
  | _ => [.limited]

theorem works_tellMotion (m : Motion) : Works (motionEvents m) s (tellMotion m s z) := by
  have moved (x : ZoneState) : Works [.limited] s (recompute z (s.modifyZone z fun q => { q with state := x })) :=
    (works_adjustZone z s).trans (works_recompute ..)
  unfold tellMotion
  split
  · exact moved .protect
  · exact moved .running
  · exact works_leaveService ..
  · exact works_adjustZone z s
  · exact works_adjustZone z s
  · exact .refl _ s

theorem works_changeMotion (m : Motion) : Works (.motion :: motionEvents m) s (changeMotion m s) :=
  (works_raise (by simp) s).trans
    (works_foldl (f := tellMotion m) (fun t y => (works_tellMotion y t m).mono (by simp)) _ _)

theorem works_tellHalt : Works [.shortfall] s (tellHalt s z) := by
  unfold tellHalt
  split
  · exact works_leaveService ..
  · exact works_leaveService ..
  · exact works_leaveService ..
  · exact works_adjustZone z s
  · exact .refl _ s
  · exact .refl _ s

theorem works_tellResume : Works [] s (tellResume s z) := by
  unfold tellResume
  split
  · exact works_adjustZone z s
  · exact .refl _ s

theorem works_faultZone : Works [.shortfall] s (faultZone z s) := by
  unfold faultZone
  split
  · exact .refl _ s
  · exact .refl _ s
  · exact works_leaveService ..

theorem works_restartExpires : Works [.limited, .shortfall] s (restartExpires z s) := by
  unfold restartExpires
  split
  · exact (works_enterService ..).mono (by simp)
  · exact (works_enterService ..).mono (by simp)
  · exact (works_enterService ..).mono (by simp)
  · exact (works_leaveService ..).mono (by simp)
  · exact works_adjustZone z s

theorem works_periodTimerExpires :
    Works [.target, .shortfall, .late, .limited] s (periodTimerExpires z s) := by
  unfold periodTimerExpires
  split
  · exact works_takeBoundary ..
  · exact works_takeBoundary ..
  · exact .refl _ s

theorem works_restartTimerExpires : Works [.limited, .shortfall] s (restartTimerExpires z s) := by
  unfold restartTimerExpires
  split
  · exact .refl _ s
  · split
    · exact works_adjustZone z s
    · exact works_restartExpires ..

theorem works_haltLine : Works [.halt, .shortfall] s (haltLine s) := by
  unfold haltLine
  split
  · exact .refl _ s
  · have posted := works_postItem_of_notMark (item := .abort) rfl (s.withSup { s.sup with halted := true })
    have told := works_foldl (f := tellHalt) (fun t y => works_tellHalt y t) zoneNumbers
      (postItem .abort (s.withSup { s.sup with halted := true }))
    exact (((works_withSup _ s _).trans (posted.mono (by simp))).trans (told.mono (by simp))).trans
      (works_raise (by simp) _)

end

/-! ### The conveyor's events -/

theorem works_pulseMotion (s : State) : Works [.motion, .limited] s (pulseMotion s) := by
  unfold pulseMotion
  split
  · exact works_withPos ..
  · split
    · exact (works_withPos _ s _).trans (works_changeMotion _ .moving)
    · exact .refl _ s
  · exact .refl _ s

theorem works_encoderStep (sense : QuadSense) (s : State) :
    Works [.motion, .limited, .shortfall, .missedExit] s (encoderStep sense s) := by
  have stepped : Works [.motion, .limited, .shortfall, .missedExit] s
      (s.withPos (s.pos.stepped s.map.line.swapped sense)) := works_withPos ..
  exact ((stepped.trans ((works_pulseMotion _).mono (by simp))).trans
    ((works_platingEndWatchAll _).mono (by simp))).trans ((works_exitWindowWatchAll _).mono (by simp))

theorem works_stopTimerExpires (s : State) : Works [.motion, .limited] s (stopTimerExpires s) := by
  unfold stopTimerExpires
  split
  · exact (works_withPos _ s _).trans (works_changeMotion _ .stopped)
  · exact .refl _ s

theorem works_parkTimerExpires (s : State) : Works [.motion, .shortfall] s (parkTimerExpires s) := by
  unfold parkTimerExpires
  split
  · exact (works_withPos _ s _).trans (works_changeMotion _ .parked)
  · exact .refl _ s

/-! ### The Regulation Monitor and the ends of a transaction -/

theorem works_raiseMajor (c : Case) (s : State) : Works [.major, .shortfall] s (raiseMajor c s) := by
  have raised (m : Monitor) : Works [.major, .shortfall] s (raise .major (s.withMonitor m)) :=
    (works_withMonitor _ s _).trans (works_raise (by simp) _)
  unfold raiseMajor
  dsimp only
  split
  · exact (raised _).trans ((works_faultZone ..).mono (by simp))
  · exact raised _

theorem works_raiseMinor (c : Case) (s : State) : Works [.minor] s (raiseMinor c s) :=
  (works_withMonitor _ s _).trans (works_raise (by simp) _)

theorem works_raiseClass (c : CaseClass) (s : State) : Works [.major, .minor, .shortfall] s (raiseClass c s) := by
  cases c with
  | major c => exact (works_raiseMajor c s).mono (by simp)
  | minor c => exact (works_raiseMinor c s).mono (by simp)
  | nothing => exact .refl _ s

theorem works_handOff (z : Fin 16) (mode : Mode) (d : Side) (qf qr : Nat) (s : State) :
    Works [.major, .minor, .shortfall] s (handOff z mode d qf qr s) := by
  unfold handOff
  split
  · exact .refl _ s
  · exact works_raiseClass ..

/-- R105 to R107, R143, R144: the events that the end of a transaction can raise. -/
def endEvents : List Event := [.major, .minor, .target, .shortfall]

theorem works_takeReadback (c : Fin 32) (s : State) (b : Readback) : Works endEvents s (takeReadback c s b) := by
  unfold takeReadback
  split
  · exact ((works_closeSide ..).mono (by simp [endEvents])).trans ((works_handOff ..).mono (by simp [endEvents]))
  · exact (works_countStale ..).mono (by simp)

theorem works_takeReadbacks (c : Fin 32) (l : List Readback) (s : State) :
    Works endEvents s (l.foldl (takeReadback c) s) := works_foldl (works_takeReadback c) l s

theorem works_judgeStatus (st : ReplyStatus) (c : Fin 32) (poster : Option (Fin 16)) (s : State) :
    Works [.major, .minor, .shortfall] s (judgeStatus st c poster s) := by
  cases st with
  | ok => exact .refl _ s
  | limit => exact (works_raiseMinor ..).mono (by simp)
  | fault => exact (works_raiseMajor ..).mono (by simp)

theorem works_channelFault (c : Fin 32) (poster : Option (Fin 16)) (s : State) :
    Works [.major, .shortfall] s (channelFault c poster s) := works_raiseMajor ..

theorem works_closing (closes : Bool) (c : Fin 32) (s : State) :
    Works [.target, .shortfall] s (if closes then loseSides c s else s) := by
  split
  · exact works_loseSides ..
  · exact .refl _ s

/-- R134: a GOOD end records itself in its channel, and works from there. -/
theorem works_goodEnd (item : DriveItem) (c : Fin 32) (st : ReplyStatus) (rbs : List Readback) (s : State) :
    Works endEvents (s.modifyChannel c fun k => { k with misses := 0, lastStatus := some st, lastEnd := some .good })
      (goodEnd item c st rbs s) :=
  .trans (.trans (.trans (works_takeReadbacks ..) ((works_closing ..).mono (by simp [endEvents])))
    ((works_judgeStatus ..).mono (by simp [endEvents]))) ((works_endTransaction ..).mono (by simp))

/-- R135: a failed end records itself in its channel, and works from there. -/
theorem works_badEnd (item : DriveItem) (c : Fin 32) (how : TransactionEnd) (s : State) :
    Works endEvents (s.modifyChannel c fun k => { k with misses := min 3 (k.misses + 1), lastEnd := some how })
      (badEnd item c how s) := by
  have closed := works_closing item.closes c
    (s.modifyChannel c fun k => { k with misses := min 3 (k.misses + 1), lastEnd := some how })
  have faulted (t : State) : Works endEvents t
      (if s.drive.channels[c].misses = 2 then channelFault c item.poster t else t) := by
    split
    · exact (works_channelFault ..).mono (by simp [endEvents])
    · exact .refl _ _
  exact ((closed.mono (by simp [endEvents])).trans (faulted _)).trans ((works_endTransaction _).mono (by simp))

end Sys2Proof.Machine

/-! What the owner of a request does: the inversion of `serve`, with the checks that a taken request has passed. -/

namespace Sys2Proof.Machine

/-- What a request makes of the part: nothing, where it reads or is refused, or its owner's step, whose checks held. -/
inductive Served (s : State) : State → Prop where
  | still : Served s s
  | edited {r : Request} {m : LineMap} (access : s.accessRefusal = none) (carried : s.mapEdit r = some (some m))
    (keeps : s.keepsRunning m = true) (valid : m.valid s.table.live = true) : Served s (applyEdit m s)
  | profile {f : ProfileFields} {i : Fin 8} {p : Profile} (access : s.accessRefusal = none)
    (carried : profileOf f = some (i, p)) : Served s (s.withMap { s.map with profiles := bankSet s.map.profiles i p })
  | access {a : MapAccess} (kept : s.map.access = .locked → a = .locked) : Served s (s.withAccess a)
  | defined {slot : Byte} {qT jMin jMax : Half} {k : Fin 16} {q lo hi : Nat}
    (carried : programValuesOf slot qT jMin jMax = some (k, q, lo, hi)) (empty : s.programs[k].state = .empty) :
    Served s (s.modifySlot k fun _ => { state := .opened, refs := 0, qT := q, jMin := lo, jMax := hi })
  | redefined {slot : Byte} {qT jMin jMax : Half} {k : Fin 16} {q lo hi : Nat}
    (carried : programValuesOf slot qT jMin jMax = some (k, q, lo, hi)) (opened : s.programs[k].state = .opened) :
    Served s (s.modifySlot k fun p => { p with qT := q, jMin := lo, jMax := hi })
  | slotState {k : Fin 16} {x : SlotState} (before : s.programs[k].state ≠ .empty) (after : x ≠ .empty) :
    Served s (s.modifySlot k fun p => { p with state := x })
  | erased {k : Fin 16} (free : s.programs[k].refs = 0) :
    Served s (s.modifySlot k fun p => { state := .empty, refs := p.refs, qT := 0, jMin := 0, jMax := 0 })
  | speed {v : Nat} (low : 100 ≤ v) (high : v ≤ 10000) : Served s (s.withPos { s.pos with speed := v })
  | ignoredCleared : Served s (clearIgnored s)
  | announced {f : AnnounceFields} {a : Announcement} {t : State}
    (carried : announcementOf s.map.line.lMin f = some a) (fresh : s.tagHeld a.tag = false)
    (room : s.table.queue.length < Config.queueSize) (taken : takeProgram a.slot s = .ok t) :
    Served s (t.withTable { t.table with queue := t.table.queue ++ [a] })
  | cancelled {tag : Nat} {a : Announcement} (found : (s.table.queue.find? fun b => b.tag == tag) = some a) :
    Served s (releaseProgram a.slot (s.withTable { s.table with
      queue := removeFirst (fun b => b.tag == tag) s.table.queue }))
  | amended {f : AmendFields} {a : Amendment} {r : Record} {t : State}
    (carried : amendmentOf s.map.line.lMin f = some a) (found : findTag s.table.live a.tag = some r)
    (clear : s.lengthOverlaps r a.length = false) (moved : moveProgram r.slot (a.program.getD r.slot) s = .ok t) :
    Served s (applyAmend r a t)
  | identified {i : Fin 64} {g : BitVec 8} {word : Half} {tag : Nat} {program : Option (Fin 16)} {r : Record} {t : State}
    (carried : tagOf word = some tag) (found : findRecord s.table.live i g = some r) (untagged : r.tag = 0)
    (fresh : s.tagHeld tag = false) (moved : moveProgram r.slot program s = .ok t) :
    Served s (applyIdentify r tag program t)
  | placed {f : PlaceFields} {p : Placement} {i : Fin 64} {g : BitVec 8} {t : State}
    (carried : placementOf s.map.line.lMin f = some p) (fresh : p.tag ≠ 0 → s.tagHeld p.tag = false)
    (index : s.nextIndex = some (i, g)) (room : s.table.live.length < Config.tableSize)
    (clear : s.placeOverlaps (placedRecord p i g (s.placedMark p.lead)) = false)
    (taken : takeProgram p.slot s = .ok t) : Served s (applyPlace (placedRecord p i g (s.placedMark p.lead)) t)
  | retired {r : Record} (live : r ∈ s.table.live) : Served s (removeRecord r s)
  | walked (c : Cursor) : Served s (s.withTable { s.table with cursor := c })
  | enabled {z : Fin 16} (idle : s.zones[z].state.refusesEnable = false) (ready : s.map.enableable z = true) :
    Served s (enterState z s.enabledInto (clearMisses s.map.zones[z].channels s))
  | disabled {z : Fin 16} (service : s.zones[z].state ≠ .disabled) : Served s (leaveService z .disabled s)
  | staleCleared (c : Fin 32) : Served s (s.modifyChannel c fun k => { k with stale := 0 })
  | halted : Served s (haltLine s)
  | resumed (halted : s.sup.halted = true) (inactive : s.sup.haltNActive = false) :
    Served s (zoneNumbers.foldl tellResume (s.withSup { s.sup with halted := false }))
  | lineReset : Served s (resetLineNow s)
  | addressed {address group : Byte} {a : Nat} {g : Option (Fin 15)} (carried : stationOf address group = some (a, g)) :
    Served s ((s.withLink { s.link with station := a }).withMap { s.map with line := { s.map.line with group := g } })
  | countersCleared :
    Served s (s.withLink { s.link with crcErrors := 0, framingErrors := 0, overruns := 0, groupMisuse := 0 })
  | eventsCleared (m : BitVec 18) :
    Served s ((s.withAttn (s.attn.clearBy m)).withMonitor (s.monitor.cleared m))
  | attention (m : BitVec 18) (mode : AttnMode) {interval : Nat} (low : interval ≤ 60) :
    Served s (s.withAttn (s.attn.configure m mode interval))

section
variable (s : State)

theorem served_takeEdit (r : Request) {edit : Option LineMap} (carried : s.mapEdit r = some edit) :
    Served s (takeEdit edit s).1 := by
  unfold takeEdit
  split
  · exact .still
  · rename_i access
    split
    · exact .still
    · split
      · exact .still
      · split
        · exact .still
        · rename_i keeps valid
          exact .edited access carried (by simpa using keeps) (by simpa using valid)

theorem served_setProfile (f : ProfileFields) : Served s (ownSetProfile f s).1 := by
  unfold ownSetProfile
  split
  · exact .still
  · split
    · exact .still
    · exact .profile ‹_› ‹_›

theorem served_readItem (n : Nat) (item : Byte) (payload : Fin n → List Byte) :
    Served s (readItem n item payload s).1 := by
  unfold readItem
  split <;> exact .still

theorem served_readMap (selector item : Byte) : Served s (ownReadMap selector item s).1 := by
  unfold ownReadMap
  split
  · exact served_readItem ..
  · exact served_readItem ..
  · exact served_readItem ..
  all_goals exact .still

theorem served_mapAccess (operation : Byte) : Served s (ownMapAccess operation s).1 := by
  unfold ownMapAccess
  split
  · exact .still
  · exact .still
  · rename_i unlocked
    exact .access fun locked => (unlocked locked).elim
  · rename_i unlocked
    exact .access fun locked => (unlocked locked).elim
  · exact .access fun _ => rfl
  · exact .still

theorem served_defineProgram (slot : Byte) (qT jMin jMax : Half) :
    Served s (ownDefineProgram slot qT jMin jMax s).1 := by
  unfold ownDefineProgram
  split
  · exact .still
  · split
    · exact .defined ‹_› ‹_›
    · exact .redefined ‹_› ‹_›
    · exact .still
    · exact .still

theorem served_onSlot (slot : Byte) {act : Fin 16 → State × Answer} (h : ∀ k, Served s (act k).1) :
    Served s (onSlot slot act s).1 := by
  unfold onSlot
  split
  · exact .still
  · exact h _

theorem served_readProgram (slot : Byte) : Served s (ownReadProgram slot s).1 := by
  unfold ownReadProgram
  split
  · exact .still
  · exact served_onSlot s slot fun _ => .still

theorem served_freeze (slot : Byte) : Served s (ownFreeze slot s).1 := by
  refine served_onSlot s slot fun k => ?_
  split
  · rename_i before
    exact .slotState (fun empty => nomatch before.symm.trans empty) (by simp)
  all_goals exact .still

theorem served_withdraw (slot : Byte) : Served s (ownWithdraw slot s).1 := by
  refine served_onSlot s slot fun k => ?_
  split
  · rename_i before
    exact .slotState (fun empty => nomatch before.symm.trans empty) (by simp)
  · rename_i before
    exact .slotState (fun empty => nomatch before.symm.trans empty) (by simp)
  all_goals exact .still

theorem served_reinstate (slot : Byte) : Served s (ownReinstate slot s).1 := by
  refine served_onSlot s slot fun k => ?_
  split
  · rename_i before
    exact .slotState (fun empty => nomatch before.symm.trans empty) (by simp)
  all_goals exact .still

theorem served_erase (slot : Byte) : Served s (ownErase slot s).1 := by
  refine served_onSlot s slot fun k => ?_
  split
  · exact .still
  · rename_i free
    exact .erased (by omega)

theorem served_setSpeed (speed : Half) : Served s (ownSetSpeed speed s).1 :=
  .speed (by unfold clamp; omega) (by unfold clamp; omega)

theorem served_readPosition (clear : Byte) : Served s (ownReadPosition clear s).1 := by
  unfold ownReadPosition
  split
  · exact .still
  · exact .ignoredCleared
  · exact .still

theorem served_announce (f : AnnounceFields) : Served s (ownAnnounce f s).1 := by
  unfold ownAnnounce
  split
  · exact .still
  · split
    · exact .still
    · split
      · exact .still
      · split
        · exact .still
        · rename_i carried fresh room _ _ taken
          exact .announced carried (by simpa using fresh) (by omega) taken

theorem served_cancel (tag : Half) : Served s (ownCancel tag s).1 := by
  unfold ownCancel
  split
  · exact .still
  · split
    · exact .still
    · exact .cancelled ‹_›

theorem served_answerRecord (found : Option Record) : Served s (answerRecord found s).1 := by
  unfold answerRecord
  split <;> exact .still

theorem served_lookup (selector : Byte) (key : Long) : Served s (ownLookup selector key s).1 := by
  unfold ownLookup
  split
  · unfold lookupTag
    split
    · exact .still
    · exact served_answerRecord ..
  · unfold lookupIndex
    split
    · exact served_answerRecord ..
    · exact .still
  · exact served_answerRecord ..
  · unfold lookupDisplaced
    split <;> exact .still
  · exact .still

theorem served_amend (f : AmendFields) : Served s (ownAmend f s).1 := by
  unfold ownAmend
  split
  · exact .still
  · split
    · exact .still
    · split
      · exact .still
      · split
        · exact .still
        · rename_i carried _ _ found clear _ _ moved
          exact .amended carried found (by simpa using clear) moved

theorem served_identify (index generation : Byte) (tag : Half) (slot : Option Byte) :
    Served s (ownIdentify index generation tag slot s).1 := by
  unfold ownIdentify
  split
  · exact .still
  · rename_i i t k carried
    have tagged : tagOf tag = some t := by
      simp only [identityOf, Option.bind_eq_bind, Option.bind_eq_some_iff, Option.some.injEq, Prod.mk.injEq] at carried
      obtain ⟨_, _, _, tagged, _, _, _, rfl, _⟩ := carried
      exact tagged
    split
    · exact .still
    · split
      · exact .still
      · split
        · exact .still
        · dsimp only
          split
          · exact .still
          · rename_i found untagged fresh _ _ moved
            exact .identified tagged found (by simpa using untagged) (by simpa using fresh) moved

theorem served_place (f : PlaceFields) : Served s (ownPlace f s).1 := by
  unfold ownPlace
  split
  · exact .still
  · split
    · exact .still
    · split
      · exact .still
      · dsimp only
        split
        · exact .still
        · split
          · exact .still
          · split
            · exact .still
            · rename_i carried fresh _ _ _ index room clear _ _ taken
              exact .placed carried (by simpa using fresh) index (by omega) (by simpa using clear) taken

theorem retireTarget_live {selector : Byte} {key : Half} {r : Record} (h : s.retireTarget selector key = .ok r) :
    r ∈ s.table.live := by
  unfold State.retireTarget at h
  split at h
  · split at h
    · cases h
    · split at h
      · rename_i found
        cases h
        exact List.mem_of_find?_eq_some found
      · cases h
  · split at h
    · cases h
    · split at h
      · rename_i found
        cases h
        exact List.mem_of_find?_eq_some found
      · cases h
  · cases h

theorem served_retire (selector : Byte) (key : Half) : Served s (ownRetire selector key s).1 := by
  unfold ownRetire
  split
  · exact .still
  · exact .retired (retireTarget_live s ‹_›)

theorem served_answerWalk (found : Option Record) : Served s (answerWalk found s).1 := by
  unfold answerWalk
  split <;> exact .walked _

theorem served_enableZone (zone : Byte) : Served s (ownEnableZone zone s).1 := by
  unfold ownEnableZone
  split
  · exact .still
  · split
    · exact .still
    · split
      · exact .still
      · rename_i idle ready
        exact .enabled (by simpa using idle) (by simpa using ready)

theorem served_disableZone (zone : Byte) : Served s (ownDisableZone zone s).1 := by
  unfold ownDisableZone
  split
  · exact .still
  · split
    · exact .still
    · exact .disabled ‹_›

theorem served_readZone (zone : Byte) : Served s (ownReadZone zone s).1 := by
  unfold ownReadZone
  split <;> exact .still

theorem served_readChannel (channel clear : Byte) : Served s (ownReadChannel channel clear s).1 := by
  unfold ownReadChannel
  split
  · exact .still
  · exact .staleCleared _
  · exact .still

theorem served_resume : Served s (ownResume s).1 := by
  unfold ownResume
  split
  · exact .still
  · split
    · exact .still
    · rename_i halted inactive
      have taken : Served s (zoneNumbers.foldl tellResume (s.withSup { s.sup with halted := false })) :=
        .resumed (by simpa using halted) (by simpa using inactive)
      simpa only [accept] using taken

theorem served_setAddress (address group : Byte) : Served s (ownSetAddress address group s).1 := by
  unfold ownSetAddress
  split
  · exact .still
  · exact .addressed ‹_›

theorem served_clearEvents (mask : Mask) : Served s (ownClearEvents mask s).1 := by
  unfold ownClearEvents
  split
  · exact .still
  · exact .eventsCleared _

theorem served_setAttention (mask : Mask) (mode : Byte) (interval : Half) :
    Served s (ownSetAttention mask mode interval s).1 := by
  unfold ownSetAttention
  split
  · exact .attention _ _ (Nat.min_le_right ..)
  · exact .still

/-- Every request does one of these things. -/
theorem served_serve (r : Request) : Served s (serve r s).1 := by
  cases r with
  | setZone f => exact served_takeEdit s (.setZone f) rfl
  | setChannel c iF iR => exact served_takeEdit s (.setChannel c iF iR) rfl
  | setLine f => exact served_takeEdit s (.setLine f) rfl
  | setProfile f => exact served_setProfile s f
  | readMap selector item => exact served_readMap s selector item
  | mapAccess operation => exact served_mapAccess s operation
  | defineProgram slot qT lo hi => exact served_defineProgram s slot qT lo hi
  | readProgram slot => exact served_readProgram s slot
  | freeze slot => exact served_freeze s slot
  | withdraw slot => exact served_withdraw s slot
  | reinstate slot => exact served_reinstate s slot
  | erase slot => exact served_erase s slot
  | setSpeed speed => exact served_setSpeed s speed
  | readPosition clear => exact served_readPosition s clear
  | announce f => exact served_announce s f
  | cancelAnnouncement tag => exact served_cancel s tag
  | lookup selector key => exact served_lookup s selector key
  | amend f => exact served_amend s f
  | identify index generation tag slot => exact served_identify s index generation tag slot
  | place f => exact served_place s f
  | retire selector key => exact served_retire s selector key
  | walkFirst => exact served_answerWalk s _
  | walkNext => exact served_answerWalk s _
  | readQueue => exact .still
  | enableZone zone => exact served_enableZone s zone
  | disableZone zone => exact served_disableZone s zone
  | readZone zone => exact served_readZone s zone
  | readChannel channel clear => exact served_readChannel s channel clear
  | readFaults => exact .still
  | halt => exact .halted
  | resume => exact served_resume s
  | resetLine => exact .lineReset
  | setAddress address group => exact served_setAddress s address group
  | readLink => exact .countersCleared
  | readEvents => exact .still
  | clearEvents mask => exact served_clearEvents s mask
  | setAttention mask mode interval => exact served_setAttention s mask mode interval

end

end Sys2Proof.Machine

/-! The law of the drive queue (R127, R131). -/

namespace Sys2Proof.Machine

/-! ### From what a step does to a law that it keeps -/

/-- A law that every reset establishes and that each event, each owner and the plant link keep, a step keeps. -/
theorem Stepped.keeps {Law : State → Prop} {s t : State} (h : Stepped s t) (law : Law s)
    (powerOn : ∀ pins, pins.haltNHigh = true → Law (powerOnState pins s.pending))
    (halted : ∀ pins, Law (haltLine (powerOnState pins s.pending)))
    (low : Law { s.cutShort with inReset := true })
    (event : s.inReset = false → ∀ u, Happened s u → Law u)
    (served : s.inReset = false → ∀ u, Served s u → Law u)
    (link : ∀ u l, Law u → Law (u.withLink l)) (raised : ∀ u, Law u → Law (raise .link u)) : Law t := by
  cases h with
  | still => exact law
  | powerOn pins high => exact powerOn pins high
  | powerOnHalted pins => exact halted pins
  | resetLow => exact low
  | event awake happened => exact event awake _ happened
  | link awake received =>
    cases received with
    | served r rc b => exact link _ _ (served awake _ (served_serve s r))
    | moved l _ => exact link _ _ law
    | raised l _ => exact raised _ (link _ _ law)

/-! ### The drive queue -/

/-- R131: the law of the drive queue of a part out of reset. -/
theorem queueLaw_iff_lawful {s : State} (awake : s.inReset = false) : QueueLaw s ↔ s.drive.Lawful :=
  ⟨fun h => ⟨h.places, h.busy awake⟩, fun h => ⟨h.places, fun _ => h.busy⟩⟩

theorem Works.queueLaw {E : List Event} {s t : State} (w : Works E s t) (awake : s.inReset = false)
    (same : t.inReset = s.inReset) (h : QueueLaw s) : QueueLaw t :=
  (queueLaw_iff_lawful (same.trans awake)).2 (w.drive.lawful ((queueLaw_iff_lawful awake).1 h))

theorem lawful_modifyChannel {s : State} (h : s.drive.Lawful) (c : Fin 32) (f : ChannelState → ChannelState) :
    (s.modifyChannel c f).drive.Lawful := ⟨h.places, h.busy⟩

theorem lawful_clearMisses {s : State} (h : s.drive.Lawful) (l : List (Fin 32)) : (clearMisses l s).drive.Lawful := by
  induction l generalizing s with
  | nil => exact h
  | cons c l ih => exact ih (lawful_modifyChannel h c _)

theorem works_enterState (z : Fin 16) (x : ZoneState) (s : State) : Works [.limited] s (enterState z x s) := by
  unfold enterState
  split
  · exact works_enterService ..
  · exact works_enterService ..
  · exact works_adjustZone z s

theorem works_tellResumes (s : State) : Works [] s (zoneNumbers.foldl tellResume s) :=
  works_foldl (f := tellResume) (fun t z => works_tellResume z t) _ s

theorem lawful_clearForReset (s : State) : (clearForReset s).drive.Lawful :=
  ⟨List.nodup_nil, fun waits => absurd rfl waits⟩

theorem lawful_resetLineNow (s : State) : (resetLineNow s).drive.Lawful :=
  (works_postStops _ none (clearForReset s)).drive.lawful (lawful_clearForReset s)

/-- Every owner's step leaves a lawful queue lawful. -/
theorem Served.lawful {s t : State} (h : Served s t) (law : s.drive.Lawful) : t.drive.Lawful := by
  cases h with
  | still | profile | access | defined | redefined | slotState | erased | speed | ignoredCleared | walked | addressed
  | countersCleared | eventsCleared | attention => exact law
  | edited | cancelled | retired => simpa using law
  | announced _ _ _ taken => simpa [takeProgram_keeps taken] using law
  | amended _ _ _ moved => simpa [moveProgram_keeps moved] using law
  | identified _ _ _ _ moved => simpa [moveProgram_keeps moved] using law
  | placed _ _ _ _ _ taken => simpa [takeProgram_keeps taken] using law
  | enabled => exact (works_enterState ..).drive.lawful (lawful_clearMisses law _)
  | disabled => exact (works_leaveService ..).drive.lawful law
  | staleCleared => exact lawful_modifyChannel law ..
  | halted => exact (works_haltLine s).drive.lawful law
  | resumed => exact (works_tellResumes _).drive.lawful law
  | lineReset => exact lawful_resetLineNow s

/-- Every event leaves a lawful queue lawful. -/
theorem Happened.lawful {s t : State} (h : Happened s t) (law : s.drive.Lawful) : t.drive.Lawful := by
  cases h with
  | encoder sense => exact (works_encoderStep sense s).drive.lawful law
  | stopTimer => exact (works_stopTimerExpires s).drive.lawful law
  | parkTimer => exact (works_parkTimerExpires s).drive.lawful law
  | edge => simpa using law
  | otherEdge | skipped | haltInactive | pulseTimer | reminderTimer => exact law
  | haltActive => exact (works_haltLine _).drive.lawful law
  | period z => exact (works_periodTimerExpires z s).drive.lawful law
  | restart z => exact (works_restartTimerExpires z s).drive.lawful law
  | frameSent =>
    unfold Machine.frameSent
    split
    · split
      · split
        · exact (works_endTransaction s).drive.lawful law
        · exact ⟨law.places, fun _ => by simp [State.withBusPhase]⟩
      · exact law
    · exact law
  | replyBegun =>
    unfold Machine.replyBegun
    split
    · split
      · exact ⟨law.places, fun _ => by simp [State.withBusPhase]⟩
      · exact law
    · exact law
  | goodEnd item c st rbs => exact (works_goodEnd item c st rbs s).drive.lawful (lawful_modifyChannel law ..)
  | badEnd item c how => exact (works_badEnd item c how s).drive.lawful (lawful_modifyChannel law ..)

@[simp] theorem Happened.inReset {s t : State} (h : Happened s t) : t.inReset = s.inReset := by
  cases h <;> simp

@[simp] theorem Served.inReset {s t : State} (h : Served s t) : t.inReset = s.inReset := by
  cases h with
  | announced _ _ _ taken => simp [takeProgram_keeps taken]
  | amended _ _ _ moved => simp [moveProgram_keeps moved]
  | identified _ _ _ _ moved => simp [moveProgram_keeps moved]
  | placed _ _ _ _ _ taken => simp [takeProgram_keeps taken]
  | lineReset => simp [resetLineNow, clearForReset]
  | _ => simp [clearIgnored]

/-- Settles O53: every step keeps the law of the drive queue. A posted item takes an empty place or replaces the one in
its own, and whatever ends a transaction lets the arbiter choose the next. -/
theorem queueLawIsKept : Obligations.QueueLawIsKept := by
  intro s t law h
  obtain ⟨waiting, h⟩ := stepped_of_step h
  have start : QueueLaw { s with pending := waiting } := ⟨law.places, law.busy⟩
  have powerOn (pins : Pins) : QueueLaw (powerOnState pins waiting) :=
    ⟨List.nodup_nil, fun _ waits => absurd rfl waits⟩
  refine h.keeps start (fun pins _ => powerOn pins)
    (fun pins => (works_haltLine _).queueLaw rfl (by simp) (powerOn pins)) ⟨law.places, nofun⟩ (fun awake u k => ?event)
    (fun awake u k => ?served) (fun u l k => ⟨k.places, k.busy⟩) (fun u k => ⟨k.places, k.busy⟩)
  case event => exact (queueLaw_iff_lawful (k.inReset.trans awake)).2 (k.lawful ((queueLaw_iff_lawful awake).1 start))
  case served => exact (queueLaw_iff_lawful (k.inReset.trans awake)).2 (k.lawful ((queueLaw_iff_lawful awake).1 start))

end Sys2Proof.Machine

/-! What the calls and the watches make of the record they name, exactly, and of the whole line (R50 to R52, R64 to
R67). A record is named by where it stands in the line: behind records of other indexes. -/

namespace Sys2Proof.Machine

/-- The event is raised where the condition holds. -/
def raiseIf (b : Bool) (e : Event) (s : State) : State := if b then raise e s else s

@[simp] theorem raiseIf_false (e : Event) (s : State) : raiseIf false e s = s := rfl
@[simp] theorem raiseIf_true (e : Event) (s : State) : raiseIf true e s = raise e s := rfl

@[simp] theorem raiseIf_keeps (b : Bool) (e : Event) (s : State) :
    (raiseIf b e s).map = s.map ∧ (raiseIf b e s).programs = s.programs ∧ (raiseIf b e s).pos = s.pos ∧
    (raiseIf b e s).table = s.table ∧ (raiseIf b e s).zones = s.zones ∧ (raiseIf b e s).drive = s.drive ∧
    (raiseIf b e s).monitor = s.monitor ∧ (raiseIf b e s).sup = s.sup ∧ (raiseIf b e s).link = s.link ∧
    (raiseIf b e s).inReset = s.inReset ∧ (raiseIf b e s).pending = s.pending := by
  cases b <;> simp

theorem raiseIf_attn (b : Bool) (e : Event) (s : State) :
    (raiseIf b e s).attn = if b then s.attn.raiseFlag e else s.attn := by
  cases b <;> rfl

theorem raiseIf_withLive (b : Bool) (e : Event) (s : State) (l : List Record) :
    (raiseIf b e s).withLive l = raiseIf b e (s.withLive l) := by
  cases b <;> rfl

@[simp] theorem withLive_withLive (s : State) (l m : List Record) : (s.withLive l).withLive m = s.withLive m := rfl
@[simp] theorem withLive_self (s : State) : s.withLive s.table.live = s := rfl

/-- R178: a flag that is set is not changed by another raise. -/
theorem raiseFlag_of_isSet {a : Attention} {e : Event} (set : a.isSet e = true) : a.raiseFlag e = a := by
  rw [Attention.raiseFlag, if_pos set]

/-- R178: two raises of one event in a row set the flag as one does. -/
theorem raiseIf_raiseIf (b c : Bool) (e : Event) (s : State) :
    raiseIf b e (raiseIf c e s) = raiseIf (c || b) e s := by
  cases c with
  | false => rfl
  | true =>
    cases b with
    | false => rfl
    | true => exact congrArg s.withAttn (raiseFlag_of_isSet (raiseFlag_isSet ..))

/-! ### The record at a place of the line -/

/-- R54: the record is the first of the line that its index and generation name. -/
structure FirstNamed (s : State) (ahead : List Record) (r : Record) (behind : List Record) : Prop where
  line : s.table.live = ahead ++ r :: behind
  others : ∀ q ∈ ahead, q.named r.index r.generation = false

/-- R55: the line with the record at this place, behind records of other indexes. -/
structure AtPlace (s : State) (ahead : List Record) (r : Record) (behind : List Record) : Prop where
  line : s.table.live = ahead ++ r :: behind
  others : ∀ q ∈ ahead, q.index ≠ r.index

section
variable {s : State} {ahead behind : List Record} {r : Record}

theorem FirstNamed.find (h : FirstNamed s ahead r behind) : findRecord s.table.live r.index r.generation = some r := by
  rw [h.line]
  exact findRecord_append_cons h.others

theorem FirstNamed.modify (h : FirstNamed s ahead r behind) (f : Record → Record) :
    modifyRecord r.index r.generation f s = s.withLive (ahead ++ f r :: behind) := by
  rw [modifyRecord, h.line, modifyFirst_append h.others r.named_self]

/-- The record replaced, with its index and generation kept. -/
theorem FirstNamed.withLive (h : FirstNamed s ahead r behind) {q : Record} (index : q.index = r.index)
    (generation : q.generation = r.generation) : FirstNamed (s.withLive (ahead ++ q :: behind)) ahead q behind :=
  ⟨rfl, by rw [index, generation]; exact h.others⟩

theorem AtPlace.first (h : AtPlace s ahead r behind) : FirstNamed s ahead r behind :=
  ⟨h.line, fun q mem => Record.named_eq_false_iff.2 (.inl (h.others q mem))⟩

theorem AtPlace.notNamed (h : AtPlace s ahead r behind) : ∀ q ∈ ahead, q.named r.index r.generation = false :=
  h.first.others

theorem AtPlace.find (h : AtPlace s ahead r behind) : findRecord s.table.live r.index r.generation = some r :=
  h.first.find

theorem AtPlace.modify (h : AtPlace s ahead r behind) (f : Record → Record) :
    modifyRecord r.index r.generation f s = s.withLive (ahead ++ f r :: behind) := h.first.modify f

/-- The record replaced, with its index kept. -/
theorem AtPlace.withLive (h : AtPlace s ahead r behind) {q : Record} (same : q.index = r.index) :
    AtPlace (s.withLive (ahead ++ q :: behind)) ahead q behind :=
  ⟨rfl, same ▸ h.others⟩

/-- R65: the model's judgement is the first of the three outcomes that holds. -/
theorem judge_eq_outcomeNow (r : Record) : r.judge = r.outcomeNow := by
  have face (a : Nat) (m : Option Int) : ((a == 0 || m.isSome) = true) ↔ (0 < a → m ≠ none) := by
    cases m <;> simp [Nat.pos_iff_ne_zero]
  simp only [Record.judge, Record.outcomeNow, Option.isNone_iff_eq_none, Bool.and_eq_true, face]

theorem decides_eq (r : Record) :
    (r.platingClosed && r.pendingCount == 0 && r.outcome.isNone) = r.decides := by
  rw [Bool.eq_iff_iff]
  simp [Record.decides, and_assoc]

theorem fallsShort_of_decides {r : Record} (d : r.decides = true) : r.fallsShort = decide (r.outcomeNow = .short) := by
  rw [Record.fallsShort, d, Bool.true_and]

@[simp] theorem settled_index (r : Record) : r.settled.index = r.index := by
  unfold Record.settled
  split <;> rfl

/-- R65: an outcome call decides the outcome where that is due, and raises SHORTFALL for a SHORT one. -/
theorem FirstNamed.settle (h : FirstNamed s ahead r behind) :
    settleOutcome r.index r.generation s
      = raiseIf r.fallsShort .shortfall (s.withLive (ahead ++ r.settled :: behind)) := by
  rw [settleOutcome, h.find]
  simp only [decides_eq, h.modify, judge_eq_outcomeNow]
  by_cases d : r.decides = true
  · rw [if_pos d, fallsShort_of_decides d, Record.settled, if_pos d]
    by_cases short : r.outcomeNow = .short
    · simp [short]
    · simp [short]
  · have notShort : r.fallsShort = false := by simp [Record.fallsShort, d]
    have still : r.settled = r := if_neg d
    rw [if_neg d, notShort, raiseIf_false, still, ← h.line]
    rfl

theorem AtPlace.settle (h : AtPlace s ahead r behind) :
    settleOutcome r.index r.generation s
      = raiseIf r.fallsShort .shortfall (s.withLive (ahead ++ r.settled :: behind)) := h.first.settle

/-- R66, R65: the release entry call of a live record. -/
theorem FirstNamed.release (h : FirstNamed s ahead r behind) :
    let q : Record := { r with pendingCount := r.pendingCount - 1 }
    releaseEntry r.index r.generation s
      = raiseIf q.fallsShort .shortfall (s.withLive (ahead ++ q.settled :: behind)) := by
  intro q
  rw [releaseEntry, h.modify]
  exact (h.withLive (q := q) rfl rfl).settle

theorem AtPlace.release (h : AtPlace s ahead r behind) :
    let q : Record := { r with pendingCount := r.pendingCount - 1 }
    releaseEntry r.index r.generation s
      = raiseIf q.fallsShort .shortfall (s.withLive (ahead ++ q.settled :: behind)) := h.first.release

theorem AtPlace.hold (h : AtPlace s ahead r behind) :
    holdRecord r.index r.generation s
      = s.withLive (ahead ++ { r with pendingCount := r.pendingCount + 1 } :: behind) := h.modify _

/-- R50, R65: the plating-end watch tests a live record. -/
theorem AtPlace.platingEnd (h : AtPlace s ahead r behind) :
    platingEndWatch r.index r.generation s
      = raiseIf (s.plates r && ({ r with platingClosed := true } : Record).fallsShort) .shortfall
          (s.withLive (ahead ++ s.plated r :: behind)) := by
  rw [platingEndWatch, h.find]
  simp only [h.modify]
  change (if s.plates r = true then _ else s) = _
  by_cases p : s.plates r = true
  · rw [if_pos p, p, Bool.true_and, State.plated, if_pos p]
    exact (h.withLive (q := { r with platingClosed := true }) rfl).settle
  · have kept : s.plated r = r := if_neg p
    rw [if_neg p, (Bool.not_eq_true _).mp p, Bool.false_and, raiseIf_false, kept, ← h.line]
    rfl

/-- R64: the record after the exit-window watch has tested it. -/
def State.sighted (s : State) (r : Record) : Record := if s.losesSight r then { r with state := .lost } else r

/-- R51, R64: the exit-window watch tests a live record. -/
theorem AtPlace.exitWindow (h : AtPlace s ahead r behind) :
    exitWindowWatch r.index r.generation s
      = raiseIf (s.losesSight r) .missedExit (s.withLive (ahead ++ s.sighted r :: behind)) := by
  rw [exitWindowWatch, h.find]
  simp only [h.modify]
  by_cases lost : r.state = .tracking ∧ ((s.map.line.xExit + s.map.line.window : Nat) : Int) < s.lead r
  · have sight : s.losesSight r = true := decide_eq_true lost
    rw [if_pos lost, sight, raiseIf_true, State.sighted, if_pos sight]
  · have sight : s.losesSight r = false := decide_eq_false lost
    have kept : s.sighted r = r := if_neg (by simp [sight])
    rw [if_neg lost, sight, raiseIf_false, kept, ← h.line]
    rfl

end

/-! ### The watches over the line (R52) -/

@[simp] theorem plated_index (s : State) (r : Record) : (s.plated r).index = r.index := by
  unfold State.plated
  split
  · rw [settled_index]
  · rfl

@[simp] theorem sighted_index (s : State) (r : Record) : (s.sighted r).index = r.index := by
  unfold State.sighted
  split <;> rfl

/-- A call that replaces the record it names, and raises an event for some records, replaces each record of the line
once when it goes over the whole line. -/
theorem foldl_line {call : Fin 64 → BitVec 8 → State → State} {f : Record → Record} {p : Record → Bool} {e : Event}
    (index : ∀ r : Record, (f r).index = r.index) (s : State)
    (each : ∀ (t : State) (ahead behind : List Record) (r : Record), t.map = s.map → t.pos = s.pos →
      AtPlace t ahead r behind →
      call r.index r.generation t = raiseIf (p r) e (t.withLive (ahead ++ f r :: behind)))
    (distinct : (s.table.live.map Record.index).Nodup) :
    s.table.live.foldl (fun t (r : Record) => call r.index r.generation t) s
      = raiseIf (s.table.live.any p) e (s.withLive (s.table.live.map f)) := by
  have rest (done todo : List Record) (h : s.table.live = done ++ todo) :
      todo.foldl (fun t (r : Record) => call r.index r.generation t)
          (raiseIf (done.any p) e (s.withLive (done.map f ++ todo)))
        = raiseIf (s.table.live.any p) e (s.withLive (s.table.live.map f)) := by
    induction todo generalizing done with
    | nil => simp [h]
    | cons r todo ih =>
      have others : ∀ q ∈ done.map f, q.index ≠ r.index := by
        rw [h, List.map_append, List.map_cons] at distinct
        intro q mem
        obtain ⟨o, inDone, rfl⟩ := List.mem_map.1 mem
        rw [index]
        exact fun same => (List.nodup_append.1 distinct).2.2 _ (List.mem_map_of_mem inDone) _ (List.mem_cons_self ..) same
      rw [List.foldl_cons, each _ (done.map f) todo r (by simp) (by simp) ⟨by simp, others⟩, raiseIf_withLive,
        raiseIf_raiseIf]
      have next := ih (done ++ [r]) (by simp [h])
      simpa using next
  simpa using rest [] s.table.live rfl

/-- R50, R52: the plating-end watch over every live record. -/
theorem platingEndWatchAll_eq {s : State} (distinct : (s.table.live.map Record.index).Nodup) :
    platingEndWatchAll s = raiseIf
      (s.table.live.any fun r => s.plates r && ({ r with platingClosed := true } : Record).fallsShort) .shortfall
      (s.withLive (s.table.live.map s.plated)) := by
  refine foldl_line (call := platingEndWatch) (plated_index s) s (fun t ahead behind r sameMap samePos place => ?_) distinct
  have lead : t.lead = s.lead := by funext; rw [State.lead, State.lead, sameMap, samePos]
  have plates : t.plates = s.plates := by funext; rw [State.plates, State.plates, sameMap, State.trail, State.trail, lead]
  have plated : t.plated = s.plated := by funext; rw [State.plated, State.plated, plates]
  rw [place.platingEnd, plates, plated]

/-- R51, R52: the exit-window watch over every live record. -/
theorem exitWindowWatchAll_eq {s : State} (distinct : (s.table.live.map Record.index).Nodup) :
    exitWindowWatchAll s = raiseIf (s.table.live.any s.losesSight) .missedExit
      (s.withLive (s.table.live.map s.sighted)) := by
  refine foldl_line (call := exitWindowWatch) (sighted_index s) s (fun t ahead behind r sameMap samePos place => ?_) distinct
  have lead : t.lead = s.lead := by funext; rw [State.lead, State.lead, sameMap, samePos]
  have sight : t.losesSight = s.losesSight := by funext; rw [State.losesSight, State.losesSight, sameMap, lead]
  have sighted : t.sighted = s.sighted := by funext; rw [State.sighted, State.sighted, sight]
  rw [place.exitWindow, sight, sighted]

end Sys2Proof.Machine

/-! The law of tags and the law of capacity (R55, R56, R59). -/

namespace Sys2Proof.Machine

section
variable {s t : State}

theorem TableLaw.of_table (h : TableLaw s) (same : t.table = s.table) : TableLaw t := by
  obtain ⟨indexes, generations, tags, room, queue⟩ := h
  refine ⟨same ▸ indexes, same ▸ generations, ?_, same ▸ room, same ▸ queue⟩
  simpa only [State.heldTags, same] using tags

theorem map_eq_of_forall₂ {α β : Type} {R : α → α → Prop} {f : α → β} (keeps : ∀ x y, R x y → f y = f x) {l m : List α}
    (h : List.Forall₂ R l m) : m.map f = l.map f := by
  induction h with
  | nil => rfl
  | cons head _ ih => rw [List.map_cons, List.map_cons, keeps _ _ head, ih]

/-- The law speaks of the index, the generation and the tag of each record. -/
theorem TableLaw.of_parts (h : TableLaw s) (index : t.table.live.map Record.index = s.table.live.map Record.index)
    (generation : t.table.live.map Record.generation = s.table.live.map Record.generation)
    (tag : t.table.live.map Record.tag = s.table.live.map Record.tag)
    (rest : t.table = { s.table with live := t.table.live }) : TableLaw t := by
  have generations : t.table.generations = s.table.generations := by rw [rest]
  have queue : t.table.queue = s.table.queue := by rw [rest]
  have room : t.table.live.length = s.table.live.length := by simpa using congrArg List.length index
  have pairs : t.table.live.map (fun r => (r.index, r.generation))
      = s.table.live.map fun r => (r.index, r.generation) := by
    have zipped (l : List Record) :
        (l.map fun r => (r.index, r.generation)) = (l.map Record.index).zip (l.map Record.generation) := by
      rw [List.zip_map', List.map_congr_left fun _ _ => rfl]
    rw [zipped, zipped, index, generation]
  refine ⟨index ▸ h.indexes, fun r mem => ?_, ?_, room ▸ h.room, queue ▸ h.queue⟩
  · obtain ⟨q, live, same⟩ : ∃ q ∈ s.table.live, (q.index, q.generation) = (r.index, r.generation) :=
      List.mem_map.1 (pairs ▸ List.mem_map_of_mem mem)
    obtain ⟨sameIndex, sameGeneration⟩ := Prod.mk.inj same
    rw [generations, ← sameGeneration, ← h.generations q live]
    exact congrArg (fun i : Fin 64 => s.table.generations[i]) sameIndex.symm
  · rw [State.heldTags, tag, queue]
    exact h.tags

theorem Works.tableLaw {E : List Event} (w : Works E s t) (h : TableLaw s) : TableLaw t :=
  h.of_parts (map_eq_of_forall₂ (R := Record.Worked) (fun _ _ k => k.index) w.table.live)
    (map_eq_of_forall₂ (R := Record.Worked) (fun _ _ k => k.generation) w.table.live)
    (map_eq_of_forall₂ (R := Record.Worked) (fun _ _ k => k.tag) w.table.live) w.table.rest

/-- A record changed in what the law does not speak of. -/
theorem TableLaw.modifyRecord (h : TableLaw s) (i : Fin 64) (g : BitVec 8) {f : Record → Record}
    (same : ∀ r, (f r).index = r.index ∧ (f r).generation = r.generation ∧ (f r).tag = r.tag) :
    TableLaw (modifyRecord i g f s) :=
  h.of_parts (map_modifyFirst (fun r => (same r).1) _) (map_modifyFirst (fun r => (same r).2.1) _)
    (map_modifyFirst (fun r => (same r).2.2) _) rfl

/-- Records or announcements taken away. -/
theorem TableLaw.sublist (h : TableLaw s) (live : t.table.live.Sublist s.table.live)
    (queue : t.table.queue.Sublist s.table.queue) (generations : t.table.generations = s.table.generations) :
    TableLaw t where
  indexes := (live.map _).nodup h.indexes
  generations r mem := by rw [generations]; exact h.generations r (live.subset mem)
  tags := (((live.map _).append (queue.map _)).filter _).nodup h.tags
  room := live.length_le.trans h.room
  queue := queue.length_le.trans h.queue

/-- R56: a tag that is not held is none of the held tags. -/
theorem tagHeld_eq_false {tag : Nat} (h : s.tagHeld tag = false) :
    tag ∉ s.table.live.map Record.tag ++ s.table.queue.map Announcement.tag := by
  simp only [State.tagHeld, Bool.or_eq_false_iff, List.any_eq_false, beq_iff_eq] at h
  simp only [List.mem_append, List.mem_map, not_or, not_exists, not_and]
  exact h

/-- A list of tags with one more, 0 or a new one. -/
theorem nodup_filter_cons {tag : Nat} {l : List Nat} (h : (l.filter fun t => t != 0).Nodup) (new : tag = 0 ∨ tag ∉ l) :
    ((tag :: l).filter fun t => t != 0).Nodup := by
  by_cases zero : tag = 0
  · simpa [zero] using h
  · have absent := new.resolve_left zero
    rw [List.filter_cons_of_pos (by simpa using zero)]
    exact List.nodup_cons.2 ⟨fun mem => absent (List.mem_of_mem_filter mem), h⟩

/-- R55, R56: a record made at a free index, with no tag or a new one. -/
theorem TableLaw.put (h : TableLaw s) {ahead behind : List Record} {r : Record} (line : s.table.live = ahead ++ behind)
    (free : ∀ q ∈ s.table.live, q.index ≠ r.index) (tag : r.tag = 0 ∨ s.tagHeld r.tag = false)
    (room : s.table.live.length < 64) : TableLaw (putRecord (ahead ++ r :: behind) r s) where
  indexes := by
    refine (List.perm_middle.map Record.index).nodup_iff.2 (List.nodup_cons.2 ⟨fun mem => ?_, line ▸ h.indexes⟩)
    obtain ⟨q, live, same⟩ := List.mem_map.1 mem
    exact free q (line ▸ live) same
  generations q mem := by
    have member : q = r ∨ q ∈ s.table.live := by
      rw [line]
      exact List.mem_cons.1 (List.perm_middle.mem_iff.1 mem)
    rcases member with rfl | old
    · simp [putRecord]
    · have kept := bankSet_get_other s.table.generations (free q old) r.generation
      exact kept.trans (h.generations q old)
  tags := by
    have permuted : ((ahead ++ r :: behind).map Record.tag ++ s.table.queue.map Announcement.tag).Perm
        (r.tag :: (s.table.live.map Record.tag ++ s.table.queue.map Announcement.tag)) := by
      rw [line]
      exact (List.perm_middle.map Record.tag).append_right _
    exact (permuted.filter _).nodup_iff.2 (nodup_filter_cons h.tags (tag.imp_right tagHeld_eq_false))
  room := by
    have grown : (ahead ++ r :: behind).length = s.table.live.length + 1 := by simp [line]; omega
    exact grown.le.trans room
  queue := h.queue

theorem nextIndex_some {i : Fin 64} {g : BitVec 8} (h : s.nextIndex = some (i, g)) :
    (∀ q ∈ s.table.live, q.index ≠ i) ∧ g = s.table.generations[i] + 1 := by
  obtain ⟨j, found, same⟩ := Option.map_eq_some_iff.1 h
  obtain ⟨rfl, rfl⟩ := Prod.mk.inj same
  exact ⟨freeIndex_some found, rfl⟩

/-! ### Entry arrivals -/

theorem tableLaw_clipRearmost (rear : Option Record) (h : TableLaw s) : TableLaw (clipRearmost rear s) := by
  unfold clipRearmost
  split
  · exact h
  · split
    · refine (works_platingEndWatch ..).tableLaw ?_
      exact (h.modifyRecord _ _ (f := fun q => { q with
        length := (s.lead q).toNat, marks := { q.marks with clipped := true } }) fun _ => ⟨rfl, rfl, rfl⟩).of_table rfl
    · exact h

theorem tableLaw_bindAnnouncement {a : Announcement} {rest : List Announcement} {i : Fin 64} {g : BitVec 8}
    (h : TableLaw s) (queued : s.table.queue = a :: rest) (free : ∀ q ∈ s.table.live, q.index ≠ i)
    (room : s.table.live.length < 64) : TableLaw (bindAnnouncement a rest i g s) := by
  let u := s.withTable { s.table with queue := rest }
  have start : TableLaw u := h.sublist (.refl _) (queued ▸ List.sublist_cons_self ..) rfl
  have tag : a.tag = 0 ∨ u.tagHeld a.tag = false := by
    by_cases zero : a.tag = 0
    · exact .inl zero
    · refine .inr ?_
      have tags := h.tags
      rw [State.heldTags, queued, List.map_cons, (List.perm_middle.filter _).nodup_iff,
        List.filter_cons_of_pos (by simpa using zero), List.nodup_cons] at tags
      have absent := tags.1
      simp only [List.mem_filter, List.mem_append, List.mem_map, bne_iff_ne, not_and, not_not] at absent
      simp only [State.tagHeld, Bool.or_eq_false_iff, List.any_eq_false, beq_iff_eq]
      exact ⟨fun r live same => zero (absent (.inl ⟨r, live, same⟩)), fun b mem same => zero (absent (.inr ⟨b, mem, same⟩))⟩
  unfold bindAnnouncement
  refine (start.put (behind := []) ?_ ?_ ?_ ?_).of_table (raise_keeps ..).2.2.2.1
  · exact (List.append_nil _).symm
  · exact free
  · exact tag
  · exact room

theorem takeProgram_table {k : Option (Fin 16)} (taken : takeProgram k s = .ok t) : t.table = s.table :=
  (takeProgram_keeps taken).2.2.1

theorem moveProgram_table {a b : Option (Fin 16)} (moved : moveProgram a b s = .ok t) : t.table = s.table :=
  (moveProgram_keeps moved).2.2.1

/-- R61, step 4: the record of a carrier that was not announced. -/
def State.unannouncedRecord (s : State) (i : Fin 64) (g : BitVec 8) (slot : Option (Fin 16)) : Record :=
  { Record.fresh i g s.pos.count .unannounced with
    length := s.map.line.defaultLength
    areaA := s.map.line.defaultAreaA
    areaB := s.map.line.defaultAreaB
    slot := slot }

/-- R61, step 4: the default program is taken, or the record has none. -/
def TakesDefault (s : State) (slot : Option (Fin 16)) (u : State) : Prop :=
  (slot = s.map.line.defaultSlot ∧ takeProgram s.map.line.defaultSlot s = .ok u)
    ∨ (slot = none ∧ (∃ e, takeProgram s.map.line.defaultSlot s = .error e) ∧ u = s)

theorem makeUnannounced_eq (i : Fin 64) (g : BitVec 8) (s : State) :
    ∃ slot u, TakesDefault s slot u ∧ makeUnannounced i g s = raise .unannounced
      (putRecord (s.table.live ++ [s.unannouncedRecord i g slot]) (s.unannouncedRecord i g slot) u) := by
  unfold makeUnannounced
  dsimp only
  split
  · rename_i u taken
    refine ⟨_, u, .inl ⟨rfl, taken⟩, ?_⟩
    rw [← takeProgram_table taken]
    rfl
  · rename_i e refused
    exact ⟨none, s, .inr ⟨rfl, ⟨e, refused⟩, rfl⟩, rfl⟩

theorem TakesDefault.keeps {slot : Option (Fin 16)} {u : State} (h : TakesDefault s slot u) :
    u.map = s.map ∧ u.pos = s.pos ∧ u.table = s.table ∧ u.attn = s.attn := by
  rcases h with ⟨-, taken⟩ | ⟨-, -, rfl⟩
  · obtain ⟨map, pos, table, -, -, -, -, -, attn, -⟩ := takeProgram_keeps taken
    exact ⟨map, pos, table, attn⟩
  · exact ⟨rfl, rfl, rfl, rfl⟩

theorem tableLaw_makeUnannounced {i : Fin 64} {g : BitVec 8} (h : TableLaw s)
    (free : ∀ q ∈ s.table.live, q.index ≠ i) (room : s.table.live.length < 64) :
    TableLaw (makeUnannounced i g s) := by
  obtain ⟨slot, u, takes, made⟩ := makeUnannounced_eq i g s
  obtain ⟨-, -, table, -⟩ := takes.keeps
  rw [made]
  refine ((h.of_table table).put (behind := []) ?_ ?_ (.inl rfl) ?_).of_table (raise_keeps ..).2.2.2.1
  · rw [table, List.append_nil]
  · rw [table]
    exact free
  · rw [table]
    exact room

theorem tableLaw_admitCarrier (h : TableLaw s) (room : s.table.live.length < 64) : TableLaw (admitCarrier s) := by
  unfold admitCarrier
  split
  · exact h
  · rename_i i g next
    obtain ⟨free, -⟩ := nextIndex_some next
    refine (works_exitWindowWatch ..).tableLaw ((works_platingEndWatch ..).tableLaw (tableLaw_clipRearmost _ ?_))
    split
    · exact tableLaw_bindAnnouncement h ‹_› free room
    · exact tableLaw_makeUnannounced h free room

theorem removeRecord_table (r : Record) (s : State) : (removeRecord r s).table = { s.table with
    live := removeFirst (fun q => q.named r.index r.generation) s.table.live
    cursor := s.table.cursor.without r.index r.generation s.table.live } := by
  simp [removeRecord]

theorem tableLaw_removeRecord (r : Record) (h : TableLaw s) : TableLaw (removeRecord r s) := by
  refine h.sublist ?_ ?_ ?_ <;> rw [removeRecord_table]
  exact removeFirst_sublist ..

theorem tableLaw_displaceRecord (r : Record) (h : TableLaw s) : TableLaw (displaceRecord r s) :=
  (tableLaw_removeRecord r h).sublist (.refl _) (.refl _) rfl

theorem length_removeFirst_of_mem {α : Type} {test : α → Bool} {l : List α} {x : α} (mem : x ∈ l) (hx : test x = true) :
    (removeFirst test l).length + 1 = l.length := by
  induction l with
  | nil => cases mem
  | cons y l ih =>
    by_cases hy : test y = true
    · simp [removeFirst, hy]
    · have rest : x ∈ l := by
        rcases List.mem_cons.1 mem with rfl | rest
        · exact absurd hx hy
        · exact rest
      simp [removeFirst, hy, ih rest]

theorem displaceRecord_length {r : Record} (live : r ∈ s.table.live) :
    (displaceRecord r s).table.live.length + 1 = s.table.live.length := by
  have removed : (displaceRecord r s).table.live = removeFirst (fun q => q.named r.index r.generation) s.table.live := by
    simp [displaceRecord, removeRecord]
  rw [removed]
  exact length_removeFirst_of_mem live r.named_self

theorem tableLaw_loseCarrier (h : TableLaw s) : TableLaw (loseCarrier s) := by
  unfold loseCarrier
  split
  · exact h.sublist (.refl _) (.refl _) rfl
  · rename_i a rest queued
    have consumed : TableLaw (raise .trackLost (s.withTable { s.table with queue := rest })) :=
      h.sublist (.refl _) (queued ▸ List.sublist_cons_self ..) rfl
    exact consumed.of_table (releaseProgram_keeps ..).2.2.1

theorem tableLaw_entryArrival (h : TableLaw s) : TableLaw (entryArrival s) := by
  unfold entryArrival
  split
  · exact h.sublist (.refl _) (.refl _) rfl
  · split
    · exact tableLaw_admitCarrier h ‹_›
    · split
      · rename_i r found
        have shorter := displaceRecord_length (List.mem_of_find?_eq_some found)
        have room := h.room
        exact tableLaw_admitCarrier (tableLaw_displaceRecord r h) (by omega)
      · exact tableLaw_loseCarrier h

theorem tableLaw_takeEdge (which : Sensor) (h : TableLaw s) : TableLaw (takeEdge which s) := by
  unfold takeEdge
  dsimp only
  split
  · cases which with
    | entry => exact tableLaw_entryArrival (h.of_table rfl)
    | exit => exact (works_exitArrival _).tableLaw (h.of_table rfl)
  · exact h.of_table rfl

/-! ### Requests -/

theorem works_applyEdit (m : LineMap) (s : State) : Works [.shortfall, .missedExit] s (applyEdit m s) := by
  have mapped : Works [.shortfall, .missedExit] s (s.withMap m) := .of_same rfl rfl rfl rfl
  have plated : Works [.shortfall, .missedExit] s
      (if m.ePlate = s.map.ePlate then s.withMap m else platingEndWatchAll (s.withMap m)) := by
    split
    · exact mapped
    · exact mapped.trans ((works_platingEndWatchAll _).mono (by simp))
  unfold applyEdit
  dsimp only
  split
  · exact plated
  · exact plated.trans ((works_exitWindowWatchAll _).mono (by simp))

theorem tableLaw_applyAmend (r : Record) (a : Amendment) (h : TableLaw s) : TableLaw (applyAmend r a s) := by
  have written := h.modifyRecord r.index r.generation (f := fun q => q.amendedBy a) fun _ => ⟨rfl, rfl, rfl⟩
  unfold applyAmend
  dsimp only
  split
  · exact (works_platingEndWatch ..).tableLaw written
  · exact written

/-- R70: a record of tag 0 gets a tag that is not held. -/
theorem tableLaw_applyIdentify {r : Record} {tag : Nat} {program : Option (Fin 16)} (h : TableLaw s)
    (live : r ∈ s.table.live) (untagged : r.tag = 0) (fresh : s.tagHeld tag = false) :
    TableLaw (applyIdentify r tag program s) := by
  obtain ⟨ahead, behind, line⟩ := List.append_of_mem live
  have distinct := h.indexes
  rw [line, List.map_append, List.map_cons] at distinct
  have place : AtPlace s ahead r behind := ⟨line, fun q mem same =>
    (List.nodup_append.1 distinct).2.2 _ (List.mem_map_of_mem mem) _ (List.mem_cons_self ..) same⟩
  rw [applyIdentify, place.modify]
  refine ⟨by simpa [line] using h.indexes, fun q mem => ?_, ?_, by simpa [line] using h.room, h.queue⟩
  · rcases List.mem_append.1 mem with front | rest
    · exact h.generations q (line ▸ List.mem_append_left _ front)
    · rcases List.mem_cons.1 rest with rfl | back
      · exact h.generations r live
      · exact h.generations q (line ▸ List.mem_append_right _ (List.mem_cons_of_mem _ back))
  · have absent := tagHeld_eq_false fresh
    have tags := h.tags
    rw [State.heldTags, line] at tags
    rw [line] at absent
    have middle (q : Record) : ((ahead ++ q :: behind).map Record.tag ++ s.table.queue.map Announcement.tag).Perm
        (q.tag :: ((ahead ++ behind).map Record.tag ++ s.table.queue.map Announcement.tag)) :=
      (List.perm_middle.map Record.tag).append_right _
    rw [((middle r).filter _).nodup_iff, untagged, List.filter_cons_of_neg (by simp)] at tags
    refine ((middle _).filter _).nodup_iff.2 (nodup_filter_cons tags (.inr fun mem => absent ?_))
    exact (middle r).mem_iff.2 (List.mem_cons_of_mem _ mem)

theorem tableLaw_applyPlace {r : Record} (h : TableLaw s) (free : ∀ q ∈ s.table.live, q.index ≠ r.index)
    (tag : r.tag = 0 ∨ s.tagHeld r.tag = false) (room : s.table.live.length < 64) : TableLaw (applyPlace r s) := by
  obtain ⟨ahead, behind, line, inserted⟩ := insertInLine_split s.map.line.scale r s.table.live
  have made : TableLaw (putRecord (insertInLine s.map.line.scale r s.table.live) r s) := by
    rw [inserted]
    exact h.put line free tag room
  unfold applyPlace
  exact (works_exitWindowWatch ..).tableLaw ((works_platingEndWatch ..).tableLaw ((works_testTarget ..).tableLaw
    ((works_testTarget ..).tableLaw made)))

theorem tableLaw_empty (empty : t.table.live = []) (none : t.table.queue = []) : TableLaw t := by
  refine ⟨?_, ?_, ?_, ?_, ?_⟩ <;> simp [State.heldTags, empty, none]

theorem resetLineNow_table (s : State) :
    (resetLineNow s).table = { CarrierTable.powerOn with generations := s.table.generations } := by
  simp [resetLineNow, clearForReset]

theorem announcementOf_tag {lMin : Nat} {f : AnnounceFields} {a : Announcement} (h : announcementOf lMin f = some a) :
    tagOf f.tag = some a.tag := by
  simp only [announcementOf, Option.bind_eq_bind, Option.bind_eq_some_iff, Option.some.injEq] at h
  obtain ⟨_, tagged, _, _, _, _, _, _, rfl⟩ := h
  exact tagged

/-- R55, R56, R59: every owner's step keeps the law. -/
theorem Served.tableLaw (h : Served s t) (law : TableLaw s) : TableLaw t := by
  cases h with
  | still | profile | access | defined | redefined | slotState | erased | speed | ignoredCleared | addressed
  | countersCleared | eventsCleared | attention | staleCleared => exact law.of_table rfl
  | edited => exact (works_applyEdit ..).tableLaw law
  | announced carried fresh room taken =>
    rename_i a u
    have same := takeProgram_table taken
    refine ⟨same ▸ law.indexes, same ▸ law.generations, ?_, same ▸ law.room, ?_⟩
    · have more : ((s.table.live.map Record.tag ++ (s.table.queue ++ [a]).map Announcement.tag)).Perm
          (a.tag :: (s.table.live.map Record.tag ++ s.table.queue.map Announcement.tag)) := by
        rw [List.map_append, ← List.append_assoc]
        exact List.perm_append_comm
      simp only [State.heldTags, State.withTable, same]
      exact (more.filter _).nodup_iff.2 (nodup_filter_cons law.tags (.inr (tagHeld_eq_false fresh)))
    · simp only [State.withTable, same, List.length_append, List.length_singleton]
      exact room
  | cancelled =>
    refine law.sublist ?_ ?_ ?_ <;> rw [(releaseProgram_keeps ..).2.2.1]
    · exact .refl _
    · exact removeFirst_sublist ..
    · rfl
  | amended _ _ _ moved => exact tableLaw_applyAmend _ _ (law.of_table (moveProgram_table moved))
  | identified _ found untagged fresh moved =>
    have same := moveProgram_table moved
    have live := (findRecord_some found).1
    refine tableLaw_applyIdentify (law.of_table same) (same ▸ live) untagged ?_
    simpa only [State.tagHeld, same] using fresh
  | placed _ fresh index room _ taken =>
    have same := takeProgram_table taken
    refine tableLaw_applyPlace (law.of_table same) ?_ ?_ ?_
    · rw [same]
      exact (nextIndex_some index).1
    · simp only [State.tagHeld, same]
      exact Decidable.or_iff_not_imp_left.2 fresh
    · rw [same]
      exact room
  | retired => exact tableLaw_removeRecord _ law
  | walked => exact law.sublist (.refl _) (.refl _) rfl
  | enabled => exact (works_enterState ..).tableLaw (law.of_table (by simp))
  | disabled => exact (works_leaveService ..).tableLaw law
  | halted => exact (works_haltLine s).tableLaw law
  | resumed => exact law.of_table (by simp)
  | lineReset => exact tableLaw_empty (by rw [resetLineNow_table]; rfl) (by rw [resetLineNow_table]; rfl)

/-- R55, R56, R59: every event keeps the law. -/
theorem Happened.tableLaw (h : Happened s t) (law : TableLaw s) : TableLaw t := by
  cases h with
  | encoder sense => exact (works_encoderStep sense s).tableLaw law
  | stopTimer => exact (works_stopTimerExpires s).tableLaw law
  | parkTimer => exact (works_parkTimerExpires s).tableLaw law
  | edge which => exact tableLaw_takeEdge which law
  | otherEdge | skipped | haltInactive | pulseTimer | reminderTimer => exact law.of_table rfl
  | haltActive => exact (works_haltLine _).tableLaw (law.of_table rfl)
  | period z => exact (works_periodTimerExpires z s).tableLaw law
  | restart z => exact (works_restartTimerExpires z s).tableLaw law
  | frameSent => exact law.of_table (by simp)
  | replyBegun => exact law.of_table (by simp)
  | goodEnd item c st rbs => exact (works_goodEnd item c st rbs s).tableLaw (law.of_table rfl)
  | badEnd item c how => exact (works_badEnd item c how s).tableLaw (law.of_table rfl)

end

/-- Settles O54: a record or an announcement is made only with a free index, no tag or a tag that is not held, and room
left; all else works on the records where they stand. -/
theorem tableLawIsKept : Obligations.TableLawIsKept := by
  intro s t law h
  obtain ⟨waiting, h⟩ := stepped_of_step h
  exact h.keeps (law.of_table rfl) (fun _ _ => tableLaw_empty rfl rfl)
    (fun _ => (works_haltLine _).tableLaw (tableLaw_empty rfl rfl)) (law.of_table rfl)
    (fun _ _ k => k.tableLaw (law.of_table rfl)) (fun _ _ k => k.tableLaw (law.of_table rfl))
    (fun _ _ k => k.of_table rfl) (fun _ k => k.of_table rfl)

end Sys2Proof.Machine

/-! The position watches have reported every record that is due (R50 to R52). -/

namespace Sys2Proof.Machine

/-! ### The two halves of the law, with some indexes left out -/

/-- R50: but for the records of these indexes, a record with its trail at or beyond E_plate has its mark. -/
def PlatedBut (exempt : List (Fin 64)) (s : State) : Prop :=
  ∀ r ∈ s.table.live, r.index ∉ exempt → (s.map.ePlate : Int) ≤ s.trail r → r.platingClosed = true

/-- R51: but for the records of these indexes, a TRACKING record's lead is not beyond X_exit + W. -/
def SightedBut (exempt : List (Fin 64)) (s : State) : Prop :=
  ∀ r ∈ s.table.live, r.index ∉ exempt → r.state = .tracking →
    s.lead r ≤ (s.map.line.xExit + s.map.line.window : Nat)

/-- What the watches compare a record with: E_plate, the end of the exit window, the encoder scale and the count. -/
structure SameMarks (s t : State) : Prop where
  ePlate : t.map.ePlate = s.map.ePlate
  xExit : t.map.line.xExit = s.map.line.xExit
  window : t.map.line.window = s.map.line.window
  scale : t.map.line.scale = s.map.line.scale
  count : t.pos.count = s.pos.count

theorem watchLaw_iff {s : State} : WatchLaw s ↔ PlatedBut [] s ∧ SightedBut [] s :=
  ⟨fun h => ⟨fun r live _ => h.plating r live, fun r live _ => h.exit r live⟩,
    fun h => ⟨fun r live => h.1 r live (List.not_mem_nil), fun r live => h.2 r live (List.not_mem_nil)⟩⟩

section
variable {s t : State} {exempt : List (Fin 64)}

theorem SameMarks.of_same (map : t.map = s.map) (count : t.pos.count = s.pos.count) : SameMarks s t := by
  constructor <;> simp [map, count]

theorem SameMarks.lead (same : SameMarks s t) (r : Record) : t.lead r = s.lead r := by
  rw [State.lead, State.lead, same.scale, same.count]

theorem SameMarks.trail (same : SameMarks s t) (r : Record) : t.trail r = s.trail r := by
  rw [State.trail, State.trail, same.lead]

theorem Record.Worked.lead {r r' : Record} (w : r.Worked r') (s : State) : s.lead r' = s.lead r := by
  rw [State.lead, State.lead, w.entryMark]

theorem Record.Worked.trail {r r' : Record} (w : r.Worked r') (s : State) : s.trail r' = s.trail r := by
  rw [State.trail, State.trail, w.lead, w.length]

/-- A record after the work comes from one before it. -/
theorem Works.origin {E : List Event} (w : Works E s t) {q : Record} (live : q ∈ t.table.live) :
    ∃ r ∈ s.table.live, r.Worked q := by
  have all := w.table.live
  generalize s.table.live = before, t.table.live = after at all live
  induction all with
  | nil => cases live
  | cons head _ ih =>
    rcases List.mem_cons.1 live with rfl | rest
    · exact ⟨_, List.mem_cons_self .., head⟩
    · obtain ⟨r, mem, worked⟩ := ih rest
      exact ⟨r, List.mem_cons_of_mem _ mem, worked⟩

theorem Works.platedBut {E : List Event} (w : Works E s t) (same : SameMarks s t) (h : PlatedBut exempt s) :
    PlatedBut exempt t := fun q live free reached => by
  obtain ⟨r, mem, worked⟩ := w.origin live
  rw [same.ePlate, same.trail, worked.trail] at reached
  exact worked.closed (h r mem (worked.index ▸ free) reached)

theorem Works.sightedBut {E : List Event} (w : Works E s t) (same : SameMarks s t) (h : SightedBut exempt s) :
    SightedBut exempt t := fun q live free tracking => by
  obtain ⟨r, mem, worked⟩ := w.origin live
  rw [same.lead, worked.lead, same.xExit, same.window]
  exact h r mem (worked.index ▸ free) (worked.tracking tracking)

theorem Works.watchLaw {E : List Event} (w : Works E s t) (same : SameMarks s t) (h : WatchLaw s) : WatchLaw t := by
  obtain ⟨plated, sighted⟩ := watchLaw_iff.1 h
  exact watchLaw_iff.2 ⟨w.platedBut same plated, w.sightedBut same sighted⟩

/-- Records taken away, and nothing that the watches compare changed. -/
theorem WatchLaw.sublist (h : WatchLaw s) (live : t.table.live.Sublist s.table.live) (same : SameMarks s t) :
    WatchLaw t where
  plating r mem reached := h.plating r (live.subset mem) (by rwa [same.ePlate, same.trail] at reached)
  exit r mem tracking := by
    rw [same.lead, same.xExit, same.window]
    exact h.exit r (live.subset mem) tracking

theorem watchLaw_empty (empty : t.table.live = []) : WatchLaw t := by
  constructor <;> simp [empty]

/-! ### What one watch tests, and what it tests over the line -/

/-- R55: under the law of tags the index alone names a live record. -/
theorem TableLaw.atPlace (h : TableLaw s) {r : Record} (live : r ∈ s.table.live) :
    ∃ ahead behind, AtPlace s ahead r behind ∧ ∀ q ∈ behind, q.index ≠ r.index := by
  obtain ⟨ahead, behind, line⟩ := List.append_of_mem live
  have distinct := h.indexes
  rw [line, List.map_append, List.map_cons, List.nodup_append, List.nodup_cons] at distinct
  obtain ⟨-, ⟨notBehind, -⟩, apart⟩ := distinct
  exact ⟨ahead, behind, ⟨line, fun q mem same => apart _ (List.mem_map_of_mem mem) _ (List.mem_cons_self ..) same⟩,
    fun q mem same => notBehind (same ▸ List.mem_map_of_mem mem)⟩

theorem plated_worked (s : State) (r : Record) : r.Worked (s.plated r) := by
  unfold State.plated Record.settled
  split
  · split
    · exact (worked_platingClosed r).trans (worked_outcome _ _)
    · exact worked_platingClosed r
  · exact .refl r

theorem plated_closed {r : Record} (reached : (s.map.ePlate : Int) ≤ s.trail r) : (s.plated r).platingClosed = true := by
  by_cases closed : r.platingClosed = true
  · exact (plated_worked s r).closed closed
  · have plates : s.plates r = true := by simp [State.plates, closed, reached]
    rw [State.plated, if_pos plates, Record.settled]
    split <;> rfl

theorem sighted_worked (s : State) (r : Record) : r.Worked (s.sighted r) := by
  unfold State.sighted
  split
  · exact worked_state r (by simp)
  · exact .refl r

theorem sighted_inSight {r : Record} (tracking : (s.sighted r).state = .tracking) :
    s.lead r ≤ (s.map.line.xExit + s.map.line.window : Nat) := by
  unfold State.sighted at tracking
  split at tracking
  · cases tracking
  · rename_i kept
    simp only [State.losesSight, decide_eq_true_eq, not_and, not_lt] at kept
    exact kept tracking

/-- R50: the plating-end watch takes the record it tests out of what is left to test. -/
theorem platedBut_platingEndWatch {i : Fin 64} {g : BitVec 8} (law : TableLaw s) (named : s.table.generations[i] = g)
    (h : PlatedBut (i :: exempt) s) : PlatedBut exempt (platingEndWatch i g s) := by
  by_cases there : ∃ r ∈ s.table.live, r.index = i
  · obtain ⟨r, live, rfl⟩ := there
    have generation : r.generation = g := (law.generations r live).symm.trans named
    obtain ⟨ahead, behind, place, others⟩ := law.atPlace live
    subst generation
    rw [place.platingEnd]
    intro q mem free reached
    have same : SameMarks s (raiseIf (s.plates r && ({ r with platingClosed := true } : Record).fallsShort) .shortfall
      (s.withLive (ahead ++ s.plated r :: behind))) := .of_same (by simp) (by simp)
    rw [same.ePlate, same.trail] at reached
    simp only [raiseIf_keeps, State.withLive, State.withTable, List.mem_append, List.mem_cons] at mem
    have old (o : Record) (inLine : o ∈ s.table.live) (other : o.index ≠ r.index) (free : o.index ∉ exempt)
        (reached : (s.map.ePlate : Int) ≤ s.trail o) : o.platingClosed = true :=
      h o inLine (List.not_mem_cons_of_ne_of_not_mem other free) reached
    rcases mem with front | rfl | back
    · exact old q (place.line ▸ by simp [front]) (place.others q front) free reached
    · rw [(plated_worked s r).trail] at reached
      exact plated_closed reached
    · exact old q (place.line ▸ by simp [back]) (others q back) free reached
  · have same := works_platingEndWatch i g s
    refine same.platedBut (.of_same (by simp) (by simp)) fun r live free => h r live ?_
    exact List.not_mem_cons_of_ne_of_not_mem (fun e => there ⟨r, live, e⟩) free

/-- R51: the exit-window watch takes the record it tests out of what is left to test. -/
theorem sightedBut_exitWindowWatch {i : Fin 64} {g : BitVec 8} (law : TableLaw s)
    (named : s.table.generations[i] = g) (h : SightedBut (i :: exempt) s) :
    SightedBut exempt (exitWindowWatch i g s) := by
  by_cases there : ∃ r ∈ s.table.live, r.index = i
  · obtain ⟨r, live, rfl⟩ := there
    have generation : r.generation = g := (law.generations r live).symm.trans named
    obtain ⟨ahead, behind, place, others⟩ := law.atPlace live
    subst generation
    rw [place.exitWindow]
    intro q mem free tracking
    have same : SameMarks s (raiseIf (s.losesSight r) .missedExit (s.withLive (ahead ++ s.sighted r :: behind))) :=
      .of_same (by simp) (by simp)
    rw [same.lead, same.xExit, same.window]
    simp only [raiseIf_keeps, State.withLive, State.withTable, List.mem_append, List.mem_cons] at mem
    have old (o : Record) (inLine : o ∈ s.table.live) (other : o.index ≠ r.index) (free : o.index ∉ exempt)
        (tracking : o.state = .tracking) : s.lead o ≤ (s.map.line.xExit + s.map.line.window : Nat) :=
      h o inLine (List.not_mem_cons_of_ne_of_not_mem other free) tracking
    rcases mem with front | rfl | back
    · exact old q (place.line ▸ by simp [front]) (place.others q front) free tracking
    · rw [(sighted_worked s r).lead]
      exact sighted_inSight tracking
    · exact old q (place.line ▸ by simp [back]) (others q back) free tracking
  · have same := works_exitWindowWatch i g s
    refine same.sightedBut (.of_same (by simp) (by simp)) fun r live free => h r live ?_
    exact List.not_mem_cons_of_ne_of_not_mem (fun e => there ⟨r, live, e⟩) free

theorem platedBut_platingEndWatchAll (law : TableLaw s) : PlatedBut [] (platingEndWatchAll s) := by
  rw [platingEndWatchAll_eq law.indexes]
  intro q mem _ reached
  simp only [raiseIf_keeps, State.withLive, State.withTable, List.mem_map] at mem
  obtain ⟨r, live, rfl⟩ := mem
  have same : SameMarks s (raiseIf (s.table.live.any fun r => s.plates r
      && ({ r with platingClosed := true } : Record).fallsShort) .shortfall (s.withLive (s.table.live.map s.plated))) :=
    .of_same (by simp) (by simp)
  rw [same.ePlate, same.trail, (plated_worked s r).trail] at reached
  exact plated_closed reached

theorem sightedBut_exitWindowWatchAll (law : TableLaw s) : SightedBut [] (exitWindowWatchAll s) := by
  rw [exitWindowWatchAll_eq law.indexes]
  intro q mem _ tracking
  simp only [raiseIf_keeps, State.withLive, State.withTable, List.mem_map] at mem
  obtain ⟨r, live, rfl⟩ := mem
  have same : SameMarks s (raiseIf (s.table.live.any s.losesSight) .missedExit
      (s.withLive (s.table.live.map s.sighted))) := .of_same (by simp) (by simp)
  rw [same.lead, same.xExit, same.window, (sighted_worked s r).lead]
  exact sighted_inSight tracking

/-! ### Events and edits -/

theorem watchLaw_encoderStep (sense : QuadSense) (law : TableLaw s) : WatchLaw (encoderStep sense s) := by
  have stepped : TableLaw (s.withPos (s.pos.stepped s.map.line.swapped sense)) := law.of_table rfl
  have moved := (works_pulseMotion _).tableLaw stepped
  refine watchLaw_iff.2 ⟨?_, sightedBut_exitWindowWatchAll ((works_platingEndWatchAll _).tableLaw moved)⟩
  exact (works_exitWindowWatchAll _).platedBut (.of_same (by simp) (by simp)) (platedBut_platingEndWatchAll moved)

theorem keepsRunning_live {m : LineMap} (h : s.keepsRunning m = true) :
    s.table.live = [] ∨ (m.line.scale = s.map.line.scale ∧ m.line.swapped = s.map.line.swapped) := by
  simp only [State.keepsRunning, Bool.and_eq_true, Bool.or_eq_true, List.isEmpty_iff, beq_iff_eq] at h
  exact h.2

/-- R52: an edit that moves what a watch compares has the watch test every record. -/
theorem watchLaw_applyEdit {m : LineMap} (law : TableLaw s) (keeps : s.keepsRunning m = true) (h : WatchLaw s) :
    WatchLaw (applyEdit m s) := by
  rcases keepsRunning_live keeps with empty | ⟨scale, -⟩
  · have all := (works_applyEdit m s).table.live
    rw [empty, List.forall₂_nil_left_iff] at all
    exact watchLaw_empty all
  · obtain ⟨plated, sighted⟩ := watchLaw_iff.1 h
    have lead (r : Record) : (s.withMap m).lead r = s.lead r := by
      simp [State.lead, scale]
    have trail (r : Record) : (s.withMap m).trail r = s.trail r := by
      rw [State.trail, State.trail, lead]
    have tabled : TableLaw (s.withMap m) := law.of_table rfl
    let u := if m.ePlate = s.map.ePlate then s.withMap m else platingEndWatchAll (s.withMap m)
    have platedThen : PlatedBut [] u ∧ TableLaw u ∧
        (m.line.xExit = s.map.line.xExit ∧ m.line.window = s.map.line.window → SightedBut [] u) := by
      have kept (unmoved : m.line.xExit = s.map.line.xExit ∧ m.line.window = s.map.line.window) :
          SightedBut [] (s.withMap m) := fun r live free tracking => by
        rw [lead]
        simpa [unmoved] using sighted r live free tracking
      unfold u
      split
      · rename_i unmoved
        refine ⟨fun r live free reached => plated r live free ?_, tabled, kept⟩
        rwa [trail, State.withMap_map, unmoved] at reached
      · exact ⟨platedBut_platingEndWatchAll tabled, (works_platingEndWatchAll _).tableLaw tabled,
          fun unmoved => (works_platingEndWatchAll _).sightedBut (.of_same (by simp) (by simp)) (kept unmoved)⟩
    obtain ⟨platedU, tabledU, sightedU⟩ := platedThen
    have edited : applyEdit m s = if m.line.xExit = s.map.line.xExit ∧ m.line.window = s.map.line.window then u
        else exitWindowWatchAll u := rfl
    rw [edited]
    split
    · rename_i unmoved
      exact watchLaw_iff.2 ⟨platedU, sightedU unmoved⟩
    · exact watchLaw_iff.2 ⟨(works_exitWindowWatchAll u).platedBut (.of_same (by simp) (by simp)) platedU,
        sightedBut_exitWindowWatchAll tabledU⟩

/-! ### Records made and records changed -/

/-- A new record, and the others as they were. -/
theorem watchLaw_put {l : List Record} {r : Record} (h : WatchLaw s) (line : ∀ q ∈ l, q = r ∨ q ∈ s.table.live) :
    PlatedBut [r.index] (putRecord l r s) ∧ SightedBut [r.index] (putRecord l r s) := by
  have old {q : Record} (mem : q ∈ l) (free : q.index ∉ [r.index]) : q ∈ s.table.live :=
    (line q mem).resolve_left fun same => free (by simp [same])
  exact ⟨fun q mem free reached => h.plating q (old mem free) reached,
    fun q mem free tracking => h.exit q (old mem free) tracking⟩

theorem putRecord_generation (l : List Record) (r : Record) (s : State) :
    (putRecord l r s).table.generations[r.index] = r.generation := by simp [putRecord]

theorem Works.generations {E : List Event} (w : Works E s t) : t.table.generations = s.table.generations := by
  rw [w.table.rest]

/-- R52: both watches test the new record. -/
theorem watchLaw_bothWatches {i : Fin 64} {g : BitVec 8} (law : TableLaw s) (named : s.table.generations[i] = g)
    (plated : PlatedBut [i] s) (sighted : SightedBut [i] s) :
    WatchLaw (exitWindowWatch i g (platingEndWatch i g s)) := by
  have works := works_platingEndWatch i g s
  have same : SameMarks s (platingEndWatch i g s) := .of_same (by simp) (by simp)
  have plated := platedBut_platingEndWatch law named plated
  have sighted := works.sightedBut same sighted
  refine watchLaw_iff.2 ⟨(works_exitWindowWatch i g _).platedBut (.of_same (by simp) (by simp)) plated, ?_⟩
  exact sightedBut_exitWindowWatch (works.tableLaw law) (by rw [works.generations]; exact named) sighted

/-- A record changed in what the exit-window watch does not compare. -/
theorem sightedBut_modifyRecord (i : Fin 64) (g : BitVec 8) {f : Record → Record}
    (same : ∀ r, (f r).index = r.index ∧ (f r).entryMark = r.entryMark ∧ (f r).state = r.state)
    (h : SightedBut exempt s) : SightedBut exempt (modifyRecord i g f s) := fun q mem free tracking => by
  have marks : SameMarks s (modifyRecord i g f s) := .of_same (by simp) (by simp)
  rw [marks.lead, marks.xExit, marks.window]
  rcases mem_modifyFirst mem with live | ⟨r, live, -, rfl⟩
  · exact h q live free tracking
  · obtain ⟨index, entryMark, state⟩ := same r
    have lead : s.lead (f r) = s.lead r := by rw [State.lead, State.lead, entryMark]
    rw [lead]
    exact h r live (index ▸ free) (state ▸ tracking)

/-- A record changed, to be tested by the plating-end watch. -/
theorem platedBut_modifyRecord (i : Fin 64) (g : BitVec 8) {f : Record → Record}
    (same : ∀ r, (f r).index = r.index) (h : PlatedBut exempt s) :
    PlatedBut (i :: exempt) (modifyRecord i g f s) := fun q mem free reached => by
  have marks : SameMarks s (modifyRecord i g f s) := .of_same (by simp) (by simp)
  rw [marks.ePlate, marks.trail] at reached
  rcases mem_modifyFirst mem with live | ⟨r, live, named, rfl⟩
  · exact h q live (fun mem => free (List.mem_cons_of_mem _ mem)) reached
  · refine absurd ?_ free
    have index : r.index = i := of_decide_eq_true (Bool.and_eq_true _ _ ▸ named).1
    rw [same, index]
    exact List.mem_cons_self ..

/-- R61, step 5: the record cut to its lead is tested by the plating-end watch. -/
theorem watches_clipRearmost (rear : Option Record) (law : TableLaw s)
    (live : ∀ r, rear = some r → s.table.generations[r.index] = r.generation) (plated : PlatedBut exempt s)
    (sighted : SightedBut exempt s) :
    PlatedBut exempt (clipRearmost rear s) ∧ SightedBut exempt (clipRearmost rear s) := by
  unfold clipRearmost
  split
  · exact ⟨plated, sighted⟩
  · rename_i r
    split
    · let cut : Record → Record := fun q => { q with
        length := (s.lead q).toNat, marks := { q.marks with clipped := true } }
      have cutLaw : TableLaw (modifyRecord r.index r.generation cut s) :=
        law.modifyRecord _ _ fun _ => ⟨rfl, rfl, rfl⟩
      have cutPlated : PlatedBut (r.index :: exempt) (modifyRecord r.index r.generation cut s) :=
        platedBut_modifyRecord _ _ (fun _ => rfl) plated
      have cutSighted : SightedBut exempt (modifyRecord r.index r.generation cut s) :=
        sightedBut_modifyRecord _ _ (fun _ => ⟨rfl, rfl, rfl⟩) sighted
      refine ⟨platedBut_platingEndWatch (s := raise .clipped (modifyRecord r.index r.generation cut s))
        (cutLaw.of_table rfl) (live r rfl) cutPlated, ?_⟩
      exact (works_platingEndWatch ..).sightedBut (.of_same (by simp) (by simp)) cutSighted
    · exact ⟨plated, sighted⟩

/-- R61: a carrier that enters stands behind the others; its record, and one that is cut, are tested by the watches. -/
theorem watchLaw_admitted {u : State} {i : Fin 64} {g : BitVec 8} {r : Record} (law : TableLaw s) (h : WatchLaw s)
    (made : u.table = (putRecord (s.table.live ++ [r]) r s).table) (map : u.map = s.map) (pos : u.pos = s.pos)
    (madeLaw : TableLaw u) (index : r.index = i) (generation : r.generation = g)
    (free : ∀ q ∈ s.table.live, q.index ≠ i) :
    WatchLaw (exitWindowWatch i g (platingEndWatch i g (clipRearmost s.table.live.getLast? u))) := by
  subst index generation
  have put := watchLaw_put (l := s.table.live ++ [r]) (r := r) h fun q mem => by
    simpa [or_comm] using mem
  have same : SameMarks (putRecord (s.table.live ++ [r]) r s) u := .of_same (by simp [map]) (by simp [pos])
  have plated : PlatedBut [r.index] u := fun q mem free reached =>
    put.1 q (made ▸ mem) free (by rwa [same.ePlate, same.trail] at reached)
  have sighted : SightedBut [r.index] u := fun q mem free tracking => by
    rw [same.lead, same.xExit, same.window]
    exact put.2 q (made ▸ mem) free tracking
  have named : u.table.generations[r.index] = r.generation := by rw [made]; exact putRecord_generation ..
  have rearNamed (q : Record) (rear : s.table.live.getLast? = some q) :
      u.table.generations[q.index] = q.generation := by
    have live := List.mem_of_getLast? rear
    rw [made]
    exact (bankSet_get_other _ (free q live) _).trans (law.generations q live)
  obtain ⟨clippedPlated, clippedSighted⟩ := watches_clipRearmost _ madeLaw rearNamed plated sighted
  refine watchLaw_bothWatches (tableLaw_clipRearmost _ madeLaw) ?_ clippedPlated clippedSighted
  have kept : (clipRearmost s.table.live.getLast? u).table.generations = u.table.generations := by
    unfold clipRearmost
    split
    · rfl
    · split
      · exact (works_platingEndWatch ..).generations
      · rfl
  rw [kept]
  exact named

theorem watchLaw_admitCarrier (law : TableLaw s) (room : s.table.live.length < 64) (h : WatchLaw s) :
    WatchLaw (admitCarrier s) := by
  unfold admitCarrier
  split
  · exact h
  · rename_i i g next
    obtain ⟨free, -⟩ := nextIndex_some next
    dsimp only
    split
    · rename_i a rest queued
      have start : TableLaw (s.withTable { s.table with queue := rest }) :=
        law.sublist (.refl _) (queued ▸ List.sublist_cons_self ..) rfl
      exact watchLaw_admitted (s := s.withTable { s.table with queue := rest }) start ⟨h.plating, h.exit⟩
        (raise_keeps ..).2.2.2.1 (by simp) (by simp) (tableLaw_bindAnnouncement law queued free room) rfl rfl free
    · have law' := tableLaw_makeUnannounced (g := g) law free room
      obtain ⟨slot, u, takes, made⟩ := makeUnannounced_eq i g s
      obtain ⟨map, pos, table, -⟩ := takes.keeps
      have table' : (makeUnannounced i g s).table = (putRecord (s.table.live ++ [s.unannouncedRecord i g slot])
          (s.unannouncedRecord i g slot) s).table := by simp [made, putRecord, table]
      exact watchLaw_admitted law h table' (by simp) (by simp) law' rfl rfl free

theorem watchLaw_entryArrival (law : TableLaw s) (h : WatchLaw s) : WatchLaw (entryArrival s) := by
  unfold entryArrival
  split
  · exact h.sublist (.refl _) (.of_same rfl rfl)
  · split
    · exact watchLaw_admitCarrier law ‹_› h
    · split
      · rename_i r found
        have shorter := displaceRecord_length (List.mem_of_find?_eq_some found)
        have room := law.room
        refine watchLaw_admitCarrier (tableLaw_displaceRecord r law) (by omega) ?_
        refine h.sublist ?_ (.of_same (by simp) (by simp))
        simpa [displaceRecord, removeRecord] using removeFirst_sublist _ s.table.live
      · refine h.sublist ?_ (.of_same (by simp) (by simp))
        unfold loseCarrier
        split
        · exact .refl _
        · rw [(releaseProgram_keeps ..).2.2.1]
          exact .refl _

@[simp] theorem withSensor_count (p : Position) (which : Sensor) (n : SensorState) :
    (p.withSensor which n).count = p.count := by
  cases which <;> rfl

theorem watchLaw_takeEdge (which : Sensor) (law : TableLaw s) (h : WatchLaw s) : WatchLaw (takeEdge which s) := by
  have moved (p : Position) (count : p.count = s.pos.count) : WatchLaw (s.withPos p) :=
    h.sublist (.refl _) (.of_same rfl count)
  unfold takeEdge
  dsimp only
  split
  · cases which with
    | entry => exact watchLaw_entryArrival (law.of_table rfl) (moved _ (by simp))
    | exit => exact (works_exitArrival _).watchLaw (.of_same (by simp) (by simp)) (moved _ (by simp))
  · exact moved _ (by simp)

theorem watchLaw_applyAmend (r : Record) (a : Amendment) (law : TableLaw s)
    (named : s.table.generations[r.index] = r.generation) (h : WatchLaw s) : WatchLaw (applyAmend r a s) := by
  obtain ⟨plated, sighted⟩ := watchLaw_iff.1 h
  have written : TableLaw (modifyRecord r.index r.generation (fun q => q.amendedBy a) s) :=
    law.modifyRecord _ _ fun _ => ⟨rfl, rfl, rfl⟩
  have sighted : SightedBut [] (modifyRecord r.index r.generation (fun q => q.amendedBy a) s) :=
    sightedBut_modifyRecord _ _ (fun _ => ⟨rfl, rfl, rfl⟩) sighted
  unfold applyAmend
  dsimp only
  split
  · refine watchLaw_iff.2 ⟨platedBut_platingEndWatch written named (platedBut_modifyRecord _ _ (fun _ => rfl) plated), ?_⟩
    exact (works_platingEndWatch ..).sightedBut (.of_same (by simp) (by simp)) sighted
  · rename_i noLength
    refine watchLaw_iff.2 ⟨fun q mem free reached => ?_, sighted⟩
    have kept (o : Record) : (o.amendedBy a).length = o.length := by
      cases length : a.length with
      | none => simp [Record.amendedBy, length]
      | some l => simp [length] at noLength
    have same : SameMarks s (modifyRecord r.index r.generation (fun q => q.amendedBy a) s) :=
      .of_same (by simp) (by simp)
    rw [same.ePlate, same.trail] at reached
    rcases mem_modifyFirst mem with live | ⟨o, live, -, rfl⟩
    · exact h.plating q live reached
    · refine h.plating o live ?_
      rwa [State.trail, kept] at reached

theorem watchLaw_applyIdentify (r : Record) (tag : Nat) (program : Option (Fin 16)) (h : WatchLaw s) :
    WatchLaw (applyIdentify r tag program s) := by
  have same : SameMarks s (applyIdentify r tag program s) := .of_same (by simp) (by simp)
  refine ⟨fun q mem reached => ?_, fun q mem tracking => ?_⟩
  · rw [same.ePlate, same.trail] at reached
    rcases mem_modifyFirst mem with live | ⟨o, live, -, rfl⟩
    · exact h.plating q live reached
    · exact h.plating o live reached
  · rw [same.lead, same.xExit, same.window]
    rcases mem_modifyFirst mem with live | ⟨o, live, -, rfl⟩
    · exact h.exit q live tracking
    · exact h.exit o live tracking

theorem watchLaw_applyPlace {r : Record} (law : TableLaw s) (free : ∀ q ∈ s.table.live, q.index ≠ r.index)
    (tag : r.tag = 0 ∨ s.tagHeld r.tag = false) (room : s.table.live.length < 64) (h : WatchLaw s) :
    WatchLaw (applyPlace r s) := by
  obtain ⟨ahead, behind, line, inserted⟩ := insertInLine_split s.map.line.scale r s.table.live
  have made : TableLaw (putRecord (insertInLine s.map.line.scale r s.table.live) r s) := by
    rw [inserted]
    exact law.put line free tag room
  obtain ⟨plated, sighted⟩ := watchLaw_put (l := insertInLine s.map.line.scale r s.table.live) (r := r) h fun q mem => by
    rw [inserted] at mem
    rw [line]
    exact List.mem_cons.1 (List.perm_middle.mem_iff.1 mem)
  have tested := (works_testTarget r.index r.generation
    (putRecord (insertInLine s.map.line.scale r s.table.live) r s) .A).trans
    (works_testTarget r.index r.generation _ .B)
  unfold applyPlace
  refine watchLaw_bothWatches (tested.tableLaw made) ?_ (tested.platedBut (.of_same (by simp) (by simp)) plated)
    (tested.sightedBut (.of_same (by simp) (by simp)) sighted)
  rw [tested.generations]
  exact putRecord_generation ..

/-- R50 to R52: every owner's step leaves nothing unreported. -/
theorem Served.watchLaw (k : Served s t) (law : TableLaw s) (h : WatchLaw s) : WatchLaw t := by
  cases k with
  | still => exact h
  | profile | access | defined | redefined | slotState | erased | speed | ignoredCleared | addressed
  | countersCleared | eventsCleared | attention | staleCleared | walked =>
    exact h.sublist (.refl _) ⟨rfl, rfl, rfl, rfl, rfl⟩
  | edited _ _ keeps => exact watchLaw_applyEdit law keeps h
  | announced _ _ _ taken =>
    obtain ⟨map, pos, table, -⟩ := takeProgram_keeps taken
    exact h.sublist (by simp [State.withTable, table]) (.of_same (by simp [map]) (by simp [pos]))
  | cancelled => exact h.sublist (by simp) (.of_same (by simp) (by simp))
  | amended _ found _ moved =>
    obtain ⟨map, pos, table, -⟩ := moveProgram_keeps moved
    refine watchLaw_applyAmend _ _ (law.of_table table) ?_ (h.sublist (table ▸ .refl _) (.of_same map (by rw [pos])))
    rw [table]
    exact law.generations _ (List.mem_of_find?_eq_some found)
  | identified _ _ _ _ moved =>
    obtain ⟨map, pos, table, -⟩ := moveProgram_keeps moved
    exact watchLaw_applyIdentify _ _ _ (h.sublist (table ▸ .refl _) (.of_same map (by rw [pos])))
  | placed _ fresh index room _ taken =>
    obtain ⟨map, pos, table, -⟩ := takeProgram_keeps taken
    refine watchLaw_applyPlace (law.of_table table) ?_ ?_ ?_ (h.sublist (table ▸ .refl _) (.of_same map (by rw [pos])))
    · rw [table]
      exact (nextIndex_some index).1
    · simp only [State.tagHeld, table]
      exact Decidable.or_iff_not_imp_left.2 fresh
    · rw [table]
      exact room
  | retired =>
    refine h.sublist ?_ (.of_same (by simp) (by simp))
    rw [removeRecord_table]
    exact removeFirst_sublist ..
  | enabled =>
    refine (works_enterState ..).watchLaw (.of_same (by simp) (by simp)) ?_
    exact h.sublist (by simp) (.of_same (by simp) (by simp))
  | disabled => exact (works_leaveService ..).watchLaw (.of_same (by simp) (by simp)) h
  | halted => exact (works_haltLine s).watchLaw (.of_same (by simp) (by simp)) h
  | resumed => exact h.sublist (by simp) (.of_same (by simp) (by simp))
  | lineReset => exact watchLaw_empty (by rw [resetLineNow_table]; rfl)

/-- R50 to R52: every event leaves nothing unreported. -/
theorem Happened.watchLaw (k : Happened s t) (law : TableLaw s) (h : WatchLaw s) : WatchLaw t := by
  cases k with
  | encoder sense => exact watchLaw_encoderStep sense law
  | stopTimer =>
    refine (works_stopTimerExpires s).watchLaw (.of_same (by simp) ?_) h
    unfold stopTimerExpires
    split <;> simp
  | parkTimer =>
    refine (works_parkTimerExpires s).watchLaw (.of_same (by simp) ?_) h
    unfold parkTimerExpires
    split <;> simp
  | edge which => exact watchLaw_takeEdge which law h
  | otherEdge => exact h.sublist (.refl _) (.of_same rfl (by simp))
  | skipped | haltInactive | pulseTimer | reminderTimer => exact h.sublist (.refl _) ⟨rfl, rfl, rfl, rfl, rfl⟩
  | haltActive =>
    exact (works_haltLine _).watchLaw (.of_same (by simp) (by simp)) (h.sublist (.refl _) ⟨rfl, rfl, rfl, rfl, rfl⟩)
  | period z => exact (works_periodTimerExpires z s).watchLaw (.of_same (by simp) (by simp)) h
  | restart z => exact (works_restartTimerExpires z s).watchLaw (.of_same (by simp) (by simp)) h
  | frameSent => exact h.sublist (by simp) (.of_same (by simp) (by simp))
  | replyBegun => exact h.sublist (by simp) (.of_same (by simp) (by simp))
  | goodEnd item c st rbs =>
    refine (works_goodEnd item c st rbs s).watchLaw (.of_same (by simp) (by simp)) ?_
    exact h.sublist (.refl _) (.of_same rfl rfl)
  | badEnd item c how =>
    refine (works_badEnd item c how s).watchLaw (.of_same (by simp) (by simp)) ?_
    exact h.sublist (.refl _) (.of_same rfl rfl)

end

/-- Settles O57: where the count, the scale, E_plate or the exit window moves, or a record is made or changed, the
watches test what it moves; all else takes no mark back and makes no record TRACKING. -/
theorem watchLawIsKept : Obligations.WatchLawIsKept := by
  intro s t law watched h
  obtain ⟨waiting, h⟩ := stepped_of_step h
  have law' : TableLaw { s with pending := waiting } := law.of_table rfl
  have start : WatchLaw { s with pending := waiting } := ⟨watched.plating, watched.exit⟩
  exact h.keeps start (fun _ _ => watchLaw_empty rfl)
    (fun _ => (works_haltLine _).watchLaw (.of_same (by simp) (by simp)) (watchLaw_empty rfl)) ⟨watched.plating, watched.exit⟩
    (fun _ _ k => k.watchLaw law' start) (fun _ _ k => k.watchLaw law' start)
    (fun _ _ k => ⟨k.plating, k.exit⟩) (fun _ k => ⟨k.plating, k.exit⟩)

end Sys2Proof.Machine

/-! What the operations of a Zone Sequencer make of the sixteen zones: the one zone they act on, exactly where they
can be given exactly, and every other zone as it was. -/

namespace Sys2Proof.Machine

theorem bankSet_self {α : Type} {n : Nat} (v : Vector α n) (i : Fin n) : bankSet v i v[i] = v := by
  refine Vector.ext fun j hj => ?_
  rw [bankSet_getElem]
  split
  · simp [*]
  · rfl

theorem bankSet_bankSet {α : Type} {n : Nat} (v : Vector α n) (i : Fin n) (x y : α) :
    bankSet (bankSet v i x) i y = bankSet v i y := by
  refine Vector.ext fun j hj => ?_
  simp only [bankSet_getElem]
  split <;> rfl

/-- Only this zone may differ. -/
structure OthersKept (z : Fin 16) (s t : State) : Prop where
  kept : ∀ y : Fin 16, y ≠ z → t.zones[y] = s.zones[y]

section
variable {z : Fin 16} {s t u : State}

theorem OthersKept.refl (z : Fin 16) (s : State) : OthersKept z s s := ⟨fun _ _ => rfl⟩

theorem OthersKept.trans (h : OthersKept z s t) (k : OthersKept z t u) : OthersKept z s u :=
  ⟨fun y other => (k.kept y other).trans (h.kept y other)⟩

theorem OthersKept.of_bankSet {q : Sequencer} (h : t.zones = bankSet s.zones z q) : OthersKept z s t :=
  ⟨fun _ other => by rw [h]; exact bankSet_get_other _ other _⟩

theorem OthersKept.of_zones (h : t.zones = s.zones) : OthersKept z s t := ⟨fun _ _ => by rw [h]⟩

theorem othersKept_modifyZone (z : Fin 16) (f : Sequencer → Sequencer) (s : State) :
    OthersKept z s (s.modifyZone z f) := .of_bankSet rfl

theorem zone_of_bankSet {q : Sequencer} (h : t.zones = bankSet s.zones z q) : t.zones[z] = q := by
  rw [h]
  exact bankSet_get_self ..

end

/-! ### The zones one after another -/

theorem zoneNumbers_split (z : Fin 16) : ∃ before after, zoneNumbers = before ++ z :: after ∧ z ∉ before ∧ z ∉ after := by
  obtain ⟨before, after, split⟩ := List.append_of_mem (List.mem_finRange z)
  have distinct := List.nodup_finRange 16
  rw [split, List.nodup_append, List.nodup_cons] at distinct
  obtain ⟨-, ⟨notAfter, -⟩, apart⟩ := distinct
  exact ⟨before, after, split, fun mem => apart z mem z (List.mem_cons_self ..) rfl, notAfter⟩

theorem foldl_othersKept {f : State → Fin 16 → State} (each : ∀ s y, OthersKept y s (f s y)) {z : Fin 16}
    {l : List (Fin 16)} (h : z ∉ l) (s : State) : (l.foldl f s).zones[z] = s.zones[z] := by
  induction l generalizing s with
  | nil => rfl
  | cons y l ih =>
    have other : z ≠ y := fun same => h (same ▸ List.mem_cons_self ..)
    exact (ih (fun mem => h (List.mem_cons_of_mem _ mem)) _).trans ((each s y).kept z other)

/-- When each zone is told in its turn and the telling changes that zone alone, a zone ends as its own turn leaves it,
which finds it as it was at first. -/
theorem foldl_zones {f : State → Fin 16 → State} (each : ∀ s y, OthersKept y s (f s y)) (s : State) (z : Fin 16) :
    ∃ before after, zoneNumbers = before ++ z :: after
      ∧ (before.foldl f s).zones[z] = s.zones[z]
      ∧ (zoneNumbers.foldl f s).zones[z] = (f (before.foldl f s) z).zones[z] := by
  obtain ⟨before, after, split, notBefore, notAfter⟩ := zoneNumbers_split z
  refine ⟨before, after, split, foldl_othersKept each notBefore s, ?_⟩
  rw [split, List.foldl_append, List.foldl_cons]
  exact foldl_othersKept each notAfter _

/-! ### Snapshots -/

section
variable (z : Fin 16) (s : State)

theorem discardSnapshot_zones (test : Snapshot → Bool) : (discardSnapshot z test s).zones
    = bankSet s.zones z { s.zones[z] with pending := removeFirst test s.zones[z].pending } := by
  unfold discardSnapshot
  split
  · rename_i none
    have kept : removeFirst test s.zones[z].pending = s.zones[z].pending :=
      removeFirst_none fun n mem => by simpa using List.find?_eq_none.1 none n mem
    rw [kept]
    exact (bankSet_self ..).symm
  · simp only [withdrawOrders_keeps, withdraw_keeps, releaseEntries_keeps]
    rfl

theorem buildSnapshot_zones : (buildSnapshot z s).zones = bankSet s.zones z
    { s.zones[z] with
      lastSeq := (s.newSnapshot z).seq
      pending := s.zones[z].pending ++ [s.newSnapshot z]
      lastA := (s.newSnapshot z).lastOrder .A
      lastB := (s.newSnapshot z).lastOrder .B } := by
  unfold buildSnapshot
  simp only [postOrders_keeps, raiseLimited_keeps, holdEntries_keeps]
  rfl

theorem recompute_zones {n : Snapshot} (found : s.zones[z].pending.find? Snapshot.isUnstarted = some n) :
    (recompute z s).zones = bankSet s.zones z
      { s.zones[z] with
        pending := modifyFirst Snapshot.isUnstarted (fun _ => s.recomputedSnapshot z n) s.zones[z].pending
        lastA := (s.recomputedSnapshot z n).lastOrder .A
        lastB := (s.recomputedSnapshot z n).lastOrder .B } := by
  unfold recompute
  rw [found]
  simp only [postOrders_keeps, raiseLimited_keeps]
  rfl

theorem recompute_of_none (found : s.zones[z].pending.find? Snapshot.isUnstarted = none) : recompute z s = s := by
  unfold recompute
  rw [found]

/-! ### Entering and leaving service (R82, R83) -/

/-- R82: the zone in its new state, on which its first snapshot is built. -/
def entered (x : ZoneState) : State := s.modifyZone z fun q => { q with state := x, restartTimer := none }

theorem enterService_zones (x : ZoneState) :
    let n := (entered z s x).newSnapshot z
    (enterService z x s).zones = bankSet s.zones z
      { s.zones[z] with
        state := x, restartTimer := none, periodTimer := some n.period, lastSeq := n.seq
        pending := s.zones[z].pending ++ [n], lastA := n.lastOrder .A, lastB := n.lastOrder .B } := by
  intro n
  have built := buildSnapshot_zones z (entered z s x)
  have self : (entered z s x).zones[z] = { s.zones[z] with state := x, restartTimer := none } := by
    simp [entered]
  rw [self, show (entered z s x).zones = bankSet s.zones z _ from rfl, bankSet_bankSet] at built
  have zone := zone_of_bankSet (t := buildSnapshot z (entered z s x)) (s := s) built
  change bankSet (buildSnapshot z (entered z s x)).zones z
    { (buildSnapshot z (entered z s x)).zones[z] with periodTimer := some n.period } = _
  rw [zone, built, bankSet_bankSet]

/-- R83, R80: what is left of the pending list when a zone leaves service. -/
def State.leftPending : List Snapshot :=
  removeFirst Snapshot.isUnstarted
    (match s.zones[z].pending.find? Snapshot.isStarted with
      | some n => if waits (isMarkOf z n.seq) s then removeFirst Snapshot.isStarted s.zones[z].pending
        else s.zones[z].pending
      | none => s.zones[z].pending)

theorem stopTimers_zones (x : ZoneState) : (stopTimers z x s).zones = bankSet s.zones z
    { s.zones[z] with state := x, periodTimer := none, restartTimer := none } := rfl

theorem stopAndDiscard_zones (x : ZoneState) : (stopAndDiscard z x s).zones = bankSet s.zones z
    { s.zones[z] with
      state := x, periodTimer := none, restartTimer := none, pending := s.leftPending z } := by
  have stopped := stopTimers_zones z s x
  have zone := zone_of_bankSet stopped
  have marked : (discardIfMarkWaits z (stopTimers z x s)).zones = bankSet s.zones z
      { s.zones[z] with
        state := x, periodTimer := none, restartTimer := none
        pending := match s.zones[z].pending.find? Snapshot.isStarted with
          | some n => if waits (isMarkOf z n.seq) s then removeFirst Snapshot.isStarted s.zones[z].pending
            else s.zones[z].pending
          | none => s.zones[z].pending } := by
    unfold discardIfMarkWaits
    rw [zone]
    cases found : s.zones[z].pending.find? Snapshot.isStarted with
    | none => exact stopped
    | some n =>
      dsimp only
      by_cases there : waits (isMarkOf z n.seq) s = true
      · rw [if_pos there, if_pos (show waits (isMarkOf z n.seq) (stopTimers z x s) = true from there),
          discardSnapshot_zones, zone, stopped, bankSet_bankSet]
      · rw [if_neg there, if_neg (show ¬ waits (isMarkOf z n.seq) (stopTimers z x s) = true from there), stopped]
  unfold stopAndDiscard
  rw [discardSnapshot_zones, zone_of_bankSet marked, marked, bankSet_bankSet]
  rfl

theorem leaveService_zones (x : ZoneState) : (leaveService z x s).zones = bankSet s.zones z
    { s.zones[z] with
      state := x, periodTimer := none, restartTimer := none, pending := s.leftPending z } := by
  rw [leaveService_eq]
  split
  · exact stopAndDiscard_zones z s x
  · rw [(postStops_keeps ..).2.2.2.2.1]
    exact stopAndDiscard_zones z s x

theorem leaveService_zone (x : ZoneState) : (leaveService z x s).zones[z] = { s.zones[z] with
    state := x, periodTimer := none, restartTimer := none, pending := s.leftPending z } :=
  zone_of_bankSet (leaveService_zones z s x)

/-! ### The other zones -/

theorem othersKept_recompute : OthersKept z s (recompute z s) := by
  cases found : s.zones[z].pending.find? Snapshot.isUnstarted with
  | none => rw [recompute_of_none z s found]; exact .refl z s
  | some n => exact .of_bankSet (recompute_zones z s found)

theorem othersKept_leaveService (x : ZoneState) : OthersKept z s (leaveService z x s) :=
  .of_bankSet (leaveService_zones z s x)

theorem othersKept_enterService (x : ZoneState) : OthersKept z s (enterService z x s) :=
  .of_bankSet (enterService_zones z s x)

theorem othersKept_addOrphan (fwd rev : Nat) : OthersKept z s (addOrphan z fwd rev s) := othersKept_modifyZone ..

theorem othersKept_creditEntry (e : Entry) (fwd rev : Nat) (k : ClosureKind) :
    OthersKept z s (creditEntry z e fwd rev k s) := by
  unfold creditEntry
  split
  · exact .of_zones (by simp)
  · exact (othersKept_addOrphan z s fwd rev).trans (.of_zones (by simp))

theorem othersKept_creditEntries (k : ClosureKind) (l : List (Entry × Nat × Nat)) :
    OthersKept z s (creditEntries z k l s) := by
  induction l generalizing s with
  | nil => exact .refl z s
  | cons x l ih => exact (othersKept_creditEntry ..).trans (ih _)

theorem othersKept_shareOut (d : Side) (qf qr : Nat) (k : ClosureKind) : OthersKept z s (shareOut z d qf qr k s) := by
  unfold shareOut
  split
  · exact othersKept_addOrphan ..
  · exact othersKept_creditEntries ..

theorem othersKept_closeSide (seq : BitVec 8) (d : Side) (qf qr : Nat) (k : ClosureKind) :
    OthersKept z s (closeSide z seq d qf qr k s) :=
  (othersKept_shareOut z s d qf qr k).trans (othersKept_modifyZone ..)

theorem othersKept_foldl {α : Type} {f : State → α → State} (each : ∀ s a, OthersKept z s (f s a)) (l : List α) :
    OthersKept z s (l.foldl f s) := by
  induction l generalizing s with
  | nil => exact .refl z s
  | cons a l ih => exact (each s a).trans (ih _)

theorem othersKept_forceClose (n : Snapshot) : OthersKept z s (forceClose z n s) :=
  othersKept_foldl z s (fun t (d : Side) => othersKept_closeSide z t n.seq d d.qfOrd d.qrOrd .forced) _

theorem othersKept_boundaryForce : OthersKept z s (boundaryForce z s) := by
  unfold boundaryForce
  split
  · split
    · exact othersKept_forceClose ..
    · exact .refl z s
  · exact .refl z s

theorem othersKept_lateSide (n : Snapshot) (d : Side) : OthersKept z s (lateSide z n s d) := by
  unfold lateSide
  split
  · refine .trans (.trans (.of_zones (withdraw_keeps (isOrder d.channel n.seq) s).2.2.2.2.1)
      (othersKept_modifyZone ..)) (.of_zones (raise_keeps ..).2.2.2.2.1)
  · exact .refl z s

theorem othersKept_boundaryStart : OthersKept z s (boundaryStart z s) := by
  have advanced := othersKept_modifyZone z (fun q => { q with pending := advancePhases q.pending }) s
  unfold boundaryStart
  dsimp only
  split
  · exact advanced
  · rename_i n _
    exact (advanced.trans (.of_zones (postItem_keeps (markItem z n) _).2.2.2.2.1)).trans
      (othersKept_foldl z _ (fun t d => othersKept_lateSide z t n d) _)

theorem othersKept_takeBoundary : OthersKept z s (takeBoundary z s) := by
  unfold takeBoundary
  exact (((othersKept_boundaryForce z s).trans (othersKept_boundaryStart z _)).trans
    (.of_bankSet (buildSnapshot_zones z _))).trans (othersKept_modifyZone ..)

theorem othersKept_tellMotion (m : Motion) : OthersKept z s (tellMotion m s z) := by
  unfold tellMotion
  split
  · exact (othersKept_modifyZone ..).trans (othersKept_recompute ..)
  · exact (othersKept_modifyZone ..).trans (othersKept_recompute ..)
  · exact othersKept_leaveService ..
  · exact othersKept_modifyZone ..
  · exact othersKept_modifyZone ..
  · exact .refl z s

theorem othersKept_tellHalt : OthersKept z s (tellHalt s z) := by
  unfold tellHalt
  split
  · exact othersKept_leaveService ..
  · exact othersKept_leaveService ..
  · exact othersKept_leaveService ..
  · exact othersKept_modifyZone ..
  · exact .refl z s
  · exact .refl z s

theorem othersKept_tellResume : OthersKept z s (tellResume s z) := by
  unfold tellResume
  split
  · exact othersKept_modifyZone ..
  · exact .refl z s

theorem othersKept_faultZone : OthersKept z s (faultZone z s) := by
  unfold faultZone
  split
  · exact .refl z s
  · exact .refl z s
  · exact othersKept_leaveService ..

theorem othersKept_restartExpires : OthersKept z s (restartExpires z s) := by
  unfold restartExpires
  split
  · exact othersKept_enterService ..
  · exact othersKept_enterService ..
  · exact othersKept_enterService ..
  · exact othersKept_leaveService ..
  · exact othersKept_modifyZone ..

theorem othersKept_periodTimerExpires : OthersKept z s (periodTimerExpires z s) := by
  unfold periodTimerExpires
  split
  · exact othersKept_takeBoundary ..
  · exact othersKept_takeBoundary ..
  · exact .refl z s

theorem othersKept_restartTimerExpires : OthersKept z s (restartTimerExpires z s) := by
  unfold restartTimerExpires
  split
  · exact .refl z s
  · split
    · exact othersKept_modifyZone ..
    · exact othersKept_restartExpires ..

theorem othersKept_enterState (x : ZoneState) : OthersKept z s (enterState z x s) := by
  unfold enterState
  split
  · exact othersKept_enterService ..
  · exact othersKept_enterService ..
  · exact othersKept_modifyZone ..

end

end Sys2Proof.Machine

/-! Where the zones stand: the state and the restart timer of each, what the operations make of them, and the two laws
that speak of them, of the halted line (R90, R91, R151 to R154) and of the conveyor's motion (R86 to R89). -/

namespace Sys2Proof.Machine

/-- R76: a zone's state and its restart timer. -/
def Sequencer.stand (q : Sequencer) : ZoneState × Option Nat := (q.state, q.restartTimer)

/-- Every zone stands as it stood. -/
structure StandsKept (s t : State) : Prop where
  kept : ∀ z : Fin 16, t.zones[z].stand = s.zones[z].stand

/-- R92: every zone stands as it stood, or a fault has taken it out of service. -/
structure ZonesFault (s t : State) : Prop where
  each : ∀ z : Fin 16, t.zones[z].stand = s.zones[z].stand
    ∨ (s.zones[z].state ≠ .disabled ∧ t.zones[z].stand = (.faulted, none))

section
variable {s t u : State}

theorem stand_state {q r : Sequencer} (h : q.stand = r.stand) : q.state = r.state := congrArg Prod.fst h

theorem stand_of_state {q : Sequencer} {x : ZoneState} (h : q.state = x) : q.stand = (x, q.restartTimer) :=
  congrArg (·, q.restartTimer) h

theorem StandsKept.refl (s : State) : StandsKept s s := ⟨fun _ => rfl⟩

theorem StandsKept.trans (h : StandsKept s t) (k : StandsKept t u) : StandsKept s u :=
  ⟨fun z => (k.kept z).trans (h.kept z)⟩

theorem StandsKept.of_zones (same : t.zones = s.zones) : StandsKept s t := ⟨fun _ => by rw [same]⟩

theorem ZonesFault.of_kept (h : StandsKept s t) : ZonesFault s t := ⟨fun z => .inl (h.kept z)⟩

theorem ZonesFault.refl (s : State) : ZonesFault s s := .of_kept (.refl s)

theorem ZonesFault.trans (h : ZonesFault s t) (k : ZonesFault t u) : ZonesFault s u := ⟨fun z => by
  rcases h.each z with same | ⟨inService, faulted⟩
  · rcases k.each z with same' | ⟨inService, faulted⟩
    · exact .inl (same'.trans same)
    · exact .inr ⟨stand_state same ▸ inService, faulted⟩
  · rcases k.each z with same' | ⟨-, faulted'⟩
    · exact .inr ⟨inService, same'.trans faulted⟩
    · exact .inr ⟨inService, faulted'⟩⟩

/-- A fault after what keeps the zones. -/
theorem ZonesFault.after (h : ZonesFault t u) (k : StandsKept s t) : ZonesFault s u := (ZonesFault.of_kept k).trans h

theorem standsKept_foldl {α : Type} {f : State → α → State} (each : ∀ s a, StandsKept s (f s a)) (l : List α)
    (s : State) : StandsKept s (l.foldl f s) := by
  induction l generalizing s with
  | nil => exact .refl s
  | cons a l ih => exact (each s a).trans (ih _)

theorem zonesFault_foldl {α : Type} {f : State → α → State} (each : ∀ s a, ZonesFault s (f s a)) (l : List α)
    (s : State) : ZonesFault s (l.foldl f s) := by
  induction l generalizing s with
  | nil => exact .refl s
  | cons a l ih => exact (each s a).trans (ih _)

theorem standsKept_modifyZone (z : Fin 16) {f : Sequencer → Sequencer} (s : State)
    (same : ∀ q, (f q).stand = q.stand := by exact fun _ => rfl) : StandsKept s (s.modifyZone z f) := ⟨fun y => by
  rw [modifyZone_get]
  split
  · rename_i here
    rw [same, here]
  · rfl⟩

/-- What one zone's stand becomes, the others kept. -/
theorem stand_of_othersKept {z y : Fin 16} {x : ZoneState × Option Nat} (others : OthersKept z s t)
    (here : t.zones[z].stand = x) : t.zones[y].stand = if y = z then x else s.zones[y].stand := by
  split
  · rename_i same
    exact same ▸ here
  · rw [others.kept y ‹_›]

end

/-! ### Closures and snapshots -/

section
variable (z : Fin 16) (s : State)

theorem standsKept_creditEntry (e : Entry) (fwd rev : Nat) (k : ClosureKind) :
    StandsKept s (creditEntry z e fwd rev k s) := by
  have added : StandsKept s (addOrphan z fwd rev s) := standsKept_modifyZone z s
  unfold creditEntry
  split
  · exact .of_zones (by simp)
  · exact added.trans (.of_zones (by simp))

theorem standsKept_creditEntries (k : ClosureKind) (l : List (Entry × Nat × Nat)) :
    StandsKept s (creditEntries z k l s) := by
  induction l generalizing s with
  | nil => exact .refl s
  | cons x l ih => exact (standsKept_creditEntry ..).trans (ih _)

theorem standsKept_shareOut (d : Side) (qf qr : Nat) (k : ClosureKind) : StandsKept s (shareOut z d qf qr k s) := by
  unfold shareOut
  split
  · exact standsKept_modifyZone z s
  · exact standsKept_creditEntries ..

theorem standsKept_closeSide (seq : BitVec 8) (d : Side) (qf qr : Nat) (k : ClosureKind) :
    StandsKept s (closeSide z seq d qf qr k s) :=
  (standsKept_shareOut z s d qf qr k).trans (standsKept_modifyZone z _)

theorem standsKept_loseSidesOf (c : Fin 32) : StandsKept s (loseSidesOf c s z) := by
  unfold loseSidesOf
  split
  · refine standsKept_foldl (fun t n => ?_) _ s
    split
    · exact standsKept_closeSide ..
    · exact .refl t
  · exact .refl s

theorem standsKept_loseSides (c : Fin 32) : StandsKept s (loseSides c s) :=
  standsKept_foldl (f := loseSidesOf c) (fun t y => standsKept_loseSidesOf y t c) _ s

theorem standsKept_boundaryForce : StandsKept s (boundaryForce z s) := by
  unfold boundaryForce
  split
  · rename_i n _ _
    split
    · exact standsKept_foldl (fun t (d : Side) => standsKept_closeSide z t n.seq d d.qfOrd d.qrOrd .forced) _ s
    · exact .refl s
  · exact .refl s

theorem standsKept_lateSide (n : Snapshot) (d : Side) : StandsKept s (lateSide z n s d) := by
  unfold lateSide
  split
  · refine .trans (.trans (.of_zones (withdraw_keeps (isOrder d.channel n.seq) s).2.2.2.2.1)
      (standsKept_modifyZone z _)) (.of_zones (raise_keeps ..).2.2.2.2.1)
  · exact .refl s

theorem standsKept_boundaryStart : StandsKept s (boundaryStart z s) := by
  have advanced : StandsKept s (s.modifyZone z fun q => { q with pending := advancePhases q.pending }) :=
    standsKept_modifyZone z s
  unfold boundaryStart
  dsimp only
  split
  · exact advanced
  · rename_i n _
    exact (advanced.trans (.of_zones (postItem_keeps (markItem z n) _).2.2.2.2.1)).trans
      (standsKept_foldl (fun t d => standsKept_lateSide z t n d) _ _)

theorem standsKept_of_bankSet {z : Fin 16} {s t : State} {q : Sequencer} (h : t.zones = bankSet s.zones z q)
    (same : q.stand = s.zones[z].stand) : StandsKept s t := ⟨fun y => by
  rw [h, bankSet_get]
  split
  · rename_i here
    rw [same, here]
  · rfl⟩

theorem standsKept_buildSnapshot : StandsKept s (buildSnapshot z s) :=
  standsKept_of_bankSet (buildSnapshot_zones z s) rfl

theorem standsKept_recompute : StandsKept s (recompute z s) := by
  cases found : s.zones[z].pending.find? Snapshot.isUnstarted with
  | none => rw [recompute_of_none z s found]; exact .refl s
  | some n => exact standsKept_of_bankSet (recompute_zones z s found) rfl

theorem standsKept_takeBoundary : StandsKept s (takeBoundary z s) := by
  have built := ((standsKept_boundaryForce z s).trans (standsKept_boundaryStart z _)).trans
    (standsKept_buildSnapshot z _)
  unfold takeBoundary
  refine built.trans ?_
  exact standsKept_modifyZone z _

theorem standsKept_periodTimerExpires : StandsKept s (periodTimerExpires z s) := by
  unfold periodTimerExpires
  split
  · exact standsKept_takeBoundary ..
  · exact standsKept_takeBoundary ..
  · exact .refl s

/-! ### Service, motion, halt and fault -/

theorem stand_leaveService (x : ZoneState) : (leaveService z x s).zones[z].stand = (x, none) := by
  rw [leaveService_zone]
  rfl

theorem stand_enterService (x : ZoneState) : (enterService z x s).zones[z].stand = (x, none) := by
  rw [zone_of_bankSet (enterService_zones z s x)]
  rfl

theorem stand_modifyZone (f : Sequencer → Sequencer) : (s.modifyZone z f).zones[z].stand = (f s.zones[z]).stand := by
  rw [modifyZone_get, if_pos rfl]

theorem stand_setTimer (timer : Option Nat) {x : ZoneState} (h : s.zones[z].state = x) :
    (s.modifyZone z fun q => { q with restartTimer := timer }).zones[z].stand = (x, timer) :=
  (stand_modifyZone ..).trans (congrArg (·, timer) h)

/-- R86 to R89: where a zone stands when it has been told the motion state. -/
def Motion.tells (delay : Nat) : Motion → ZoneState × Option Nat → ZoneState × Option Nat
  | .stopped, (.running, timer) => (.protect, timer)
  | .moving, (.protect, timer) => (.running, timer)
  | .parked, (.protect, _) => (.parked, none)
  | .moving, (.parked, _) => (.parked, some delay)
  | .stopped, (.parked, _) => (.parked, none)
  | _, stand => stand

theorem stand_tellMotion (m : Motion) :
    (tellMotion m s z).zones[z].stand = m.tells s.map.line.restartDelay s.zones[z].stand := by
  have recomputed (x : ZoneState) :
      (recompute z (s.modifyZone z fun q => { q with state := x })).zones[z].stand = (x, s.zones[z].restartTimer) :=
    ((standsKept_recompute z _).kept z).trans (stand_modifyZone z s _)
  unfold tellMotion
  split
  case h_1 st => exact (recomputed _).trans (by rw [stand_of_state st]; rfl)
  case h_2 st => exact (recomputed _).trans (by rw [stand_of_state st]; rfl)
  case h_3 st => exact (stand_leaveService ..).trans (by rw [stand_of_state st]; rfl)
  case h_4 st => exact (stand_setTimer z s _ st).trans (by rw [stand_of_state st]; rfl)
  case h_5 st => exact (stand_setTimer z s _ st).trans (by rw [stand_of_state st]; rfl)
  case h_6 notStopped notMoving notParked parkedMoving parkedStopped =>
    unfold Motion.tells
    split
    case h_1 same => exact absurd rfl (notStopped (congrArg Prod.fst same))
    case h_2 same => exact absurd rfl (notMoving (congrArg Prod.fst same))
    case h_3 same => exact absurd rfl (notParked (congrArg Prod.fst same))
    case h_4 same => exact absurd rfl (parkedMoving (congrArg Prod.fst same))
    case h_5 same => exact absurd rfl (parkedStopped (congrArg Prod.fst same))
    case h_6 => rfl

/-- R90: where a zone stands when it has been told of a halt. -/
def haltTells : ZoneState × Option Nat → ZoneState × Option Nat
  | (.disabled, timer) => (.disabled, timer)
  | (.faulted, timer) => (.faulted, timer)
  | _ => (.halted, none)

theorem stand_tellHalt : (tellHalt s z).zones[z].stand = haltTells s.zones[z].stand := by
  unfold tellHalt
  split
  case h_4 st => exact (stand_setTimer z s _ st).trans (by rw [stand_of_state st]; rfl)
  case h_5 st => rw [stand_of_state st]; rfl
  case h_6 st => rw [stand_of_state st]; rfl
  all_goals
    rename_i st
    exact (stand_leaveService ..).trans (by rw [stand_of_state st]; rfl)

/-- R91: where a zone stands when it has been told of a resume. -/
def resumeTells (delay : Nat) : ZoneState × Option Nat → ZoneState × Option Nat
  | (.halted, _) => (.halted, some delay)
  | stand => stand

theorem stand_tellResume :
    (tellResume s z).zones[z].stand = resumeTells s.map.line.restartDelay s.zones[z].stand := by
  unfold tellResume
  split
  · rename_i st
    exact (stand_setTimer z s _ st).trans (by rw [stand_of_state st]; rfl)
  · rename_i other
    unfold resumeTells
    split
    · rename_i halted
      exact absurd (congrArg Prod.fst halted) other
    · rfl

end

section
variable (s : State)

/-- When each zone is told in its turn, each stands as its own telling leaves it. -/
theorem stand_foldl {f : State → Fin 16 → State} {tells : ZoneState × Option Nat → ZoneState × Option Nat}
    {s : State} (others : ∀ s y, OthersKept y s (f s y)) (map : ∀ s y, (f s y).map = s.map)
    (each : ∀ u z, u.map = s.map → (f u z).zones[z].stand = tells u.zones[z].stand) (z : Fin 16) :
    (zoneNumbers.foldl f s).zones[z].stand = tells s.zones[z].stand := by
  obtain ⟨before, after, -, start, result⟩ := foldl_zones others s z
  rw [result, each _ _ (foldl_keeps f State.map map before s), start]

theorem stand_changeMotion (m : Motion) (z : Fin 16) :
    (changeMotion m s).zones[z].stand = m.tells s.map.line.restartDelay s.zones[z].stand := by
  refine (stand_foldl (f := tellMotion m) (s := raise .motion s) (fun u y => othersKept_tellMotion y u m) (by simp)
    (fun u y same => ?_) z).trans (by rw [(raise_keeps ..).2.2.2.2.1])
  rw [stand_tellMotion, same]
  rfl

theorem stand_tellHalts (z : Fin 16) : (zoneNumbers.foldl tellHalt s).zones[z].stand = haltTells s.zones[z].stand :=
  stand_foldl (f := tellHalt) (fun u y => othersKept_tellHalt y u) (by simp) (fun u y _ => stand_tellHalt y u) z

theorem stand_tellResumes (z : Fin 16) :
    (zoneNumbers.foldl tellResume s).zones[z].stand = resumeTells s.map.line.restartDelay s.zones[z].stand :=
  stand_foldl (f := tellResume) (fun u y => othersKept_tellResume y u) (by simp)
    (fun u y same => by rw [stand_tellResume, same]) z

/-- R92: a fault call takes a zone in service into FAULTED. -/
theorem zonesFault_faultZone (z : Fin 16) : ZonesFault s (faultZone z s) := by
  unfold faultZone
  split
  · exact .refl s
  · exact .refl s
  · rename_i enabled _
    refine ⟨fun y => ?_⟩
    rw [stand_of_othersKept (othersKept_leaveService z s .faulted) (stand_leaveService z s .faulted)]
    split
    · rename_i here
      exact .inr ⟨here ▸ enabled, rfl⟩
    · exact .inl rfl

theorem zonesFault_raiseMajor (c : Case) : ZonesFault s (raiseMajor c s) := by
  unfold raiseMajor
  dsimp only
  split
  · exact (zonesFault_faultZone ..).after (.of_zones rfl)
  · exact .of_kept (.of_zones rfl)

theorem zonesFault_handOff (z : Fin 16) (mode : Mode) (d : Side) (qf qr : Nat) :
    ZonesFault s (handOff z mode d qf qr s) := by
  unfold handOff
  split
  · exact .refl s
  · cases s.classify z mode d qf qr with
    | major c => exact zonesFault_raiseMajor ..
    | minor c => exact .of_kept (.of_zones rfl)
    | nothing => exact .refl s

theorem zonesFault_takeReadback (c : Fin 32) (b : Readback) : ZonesFault s (takeReadback c s b) := by
  unfold takeReadback
  split
  · exact (ZonesFault.of_kept (standsKept_closeSide ..)).trans (zonesFault_handOff ..)
  · exact .of_kept (.of_zones rfl)

theorem zonesFault_judgeStatus (st : ReplyStatus) (c : Fin 32) (poster : Option (Fin 16)) :
    ZonesFault s (judgeStatus st c poster s) := by
  cases st with
  | ok => exact .refl s
  | limit => exact .of_kept (.of_zones rfl)
  | fault => exact zonesFault_raiseMajor ..

theorem standsKept_closing (closes : Bool) (c : Fin 32) : StandsKept s (if closes then loseSides c s else s) := by
  split
  · exact standsKept_loseSides ..
  · exact .refl s

theorem zonesFault_goodEnd (item : DriveItem) (c : Fin 32) (st : ReplyStatus) (rbs : List Readback) :
    ZonesFault s (goodEnd item c st rbs s) := by
  have start : ZonesFault s
      (s.modifyChannel c fun k => { k with misses := 0, lastStatus := some st, lastEnd := some .good }) :=
    .of_kept (.of_zones rfl)
  have read := start.trans (zonesFault_foldl (f := takeReadback c) (fun u b => zonesFault_takeReadback u c b) rbs _)
  have lost := read.trans (.of_kept (standsKept_closing _ item.closes c))
  exact (lost.trans (zonesFault_judgeStatus _ st c item.poster)).trans
    (.of_kept (.of_zones (endTransaction_keeps _).2.2.2.2.1))

theorem zonesFault_badEnd (item : DriveItem) (c : Fin 32) (how : TransactionEnd) :
    ZonesFault s (badEnd item c how s) := by
  have start : ZonesFault s (s.modifyChannel c fun k => { k with misses := min 3 (k.misses + 1), lastEnd := some how }) :=
    .of_kept (.of_zones rfl)
  have lost := start.trans (.of_kept (standsKept_closing _ item.closes c))
  have faulted (u : State) :
      ZonesFault u (if s.drive.channels[c].misses = 2 then channelFault c item.poster u else u) := by
    split
    · exact zonesFault_raiseMajor ..
    · exact .refl u
  exact (lost.trans (faulted _)).trans (.of_kept (.of_zones (endTransaction_keeps _).2.2.2.2.1))

/-- R88, R91, R116: where a zone stands when its restart timer has brought it back. -/
def Motion.restarts : Motion → ZoneState → ZoneState
  | .moving, .parked => .running
  | .moving, .halted => .running
  | .stopped, .halted => .protect
  | .parked, .halted => .parked
  | _, x => x

theorem stand_restartExpires (z : Fin 16) :
    (restartExpires z s).zones[z].stand = (s.pos.motion.restarts s.zones[z].state, none) := by
  unfold restartExpires
  split
  case h_1 st motion => rw [stand_enterService, st, motion]; rfl
  case h_2 st motion => rw [stand_enterService, st, motion]; rfl
  case h_3 st motion => rw [stand_enterService, st, motion]; rfl
  case h_4 st motion => rw [stand_leaveService, st, motion]; rfl
  case h_5 parkedMoving haltedMoving haltedStopped haltedParked =>
    rw [stand_setTimer z s none rfl]
    unfold Motion.restarts
    split
    case h_1 motion st => exact absurd motion (parkedMoving st)
    case h_2 motion st => exact absurd motion (haltedMoving st)
    case h_3 motion st => exact absurd motion (haltedStopped st)
    case h_4 motion st => exact absurd motion (haltedParked st)
    case h_5 => rfl

theorem stand_restartTimerExpires (z : Fin 16) :
    (restartTimerExpires z s).zones[z].stand = if s.zones[z].restartTimer = none then s.zones[z].stand
      else if s.sup.halted then (s.zones[z].state, none)
      else (s.pos.motion.restarts s.zones[z].state, none) := by
  unfold restartTimerExpires
  cases timer : s.zones[z].restartTimer with
  | none => rfl
  | some n =>
    rw [if_neg (Option.some_ne_none n)]
    dsimp only
    by_cases halted : s.sup.halted = true
    · rw [if_pos halted, if_pos halted]
      exact stand_setTimer z s none rfl
    · rw [if_neg halted, if_neg halted]
      exact stand_restartExpires s z

end

end Sys2Proof.Machine

/-! The laws of the halted line and of the conveyor's motion. -/

namespace Sys2Proof.Machine

/-! ### The halted line (R90, R91, R151 to R154) -/

/-- R90: a stand that a zone can have on a halted line. -/
def StandHalted (x : ZoneState × Option Nat) : Prop :=
  (x.1 = .disabled ∨ x.1 = .faulted ∨ x.1 = .halted) ∧ x.2 = none

/-- R76: a restart timer runs only in PARKED and HALTED. -/
def StandTimed (x : ZoneState × Option Nat) : Prop := x.2 ≠ none → x.1 = .parked ∨ x.1 = .halted

theorem standTimed_of_none {x : ZoneState × Option Nat} (h : x.2 = none) : StandTimed x := fun running => absurd h running

theorem StandHalted.timed {x : ZoneState × Option Nat} (h : StandHalted x) : StandTimed x := standTimed_of_none h.2

/-- R86 to R89: a zone out of service on a halted line is not moved by the conveyor. -/
theorem StandHalted.tells {x : ZoneState × Option Nat} (h : StandHalted x) (delay : Nat) (m : Motion) :
    StandHalted (m.tells delay x) := by
  obtain ⟨st, timer⟩ := x
  obtain ⟨state, rfl⟩ := h
  rcases state with rfl | rfl | rfl <;> cases m <;> exact ⟨by simp [Motion.tells], rfl⟩

theorem StandTimed.tells {x : ZoneState × Option Nat} (h : StandTimed x) (delay : Nat) (m : Motion) :
    StandTimed (m.tells delay x) := by
  obtain ⟨st, timer⟩ := x
  unfold Motion.tells
  split
  case h_1 same =>
    obtain ⟨rfl, rfl⟩ := Prod.mk.inj same
    exact fun running => by simpa using h running
  case h_2 same =>
    obtain ⟨rfl, rfl⟩ := Prod.mk.inj same
    exact fun running => by simpa using h running
  case h_3 => exact standTimed_of_none rfl
  case h_4 => exact fun _ => .inl rfl
  case h_5 => exact standTimed_of_none rfl
  case h_6 => exact h

theorem StandTimed.halts {x : ZoneState × Option Nat} (h : StandTimed x) : StandHalted (haltTells x) := by
  obtain ⟨st, timer⟩ := x
  cases st with
  | disabled => exact ⟨.inl rfl, by_contra fun running => by simpa using h running⟩
  | faulted => exact ⟨.inr (.inl rfl), by_contra fun running => by simpa using h running⟩
  | running | protect | parked | halted => exact ⟨.inr (.inr rfl), rfl⟩

theorem StandTimed.resumes {x : ZoneState × Option Nat} (h : StandTimed x) (delay : Nat) :
    StandTimed (resumeTells delay x) := by
  obtain ⟨st, timer⟩ := x
  cases st with
  | halted => exact fun _ => .inr rfl
  | disabled | running | protect | parked | faulted => exact h

section
variable {s t : State}

theorem haltLaw_iff : HaltLaw s ↔ (s.sup.haltNActive = true → s.sup.halted = true)
    ∧ (s.sup.halted = true → ∀ z : Fin 16, StandHalted s.zones[z].stand) ∧ ∀ z : Fin 16, StandTimed s.zones[z].stand :=
  ⟨fun h => ⟨h.active, h.held, h.timers⟩, fun ⟨active, held, timers⟩ => ⟨active, held, timers⟩⟩

theorem HaltLaw.of_each (h : HaltLaw s) (sup : t.sup = s.sup)
    (each : ∀ z : Fin 16, (s.sup.halted = true → StandHalted s.zones[z].stand → StandHalted t.zones[z].stand)
      ∧ (StandTimed s.zones[z].stand → StandTimed t.zones[z].stand)) : HaltLaw t := by
  obtain ⟨active, held, timers⟩ := haltLaw_iff.1 h
  refine haltLaw_iff.2 ⟨sup ▸ active, fun halted z => ?_, fun z => (each z).2 (timers z)⟩
  rw [sup] at halted
  exact (each z).1 halted (held halted z)

theorem HaltLaw.of_kept (h : HaltLaw s) (sup : t.sup = s.sup) (kept : StandsKept s t) : HaltLaw t :=
  h.of_each sup fun z => by rw [kept.kept z]; exact ⟨fun _ => id, id⟩

theorem HaltLaw.of_zones (h : HaltLaw s) (sup : t.sup = s.sup) (zones : t.zones = s.zones) : HaltLaw t :=
  h.of_kept sup (.of_zones zones)

theorem HaltLaw.of_fault (h : HaltLaw s) (sup : t.sup = s.sup) (faults : ZonesFault s t) : HaltLaw t :=
  h.of_each sup fun z => by
    rcases faults.each z with same | ⟨-, faulted⟩
    · rw [same]
      exact ⟨fun _ => id, id⟩
    · rw [faulted]
      exact ⟨fun _ _ => ⟨.inr (.inl rfl), rfl⟩, fun _ => standTimed_of_none rfl⟩

/-- One zone stands anew, with no restart timer. -/
theorem HaltLaw.of_zone (h : HaltLaw s) (sup : t.sup = s.sup) {z : Fin 16} {x : ZoneState} (others : OthersKept z s t)
    (here : t.zones[z].stand = (x, none)) (out : s.sup.halted = true → x = .disabled ∨ x = .faulted ∨ x = .halted) :
    HaltLaw t :=
  h.of_each sup fun y => by
    rw [stand_of_othersKept others here]
    split
    · exact ⟨fun halted _ => ⟨out halted, rfl⟩, fun _ => standTimed_of_none rfl⟩
    · exact ⟨fun _ => id, id⟩

theorem haltLaw_changeMotion (m : Motion) (h : HaltLaw s) : HaltLaw (changeMotion m s) :=
  h.of_each (by simp) fun z => by
    rw [stand_changeMotion]
    exact ⟨fun _ held => held.tells _ m, fun timed => timed.tells _ m⟩

/-- R90, R152: a halt sets HALTED and leaves no zone in service. -/
theorem haltLaw_haltLine (timers : ∀ z : Fin 16, StandTimed s.zones[z].stand)
    (held : s.sup.halted = true → ∀ z : Fin 16, StandHalted s.zones[z].stand) : HaltLaw (haltLine s) := by
  unfold haltLine
  split
  · rename_i halted
    exact haltLaw_iff.2 ⟨fun _ => halted, held, timers⟩
  · have halts (z : Fin 16) : StandHalted (zoneNumbers.foldl tellHalt
        (postItem .abort (s.withSup { s.sup with halted := true }))).zones[z].stand := by
      rw [stand_tellHalts, (postItem_keeps ..).2.2.2.2.1]
      exact (timers z).halts
    have sup : (zoneNumbers.foldl tellHalt (postItem .abort (s.withSup { s.sup with halted := true }))).sup.halted
        = true := by
      rw [(tellHaltAll_keeps ..).2.2.2.2.1]
      simp
    revert halts sup
    generalize zoneNumbers.foldl tellHalt (postItem .abort (s.withSup { s.sup with halted := true })) = u
    exact fun halts sup => haltLaw_iff.2 ⟨fun _ => sup, fun _ => halts, fun z => (halts z).timed⟩

theorem haltLaw_pulseMotion (h : HaltLaw s) : HaltLaw (pulseMotion s) := by
  unfold pulseMotion
  split
  · exact h.of_zones rfl rfl
  · split
    · exact haltLaw_changeMotion .moving (h.of_zones rfl rfl)
    · exact h
  · exact h

theorem haltLaw_restartTimerExpires (z : Fin 16) (h : HaltLaw s) : HaltLaw (restartTimerExpires z s) := by
  have others := othersKept_restartTimerExpires z s
  have here := stand_restartTimerExpires s z
  by_cases timer : s.zones[z].restartTimer = none
  · rw [if_pos timer] at here
    refine h.of_kept (by simp) ⟨fun y => ?_⟩
    rw [stand_of_othersKept others here]
    split
    · rename_i same
      rw [same]
    · rfl
  · rw [if_neg timer] at here
    by_cases halted : s.sup.halted = true
    · rw [if_pos halted] at here
      exact h.of_zone (by simp) others here fun _ => (h.held halted z).1
    · rw [if_neg halted] at here
      exact h.of_zone (by simp) others here fun yes => absurd yes halted

theorem stand_enterState (z : Fin 16) (x : ZoneState) (noTimer : s.zones[z].restartTimer = none) :
    (enterState z x s).zones[z].stand = (x, none) := by
  unfold enterState
  split
  · exact stand_enterService ..
  · exact stand_enterService ..
  · rw [stand_modifyZone]
    exact congrArg (_, ·) noTimer

theorem haltLaw_enterState (z : Fin 16) (idle : s.zones[z].state.refusesEnable = false) (h : HaltLaw s) :
    HaltLaw (enterState z s.enabledInto s) := by
  have noTimer : s.zones[z].restartTimer = none := by
    by_contra running
    rcases h.timers z running with st | st <;> rw [st] at idle <;> cases idle
  refine h.of_zone (by simp) (othersKept_enterState z s _) (stand_enterState z _ noTimer) fun halted => ?_
  simp [State.enabledInto, halted]

theorem resetLineNow_zones (s : State) (z : Fin 16) : (resetLineNow s).zones[z] = s.zones[z].lineReset := by
  have posted : (resetLineNow s).zones = (clearForReset s).zones := (postStops_keeps ..).2.2.2.2.1
  rw [posted]
  simp [clearForReset]

/-- Every owner's step keeps the law of the halted line. -/
theorem Served.haltLaw (k : Served s t) (h : HaltLaw s) : HaltLaw t := by
  cases k with
  | still => exact h
  | profile | access | defined | redefined | slotState | erased | speed | ignoredCleared | addressed
  | countersCleared | eventsCleared | attention | staleCleared | walked => exact h.of_zones rfl rfl
  | edited | cancelled | retired => exact h.of_zones (by simp) (by simp)
  | announced _ _ _ taken => exact h.of_zones (by simp [takeProgram_keeps taken]) (by simp [takeProgram_keeps taken])
  | amended _ _ _ moved => exact h.of_zones (by simp [moveProgram_keeps moved]) (by simp [moveProgram_keeps moved])
  | identified _ _ _ _ moved => exact h.of_zones (by simp [moveProgram_keeps moved]) (by simp [moveProgram_keeps moved])
  | placed _ _ _ _ _ taken => exact h.of_zones (by simp [takeProgram_keeps taken]) (by simp [takeProgram_keeps taken])
  | enabled idle =>
    rename_i z _
    have cleared : (clearMisses s.map.zones[z].channels s).enabledInto = s.enabledInto := by
      simp [State.enabledInto]
    rw [← cleared]
    refine haltLaw_enterState z ?_ (h.of_zones (by simp) (by simp))
    rw [(clearMisses_keeps ..).2.2.2.2.1]
    exact idle
  | disabled => exact h.of_zone (by simp) (othersKept_leaveService ..) (stand_leaveService ..) fun _ => .inl rfl
  | halted => exact haltLaw_haltLine (haltLaw_iff.1 h).2.2 (haltLaw_iff.1 h).2.1
  | resumed halted inactive =>
    refine haltLaw_iff.2 ⟨fun active => ?_, fun halted => ?_, fun z => ?_⟩
    · rw [(tellResumeAll_keeps ..).2.2.2.2.2.2.1] at active
      exact absurd active (by simp [State.withSup, inactive])
    · rw [(tellResumeAll_keeps ..).2.2.2.2.2.2.1] at halted
      cases halted
    · rw [stand_tellResumes]
      exact ((haltLaw_iff.1 h).2.2 z).resumes _
  | lineReset =>
    have sup : (resetLineNow s).sup = s.sup := (postStops_keeps ..).2.2.2.2.2.2.1
    refine h.of_each sup fun z => ?_
    rw [resetLineNow_zones]
    exact ⟨fun _ _ => ⟨.inl rfl, rfl⟩, fun _ => standTimed_of_none rfl⟩

/-- Every event keeps the law of the halted line. -/
theorem Happened.haltLaw (k : Happened s t) (h : HaltLaw s) : HaltLaw t := by
  cases k with
  | encoder sense =>
    have moved := haltLaw_pulseMotion (h.of_zones (t := s.withPos (s.pos.stepped s.map.line.swapped sense)) rfl rfl)
    exact moved.of_zones (by simp [encoderStep]) (by simp [encoderStep])
  | stopTimer =>
    unfold stopTimerExpires
    split
    · exact haltLaw_changeMotion .stopped (h.of_zones rfl rfl)
    · exact h
  | parkTimer =>
    unfold parkTimerExpires
    split
    · exact haltLaw_changeMotion .parked (h.of_zones rfl rfl)
    · exact h
  | edge which => exact h.of_zones (by simp) (by simp)
  | otherEdge | skipped | pulseTimer | reminderTimer => exact h.of_zones rfl rfl
  | haltActive => exact haltLaw_haltLine (haltLaw_iff.1 h).2.2 (haltLaw_iff.1 h).2.1
  | haltInactive => exact ⟨nofun, h.held, h.timers⟩
  | period z => exact h.of_kept (by simp) (standsKept_periodTimerExpires z s)
  | restart z => exact haltLaw_restartTimerExpires z h
  | frameSent => exact h.of_zones (by simp) (by simp)
  | replyBegun => exact h.of_zones (by simp) (by simp)
  | goodEnd item c st rbs => exact h.of_fault (by simp) (zonesFault_goodEnd s item c st rbs)
  | badEnd item c how => exact h.of_fault (by simp) (zonesFault_badEnd s item c how)

theorem powerOn_stand (pins : Pins) (waiting : List Instr) (z : Fin 16) :
    (powerOnState pins waiting).zones[z].stand = (.disabled, none) := by
  simp [powerOnState, State.reset, Sequencer.powerOn, Sequencer.stand]

end

/-- Settles O49: a halt leaves no zone in service, and no zone comes back into service, nor a restart timer starts, while
HALTED is set. -/
theorem haltLawIsKept : Obligations.HaltLawIsKept := by
  intro s t law h
  obtain ⟨waiting, h⟩ := stepped_of_step h
  have start : HaltLaw { s with pending := waiting } := law.of_zones rfl rfl
  have timed (pins : Pins) (z : Fin 16) : StandTimed (powerOnState pins waiting).zones[z].stand :=
    standTimed_of_none (by rw [powerOn_stand])
  refine h.keeps start (fun pins high => ?_) (fun pins => haltLaw_haltLine (timed pins) (by nofun))
    (law.of_zones rfl rfl) (fun _ _ k => k.haltLaw start) (fun _ _ k => k.haltLaw start)
    (fun _ _ k => k.of_zones rfl rfl) (fun _ k => k.of_zones rfl rfl)
  refine haltLaw_iff.2 ⟨fun active => ?_, nofun, timed pins⟩
  simp [powerOnState, high] at active

/-! ### The conveyor's motion (sec. 3.3, R86 to R91) -/

/-- R86 to R89: a stand that a zone can have in a motion state. -/
structure StandMoves (m : Motion) (x : ZoneState × Option Nat) : Prop where
  running : x.1 = .running → m = .moving
  protect : x.1 = .protect → m = .stopped
  timers : x.2 ≠ none → x.1 = .halted ∨ (x.1 = .parked ∧ m = .moving)

/-- Sec. 3.3: each motion state has its own timer and stop mark. -/
structure MotionTimers (p : Position) : Prop where
  stopTimer : p.motion = .moving ↔ p.stopTimer ≠ none
  parkTimer : p.motion = .stopped ↔ p.parkTimer ≠ none
  stopMark : p.motion = .moving ↔ p.stopMark = none

theorem standMoves_idle {m : Motion} {x : ZoneState} (notRunning : x ≠ .running) (notProtect : x ≠ .protect) :
    StandMoves m (x, none) :=
  ⟨fun here => absurd here notRunning, fun here => absurd here notProtect, fun timer => absurd rfl timer⟩

/-- R86 to R89: told the motion state, a zone stands as that state allows. -/
theorem StandMoves.tells {old new : Motion} {x : ZoneState × Option Nat} (h : StandMoves old x) (delay : Nat)
    (moves : (old = .moving ∧ new = .stopped) ∨ (old = .stopped ∧ new = .parked) ∨ (old ≠ .moving ∧ new = .moving)) :
    StandMoves new (new.tells delay x) := by
  obtain ⟨st, timer⟩ := x
  have timers := h.timers
  have noTimer (notHalted : st ≠ .halted) (notParked : st ≠ .parked) : timer = none := by
    by_contra running
    rcases timers running with st' | ⟨st', -⟩
    · exact notHalted st'
    · exact notParked st'
  cases st with
  | disabled => rw [noTimer (by simp) (by simp)]; cases new <;> exact standMoves_idle (by simp) (by simp)
  | faulted => rw [noTimer (by simp) (by simp)]; cases new <;> exact standMoves_idle (by simp) (by simp)
  | halted => cases new <;> exact ⟨nofun, nofun, fun _ => .inl rfl⟩
  | running =>
    rw [noTimer (by simp) (by simp)]
    obtain rfl := h.running rfl
    rcases moves with ⟨-, rfl⟩ | ⟨moved, -⟩ | ⟨moved, -⟩
    · exact ⟨nofun, fun _ => rfl, nofun⟩
    · cases moved
    · exact absurd rfl moved
  | protect =>
    rw [noTimer (by simp) (by simp)]
    obtain rfl := h.protect rfl
    rcases moves with ⟨moved, -⟩ | ⟨-, rfl⟩ | ⟨-, rfl⟩
    · cases moved
    · exact standMoves_idle (by simp) (by simp)
    · exact ⟨fun _ => rfl, nofun, nofun⟩
  | parked =>
    rcases moves with ⟨-, rfl⟩ | ⟨rfl, rfl⟩ | ⟨-, rfl⟩
    · exact standMoves_idle (by simp) (by simp)
    · have none : timer = none := by
        by_contra running
        rcases timers running with st | ⟨-, moving⟩
        · cases st
        · cases moving
      rw [none]
      exact standMoves_idle (by simp) (by simp)
    · exact ⟨nofun, nofun, fun _ => .inr ⟨rfl, rfl⟩⟩

section
variable {s t : State}

theorem motionLaw_iff : MotionLaw s ↔ MotionTimers s.pos ∧ ∀ z : Fin 16, StandMoves s.pos.motion s.zones[z].stand :=
  ⟨fun h => ⟨⟨h.stopTimer, h.parkTimer, h.stopMark⟩, fun z => ⟨h.running z, h.protect z, h.timers z⟩⟩,
    fun ⟨timers, stands⟩ => ⟨timers.stopTimer, timers.parkTimer, timers.stopMark, fun z => (stands z).running,
      fun z => (stands z).protect, fun z => (stands z).timers⟩⟩

theorem MotionLaw.of_each (h : MotionLaw s) (pos : t.pos = s.pos)
    (each : ∀ z : Fin 16, StandMoves s.pos.motion s.zones[z].stand → StandMoves s.pos.motion t.zones[z].stand) :
    MotionLaw t := by
  obtain ⟨timers, stands⟩ := motionLaw_iff.1 h
  exact motionLaw_iff.2 ⟨pos ▸ timers, fun z => pos ▸ each z (stands z)⟩

theorem MotionLaw.of_kept (h : MotionLaw s) (pos : t.pos = s.pos) (kept : StandsKept s t) : MotionLaw t :=
  h.of_each pos fun z => by rw [kept.kept z]; exact id

theorem MotionLaw.of_zones (h : MotionLaw s) (pos : t.pos = s.pos) (zones : t.zones = s.zones) : MotionLaw t :=
  h.of_kept pos (.of_zones zones)

/-- The Position Tracker changed in what the law does not speak of. -/
theorem MotionLaw.of_pos (h : MotionLaw s) {p : Position} (motion : p.motion = s.pos.motion)
    (stopMark : p.stopMark = s.pos.stopMark) (stopTimer : p.stopTimer = s.pos.stopTimer)
    (parkTimer : p.parkTimer = s.pos.parkTimer) : MotionLaw (s.withPos p) := by
  obtain ⟨⟨stop, park, mark⟩, stands⟩ := motionLaw_iff.1 h
  refine motionLaw_iff.2 ⟨⟨?_, ?_, ?_⟩, fun z => ?_⟩
  · simpa [State.withPos, motion, stopTimer] using stop
  · simpa [State.withPos, motion, parkTimer] using park
  · simpa [State.withPos, motion, stopMark] using mark
  · simpa [State.withPos, motion] using stands z

theorem MotionLaw.of_fault (h : MotionLaw s) (pos : t.pos = s.pos) (faults : ZonesFault s t) : MotionLaw t :=
  h.of_each pos fun z => by
    rcases faults.each z with same | ⟨-, faulted⟩
    · rw [same]
      exact id
    · rw [faulted]
      exact fun _ => standMoves_idle (by simp) (by simp)

theorem MotionLaw.of_zone (h : MotionLaw s) (pos : t.pos = s.pos) {z : Fin 16} {x : ZoneState × Option Nat}
    (others : OthersKept z s t) (here : t.zones[z].stand = x) (moves : StandMoves s.pos.motion x) : MotionLaw t :=
  h.of_each pos fun y => by
    rw [stand_of_othersKept others here]
    split
    · exact fun _ => moves
    · exact id

/-- R41: a change of motion state told to the zones. -/
theorem motionLaw_changeMotion (h : MotionLaw s) {new : Motion} {p : Position} (timers : MotionTimers p)
    (motion : p.motion = new) (moves : (s.pos.motion = .moving ∧ new = .stopped)
      ∨ (s.pos.motion = .stopped ∧ new = .parked) ∨ (s.pos.motion ≠ .moving ∧ new = .moving)) :
    MotionLaw (changeMotion new (s.withPos p)) := by
  have pos : (changeMotion new (s.withPos p)).pos = p := (changeMotion_keeps ..).2.2.1
  have stands (z : Fin 16) : StandMoves new (changeMotion new (s.withPos p)).zones[z].stand := by
    rw [stand_changeMotion]
    exact ((motionLaw_iff.1 h).2 z).tells _ moves
  revert pos stands
  generalize changeMotion new (s.withPos p) = u
  exact fun pos stands => motionLaw_iff.2 ⟨pos.symm ▸ timers, fun z => pos.symm ▸ motion.symm ▸ stands z⟩

theorem motionLaw_pulseMotion (h : MotionLaw s) : MotionLaw (pulseMotion s) := by
  obtain ⟨timers, stands⟩ := motionLaw_iff.1 h
  unfold pulseMotion
  split
  · rename_i moving
    refine motionLaw_iff.2 ⟨⟨by simp [State.withPos, moving], timers.parkTimer, timers.stopMark⟩, stands⟩
  · rename_i _ still
    split
    · exact motionLaw_changeMotion h ⟨by simp, by simp, by simp⟩ rfl (.inr (.inr ⟨still, rfl⟩))
    · exact h
  · exact h

theorem motionLaw_stopTimerExpires (h : MotionLaw s) : MotionLaw (stopTimerExpires s) := by
  unfold stopTimerExpires
  split
  · rename_i moving _
    exact motionLaw_changeMotion h ⟨by simp, by simp, by simp⟩ rfl (.inl ⟨moving, rfl⟩)
  · exact h

theorem motionLaw_parkTimerExpires (h : MotionLaw s) : MotionLaw (parkTimerExpires s) := by
  unfold parkTimerExpires
  split
  · rename_i stopped _
    have noStop : s.pos.stopTimer = none := by
      by_contra running
      rw [h.stopTimer.2 running] at stopped
      cases stopped
    have mark : s.pos.stopMark ≠ none := fun none => by
      rw [h.stopMark.2 none] at stopped
      cases stopped
    exact motionLaw_changeMotion h ⟨by simp [noStop], by simp, by simp [mark]⟩ rfl (.inr (.inl ⟨stopped, rfl⟩))
  · exact h

theorem standMoves_restarts {m : Motion} {x : ZoneState} {timer : Option Nat} (h : StandMoves m (x, timer)) :
    StandMoves m (m.restarts x, none) := by
  unfold Motion.restarts
  split
  case h_1 => exact ⟨fun _ => rfl, nofun, nofun⟩
  case h_2 => exact ⟨fun _ => rfl, nofun, nofun⟩
  case h_3 => exact ⟨nofun, fun _ => rfl, nofun⟩
  case h_4 => exact standMoves_idle (by simp) (by simp)
  case h_5 => exact ⟨h.running, h.protect, nofun⟩

theorem motionLaw_restartTimerExpires (z : Fin 16) (h : MotionLaw s) : MotionLaw (restartTimerExpires z s) := by
  refine h.of_zone (by simp) (othersKept_restartTimerExpires z s) (stand_restartTimerExpires s z) ?_
  have start := (motionLaw_iff.1 h).2 z
  split
  · exact start
  · split
    · exact ⟨start.running, start.protect, nofun⟩
    · exact standMoves_restarts start

theorem motionLaw_haltLine (h : MotionLaw s) : MotionLaw (haltLine s) := by
  unfold haltLine
  split
  · exact h
  · refine h.of_each (by simp) fun z moves => ?_
    have told := stand_tellHalts (postItem .abort (s.withSup { s.sup with halted := true })) z
    rw [(postItem_keeps ..).2.2.2.2.1] at told
    rw [(raise_keeps ..).2.2.2.2.1, told]
    change StandMoves _ (haltTells s.zones[z].stand)
    generalize s.zones[z].stand = x at moves
    obtain ⟨st, timer⟩ := x
    cases st with
    | disabled => exact moves
    | faulted => exact moves
    | running | protect | parked | halted => exact standMoves_idle (by simp) (by simp)

theorem motionLaw_enterState (z : Fin 16) (idle : s.zones[z].state.refusesEnable = false) (h : MotionLaw s) :
    MotionLaw (enterState z s.enabledInto s) := by
  have noTimer : s.zones[z].restartTimer = none := by
    by_contra running
    rcases h.timers z running with st | ⟨st, -⟩ <;> rw [st] at idle <;> cases idle
  refine h.of_zone (by simp) (othersKept_enterState z s _) (stand_enterState z _ noTimer) ?_
  unfold State.enabledInto
  split
  · exact standMoves_idle (by simp) (by simp)
  · cases motion : s.pos.motion with
    | moving => exact ⟨fun _ => rfl, nofun, nofun⟩
    | stopped => exact ⟨nofun, fun _ => rfl, nofun⟩
    | parked => exact standMoves_idle (by simp) (by simp)

/-- Every owner's step keeps the zones on the motion state. -/
theorem Served.motionLaw (k : Served s t) (h : MotionLaw s) : MotionLaw t := by
  cases k with
  | still => exact h
  | profile | access | defined | redefined | slotState | erased | addressed
  | countersCleared | eventsCleared | attention | staleCleared | walked => exact h.of_zones rfl rfl
  | speed | ignoredCleared => exact h.of_pos rfl rfl rfl rfl
  | edited | cancelled | retired => exact h.of_zones (by simp) (by simp)
  | announced _ _ _ taken => exact h.of_zones (by simp [takeProgram_keeps taken]) (by simp [takeProgram_keeps taken])
  | amended _ _ _ moved => exact h.of_zones (by simp [moveProgram_keeps moved]) (by simp [moveProgram_keeps moved])
  | identified _ _ _ _ moved => exact h.of_zones (by simp [moveProgram_keeps moved]) (by simp [moveProgram_keeps moved])
  | placed _ _ _ _ _ taken => exact h.of_zones (by simp [takeProgram_keeps taken]) (by simp [takeProgram_keeps taken])
  | enabled idle =>
    rename_i z _
    have cleared : (clearMisses s.map.zones[z].channels s).enabledInto = s.enabledInto := by
      simp [State.enabledInto]
    rw [← cleared]
    refine motionLaw_enterState z ?_ (h.of_zones (by simp) (by simp))
    rw [(clearMisses_keeps ..).2.2.2.2.1]
    exact idle
  | disabled =>
    exact h.of_zone (by simp) (othersKept_leaveService ..) (stand_leaveService ..) (standMoves_idle (by simp) (by simp))
  | halted => exact motionLaw_haltLine h
  | resumed =>
    refine h.of_each (by simp) fun z moves => ?_
    rw [stand_tellResumes]
    change StandMoves _ (resumeTells _ s.zones[z].stand)
    generalize s.zones[z].stand = x at moves
    obtain ⟨st, timer⟩ := x
    cases st with
    | halted => exact ⟨nofun, nofun, fun _ => .inl rfl⟩
    | disabled | running | protect | parked | faulted => exact moves
  | lineReset =>
    have cleared : MotionLaw (s.withPos (clearForReset s).pos) := h.of_pos rfl rfl rfl rfl
    refine cleared.of_each (postStops_keeps ..).2.2.1 fun z _ => ?_
    rw [resetLineNow_zones]
    exact standMoves_idle (x := .disabled) (by simp) (by simp)

/-- Every event keeps the zones on the motion state. -/
theorem Happened.motionLaw (k : Happened s t) (h : MotionLaw s) : MotionLaw t := by
  cases k with
  | encoder sense =>
    have stepped : MotionLaw (s.withPos (s.pos.stepped s.map.line.swapped sense)) := h.of_pos rfl rfl rfl rfl
    exact (motionLaw_pulseMotion stepped).of_zones (by simp [encoderStep]) (by simp [encoderStep])
  | stopTimer => exact motionLaw_stopTimerExpires h
  | parkTimer => exact motionLaw_parkTimerExpires h
  | edge which =>
    have sensed (n : SensorState) : MotionLaw (s.withPos (s.pos.withSensor which n)) := by
      cases which <;> exact h.of_pos rfl rfl rfl rfl
    unfold takeEdge
    dsimp only
    split
    · exact (sensed _).of_zones (arrival_keeps ..).2.1 (arrival_keeps ..).2.2.1
    · exact sensed _
  | otherEdge which => cases which <;> exact h.of_pos rfl rfl rfl rfl
  | skipped => exact h.of_pos rfl rfl rfl rfl
  | pulseTimer | reminderTimer | haltInactive => exact h.of_zones rfl rfl
  | haltActive => exact motionLaw_haltLine (h.of_zones rfl rfl)
  | period z => exact h.of_kept (by simp) (standsKept_periodTimerExpires z s)
  | restart z => exact motionLaw_restartTimerExpires z h
  | frameSent => exact h.of_zones (by simp) (by simp)
  | replyBegun => exact h.of_zones (by simp) (by simp)
  | goodEnd item c st rbs => exact h.of_fault (by simp) (zonesFault_goodEnd s item c st rbs)
  | badEnd item c how => exact h.of_fault (by simp) (zonesFault_badEnd s item c how)

end

/-- Settles O50: a change of motion state is told to every zone, and a zone comes into service only as the motion state
allows. -/
theorem motionLawIsKept : Obligations.MotionLawIsKept := by
  intro s t law h
  obtain ⟨waiting, h⟩ := stepped_of_step h
  have start : MotionLaw { s with pending := waiting } := law.of_zones rfl rfl
  have powerOn (pins : Pins) : MotionLaw (powerOnState pins waiting) := by
    refine motionLaw_iff.2 ⟨⟨by simp [powerOnState, Position.powerOn], by simp [powerOnState, Position.powerOn],
      by simp [powerOnState, Position.powerOn]⟩, fun z => ?_⟩
    rw [powerOn_stand]
    exact standMoves_idle (by simp) (by simp)
  exact h.keeps start (fun pins _ => powerOn pins) (fun pins => motionLaw_haltLine (powerOn pins))
    (law.of_zones rfl rfl) (fun _ _ k => k.motionLaw start) (fun _ _ k => k.motionLaw start)
    (fun _ _ k => k.of_zones rfl rfl) (fun _ k => k.of_zones rfl rfl)

end Sys2Proof.Machine

/-! The map stays valid, and every zone in service enableable (R10, R12, R13). -/

namespace Sys2Proof.Machine

section
variable {s t : State}

theorem disabled_tells {x : ZoneState × Option Nat} (h : x.1 = .disabled) (delay : Nat) (m : Motion) :
    (m.tells delay x).1 = .disabled := by
  obtain ⟨st, timer⟩ := x
  subst h
  cases m <;> rfl

theorem disabled_halts {x : ZoneState × Option Nat} (h : x.1 = .disabled) : (haltTells x).1 = .disabled := by
  obtain ⟨st, timer⟩ := x
  subst h
  rfl

theorem disabled_resumes {x : ZoneState × Option Nat} (h : x.1 = .disabled) (delay : Nat) :
    (resumeTells delay x).1 = .disabled := by
  obtain ⟨st, timer⟩ := x
  subst h
  rfl

/-- R13: no zone comes into service. -/
structure NoneEnabled (s t : State) : Prop where
  each : ∀ z : Fin 16, s.zones[z].stand.1 = .disabled → t.zones[z].stand.1 = .disabled

theorem NoneEnabled.of_zones (zones : t.zones = s.zones) : NoneEnabled s t := ⟨fun _ => by rw [zones]; exact id⟩

theorem NoneEnabled.after {u : State} (h : NoneEnabled t u) (zones : t.zones = s.zones) : NoneEnabled s u :=
  ⟨fun z => by rw [← zones]; exact h.each z⟩

theorem NoneEnabled.of_kept (kept : StandsKept s t) : NoneEnabled s t := ⟨fun z => by rw [kept.kept z]; exact id⟩

theorem NoneEnabled.of_fault (faults : ZonesFault s t) : NoneEnabled s t := ⟨fun z disabled => by
  rcases faults.each z with same | ⟨inService, -⟩
  · rw [same]
    exact disabled
  · exact absurd disabled inService⟩

theorem noneEnabled_changeMotion (m : Motion) (s : State) : NoneEnabled s (changeMotion m s) :=
  ⟨fun z disabled => by rw [stand_changeMotion]; exact disabled_tells disabled ..⟩

theorem noneEnabled_haltLine (s : State) : NoneEnabled s (haltLine s) := by
  unfold haltLine
  split
  · exact .of_zones rfl
  · refine ⟨fun z disabled => ?_⟩
    have told := stand_tellHalts (postItem .abort (s.withSup { s.sup with halted := true })) z
    rw [(postItem_keeps ..).2.2.2.2.1] at told
    rw [(raise_keeps ..).2.2.2.2.1, told]
    exact disabled_halts disabled

theorem noneEnabled_pulseMotion (s : State) : NoneEnabled s (pulseMotion s) := by
  unfold pulseMotion
  split
  · exact .of_zones rfl
  · split
    · unfold resumeMotion
      exact (noneEnabled_changeMotion .moving _).after rfl
    · exact .of_zones rfl
  · exact .of_zones rfl

theorem noneEnabled_encoderStep (sense : QuadSense) (s : State) : NoneEnabled s (encoderStep sense s) := by
  have moved := noneEnabled_pulseMotion (s.withPos (s.pos.stepped s.map.line.swapped sense))
  have kept : (encoderStep sense s).zones = (pulseMotion (s.withPos (s.pos.stepped s.map.line.swapped sense))).zones := by
    simp [encoderStep]
  exact ⟨fun z disabled => by rw [kept]; exact moved.each z disabled⟩

theorem noneEnabled_stopTimerExpires (s : State) : NoneEnabled s (stopTimerExpires s) := by
  unfold stopTimerExpires
  split
  · exact (noneEnabled_changeMotion .stopped _).after rfl
  · exact .of_zones rfl

theorem noneEnabled_parkTimerExpires (s : State) : NoneEnabled s (parkTimerExpires s) := by
  unfold parkTimerExpires
  split
  · exact (noneEnabled_changeMotion .parked _).after rfl
  · exact .of_zones rfl

theorem noneEnabled_restartTimerExpires (z : Fin 16) (s : State) : NoneEnabled s (restartTimerExpires z s) :=
  ⟨fun y disabled => by
    rw [stand_of_othersKept (othersKept_restartTimerExpires z s) (stand_restartTimerExpires s z)]
    split
    · rename_i here
      subst here
      have idle : s.zones[y].state = .disabled := disabled
      have restarts : s.pos.motion.restarts .disabled = .disabled := by cases s.pos.motion <;> rfl
      split
      · exact disabled
      · split
        · exact idle
        · rw [idle, restarts]
    · exact disabled⟩

/-- R10, R13: the map kept, and no zone taken into service. -/
theorem MapLaw.of_service (h : MapLaw s) (map : t.map = s.map) (none : NoneEnabled s t) : MapLaw t where
  valid := map ▸ h.valid
  enableable z inService := by
    rw [map]
    refine h.enableable z ?_
    simp only [State.inService, bne_iff_ne] at inService ⊢
    exact fun disabled => inService (none.each z disabled)

theorem MapLaw.of_zones (h : MapLaw s) (map : t.map = s.map) (zones : t.zones = s.zones) : MapLaw t :=
  h.of_service map (.of_zones zones)

/-! ### Edits of the map -/

/-- R10: a map that is valid against the live records is valid but for condition 5. -/
theorem valid_nil {m : LineMap} {live : List Record} (h : m.valid live = true) : m.valid [] = true := by
  simp only [LineMap.valid, Bool.and_eq_true, List.all_nil, and_true] at h ⊢
  obtain ⟨⟨⟨⟨⟨front, -⟩, bands⟩, zones⟩, length⟩, areas⟩ := h
  exact ⟨⟨⟨⟨front, bands⟩, zones⟩, length⟩, areas⟩

theorem keepsRunning_enableable {m : LineMap} (h : s.keepsRunning m = true) {z : Fin 16} (inService : s.inService z = true) :
    m.enableable z = true := by
  simp only [State.keepsRunning, Bool.and_eq_true, Bool.or_eq_true, List.all_eq_true] at h
  rcases h.1 z (List.mem_finRange z) with out | ⟨-, enableable⟩
  · simp [inService] at out
  · exact enableable

@[simp] theorem applyEdit_map (m : LineMap) (s : State) : (applyEdit m s).map = m := by
  unfold applyEdit
  dsimp only
  split <;> split <;> simp

theorem profileOf_isSet {f : ProfileFields} {i : Fin 8} {p : Profile} (h : profileOf f = some (i, p)) : p.isSet = true := by
  simp only [profileOf, Option.bind_eq_bind, Option.bind_eq_some_iff, Option.ite_none_right_eq_some, Option.some.injEq,
    Prod.mk.injEq] at h
  obtain ⟨_, _, _, _, _, _, _, _, _, _, _, _, _, _, rfl⟩ := h
  rfl

/-- R12, R21: a profile that becomes SET takes no zone's enableability. -/
theorem enableable_setProfile {m : LineMap} {z : Fin 16} (h : m.enableable z = true) (i : Fin 8) {p : Profile}
    (isSet : p.isSet = true) : ({ m with profiles := bankSet m.profiles i p } : LineMap).enableable z = true := by
  simp only [LineMap.enableable, Bool.and_eq_true] at h ⊢
  obtain ⟨⟨⟨⟨length, powered⟩, profile⟩, channels⟩, ratings⟩ := h
  refine ⟨⟨⟨⟨length, powered⟩, ?_⟩, channels⟩, ratings⟩
  rw [bankSet_get]
  split
  · exact isSet
  · exact profile

theorem Served.mapLaw (k : Served s t) (h : MapLaw s) : MapLaw t := by
  cases k with
  | still => exact h
  | defined | redefined | slotState | erased | speed | ignoredCleared | countersCleared | eventsCleared | attention
  | staleCleared | walked => exact h.of_zones rfl rfl
  | edited _ _ keeps valid =>
    refine ⟨?_, fun z inService => ?_⟩
    · rw [applyEdit_map]
      exact valid_nil valid
    · rw [applyEdit_map]
      rw [State.inService, (applyEdit_keeps ..).2.2.1] at inService
      exact keepsRunning_enableable keeps inService
  | profile _ carried => exact ⟨h.valid, fun z inService => enableable_setProfile (h.enableable z inService) _ (profileOf_isSet carried)⟩
  | access => exact ⟨h.valid, h.enableable⟩
  | addressed => exact ⟨h.valid, h.enableable⟩
  | cancelled | retired => exact h.of_zones (by simp) (by simp)
  | announced _ _ _ taken => exact h.of_zones (by simp [takeProgram_keeps taken]) (by simp [takeProgram_keeps taken])
  | amended _ _ _ moved => exact h.of_zones (by simp [moveProgram_keeps moved]) (by simp [moveProgram_keeps moved])
  | identified _ _ _ _ moved => exact h.of_zones (by simp [moveProgram_keeps moved]) (by simp [moveProgram_keeps moved])
  | placed _ _ _ _ _ taken => exact h.of_zones (by simp [takeProgram_keeps taken]) (by simp [takeProgram_keeps taken])
  | enabled _ ready =>
    rename_i z _
    have map : (enterState z s.enabledInto (clearMisses s.map.zones[z].channels s)).map = s.map := by simp
    refine ⟨by rw [map]; exact h.valid, fun y inService => ?_⟩
    rw [map]
    by_cases here : y = z
    · exact here ▸ ready
    · refine h.enableable y ?_
      rw [State.inService, (othersKept_enterState z _ _).kept y here, (clearMisses_keeps ..).2.2.2.2.1] at inService
      exact inService
  | disabled =>
    refine h.of_service (by simp) ⟨fun y disabled => ?_⟩
    rw [stand_of_othersKept (othersKept_leaveService ..) (stand_leaveService ..)]
    split
    · rfl
    · exact disabled
  | halted => exact h.of_service (by simp) (noneEnabled_haltLine s)
  | resumed =>
    refine h.of_service (by simp) ⟨fun z disabled => ?_⟩
    rw [stand_tellResumes]
    exact disabled_resumes disabled _
  | lineReset =>
    have map : (resetLineNow s).map = { s.map with access := s.map.access.lineReset } := (postStops_keeps ..).1
    refine ⟨by rw [map]; exact h.valid, fun z inService => ?_⟩
    rw [State.inService, resetLineNow_zones] at inService
    cases inService

theorem Happened.mapLaw (k : Happened s t) (h : MapLaw s) : MapLaw t := by
  cases k with
  | encoder sense => exact h.of_service (by simp) (noneEnabled_encoderStep sense s)
  | stopTimer => exact h.of_service (by simp) (noneEnabled_stopTimerExpires s)
  | parkTimer => exact h.of_service (by simp) (noneEnabled_parkTimerExpires s)
  | edge which => exact h.of_zones (by simp) (by simp)
  | otherEdge | skipped | pulseTimer | reminderTimer | haltInactive => exact h.of_zones rfl rfl
  | haltActive => exact h.of_service (by simp) ((noneEnabled_haltLine _).after rfl)
  | period z => exact h.of_service (by simp) (.of_kept (standsKept_periodTimerExpires z s))
  | restart z => exact h.of_service (by simp) (noneEnabled_restartTimerExpires z s)
  | frameSent => exact h.of_zones (by simp) (by simp)
  | replyBegun => exact h.of_zones (by simp) (by simp)
  | goodEnd item c st rbs => exact h.of_service (by simp) (.of_fault (zonesFault_goodEnd s item c st rbs))
  | badEnd item c how => exact h.of_service (by simp) (.of_fault (zonesFault_badEnd s item c how))

end

theorem powerOn_map_valid : LineMap.powerOn.valid [] = true := by decide

/-- Settles O51: an edit is taken only when the map it leaves is valid and keeps the zones in service enableable, and a
zone comes into service only by ENABLE ZONE, which asks for it. -/
theorem mapLawIsKept : Obligations.MapLawIsKept := by
  intro s t law h
  obtain ⟨waiting, h⟩ := stepped_of_step h
  have start : MapLaw { s with pending := waiting } := law.of_zones rfl rfl
  have powerOn (pins : Pins) : MapLaw (powerOnState pins waiting) := by
    refine ⟨powerOn_map_valid, fun z inService => ?_⟩
    have disabled : (powerOnState pins waiting).zones[z].state = .disabled := congrArg Prod.fst (powerOn_stand pins waiting z)
    rw [State.inService, disabled] at inService
    cases inService
  exact h.keeps start (fun pins _ => powerOn pins)
    (fun pins => (powerOn pins).of_service (by simp) (noneEnabled_haltLine _)) (law.of_zones rfl rfl)
    (fun _ _ k => k.mapLaw start) (fun _ _ k => k.mapLaw start) (fun _ _ k => k.of_zones rfl rfl)
    (fun _ k => k.of_zones rfl rfl)

end Sys2Proof.Machine

/-! The pending lists of the zones (R76, R78): their phases, the open sides of their snapshots, and what closures, a
started snapshot and a new one make of them. -/

namespace Sys2Proof.Machine

/-! ### Phases in order (R78) -/

/-- Every snapshot of these phases is ENDED but at most one STARTED behind them. -/
theorem phasesInOrder_sublist {l m : List Phase} (sub : m.Sublist l) (h : phasesInOrder l = true) :
    phasesInOrder m = true := by
  induction l generalizing m with
  | nil =>
    rw [List.sublist_nil.1 sub]
    exact h
  | cons p l ih =>
    cases p with
    | ended =>
      rcases List.sublist_cons_iff.1 sub with rest | ⟨m, rfl, rest⟩
      · exact ih rest h
      · have kept := ih rest h
        exact kept
    | started =>
      have tail : l = [] ∨ l = [.unstarted] := by
        match l, h with
        | [], _ => exact .inl rfl
        | [.unstarted], _ => exact .inr rfl
      rcases tail with rfl | rfl
      · rcases List.sublist_singleton.1 sub with rfl | rfl <;> rfl
      · rcases List.sublist_cons_iff.1 sub with rest | ⟨m, rfl, rest⟩
        · rcases List.sublist_singleton.1 rest with rfl | rfl <;> rfl
        · rcases List.sublist_singleton.1 rest with rfl | rfl <;> rfl
    | unstarted =>
      have tail : l = [] := by
        match l, h with
        | [], _ => rfl
      subst tail
      rcases List.sublist_singleton.1 sub with rfl | rfl <;> rfl

/-- An UNSTARTED snapshot is the last one, and the only one. -/
theorem phasesInOrder_unstarted {front back : List Phase} (h : phasesInOrder (front ++ .unstarted :: back) = true) :
    back = [] ∧ Phase.unstarted ∉ front := by
  induction front with
  | nil =>
    match back, h with
    | [], _ => exact ⟨rfl, List.not_mem_nil⟩
  | cons p front ih =>
    cases p with
    | ended =>
      obtain ⟨last, only⟩ := ih h
      exact ⟨last, by simpa using only⟩
    | started =>
      match front, back, h with
      | [], [], _ => exact ⟨rfl, by simp⟩
      | .unstarted :: front, _, h => cases front <;> cases h
    | unstarted =>
      match front, h with
      | [], h => cases h

theorem phasesInOrder_snoc {l : List Phase} (h : phasesInOrder l = true) (none : Phase.unstarted ∉ l) :
    phasesInOrder (l ++ [.unstarted]) = true := by
  induction l with
  | nil => rfl
  | cons p l ih =>
    cases p with
    | ended => exact ih h (fun mem => none (List.mem_cons_of_mem _ mem))
    | started =>
      match l, h with
      | [], _ => rfl
      | [.unstarted], _ => exact absurd (by simp) none
    | unstarted => exact absurd (List.mem_cons_self ..) none

/-- R81, step 2: a STARTED snapshot ends, and the UNSTARTED one is started. -/
def Phase.advance : Phase → Phase
  | .ended => .ended
  | .started => .ended
  | .unstarted => .started

theorem phasesInOrder_advance {l : List Phase} (h : phasesInOrder l = true) :
    phasesInOrder (l.map Phase.advance) = true ∧ Phase.unstarted ∉ l.map Phase.advance := by
  have never : ∀ m : List Phase, Phase.unstarted ∉ m.map Phase.advance := fun m mem => by
    obtain ⟨p, -, advanced⟩ := List.mem_map.1 mem
    cases p <;> cases advanced
  refine ⟨?_, never l⟩
  induction l with
  | nil => rfl
  | cons p l ih =>
    cases p with
    | ended => exact ih h
    | started =>
      match l, h with
      | [], _ => rfl
      | [.unstarted], _ => rfl
    | unstarted =>
      match l, h with
      | [], _ => rfl

/-! ### The pending list of a zone -/

/-- R78: the snapshot has an open side. -/
def Snapshot.isOpen (n : Snapshot) : Bool := n.sides.any fun d => !d.closed

/-- R78: the two parts of the law of a pending list that do not speak of the zone's state. -/
structure Pends (pending : List Snapshot) : Prop where
  phases : phasesInOrder (pending.map Snapshot.phase) = true
  openSide : ∀ n ∈ pending, n.isOpen = true

/-- R78: an UNSTARTED snapshot is pending. -/
def hasUnstarted (pending : List Snapshot) : Bool := pending.any Snapshot.isUnstarted

section
variable {pending front back : List Snapshot} {n : Snapshot}

theorem isUnstarted_iff : n.isUnstarted = true ↔ n.phase = .unstarted := beq_iff_eq
theorem isStarted_iff : n.isStarted = true ↔ n.phase = .started := beq_iff_eq

theorem hasUnstarted_iff : hasUnstarted pending = true ↔ Phase.unstarted ∈ pending.map Snapshot.phase := by
  simp [hasUnstarted, Snapshot.isUnstarted]

theorem Pends.sublist {l : List Snapshot} (h : Pends pending) (sub : l.Sublist pending) : Pends l :=
  ⟨phasesInOrder_sublist (sub.map _) h.phases, fun n mem => h.openSide n (sub.subset mem)⟩

/-- One snapshot replaced by another of the same phase with an open side. -/
theorem Pends.replace {m : Snapshot} (h : Pends (front ++ n :: back)) (phase : m.phase = n.phase)
    (openSide : m.isOpen = true) : Pends (front ++ m :: back) := by
  refine ⟨by simpa [phase] using h.phases, fun o mem => ?_⟩
  rcases List.mem_append.1 mem with ahead | rest
  · exact h.openSide o (List.mem_append_left _ ahead)
  · rcases List.mem_cons.1 rest with rfl | behind
    · exact openSide
    · exact h.openSide o (List.mem_append_right _ (List.mem_cons_of_mem _ behind))

theorem Pends.snoc (h : Pends pending) (none : hasUnstarted pending = false) (phase : n.phase = .unstarted)
    (openSide : n.isOpen = true) : Pends (pending ++ [n]) := by
  refine ⟨?_, fun o mem => ?_⟩
  · rw [List.map_append, List.map_singleton, phase]
    refine phasesInOrder_snoc h.phases fun mem => ?_
    rw [hasUnstarted_iff.2 mem] at none
    cases none
  · rcases List.mem_append.1 mem with old | new
    · exact h.openSide o old
    · rw [List.mem_singleton.1 new]
      exact openSide

/-- R78: the UNSTARTED snapshot is the last one, and the only one. -/
theorem Pends.unstarted_last (h : Pends pending) (there : hasUnstarted pending = true) :
    ∃ front un, pending = front ++ [un] ∧ un.phase = .unstarted ∧ hasUnstarted front = false := by
  obtain ⟨un, mem, isUn⟩ := List.any_eq_true.1 there
  obtain ⟨front, back, rfl⟩ := List.append_of_mem mem
  have phases := h.phases
  rw [List.map_append, List.map_cons, isUnstarted_iff.1 isUn] at phases
  obtain ⟨last, only⟩ := phasesInOrder_unstarted phases
  rw [List.map_eq_nil_iff] at last
  subst last
  refine ⟨front, un, rfl, isUnstarted_iff.1 isUn, ?_⟩
  rw [← Bool.not_eq_true, hasUnstarted_iff]
  exact only

theorem hasUnstarted_append {l m : List Snapshot} : hasUnstarted (l ++ m) = (hasUnstarted l || hasUnstarted m) := by
  simp [hasUnstarted]

theorem isUnstarted_of_front (none : hasUnstarted front = false) : ∀ o ∈ front, o.isUnstarted = false :=
  fun o mem => by simpa using List.any_eq_false.1 none o mem

theorem find_unstarted (none : hasUnstarted front = false) (un : n.phase = .unstarted) :
    (front ++ [n]).find? Snapshot.isUnstarted = some n :=
  find?_append_cons (isUnstarted_of_front none) (isUnstarted_iff.2 un)

theorem remove_unstarted (none : hasUnstarted front = false) (un : n.phase = .unstarted) :
    removeFirst Snapshot.isUnstarted (front ++ [n]) = front := by
  rw [removeFirst_append (isUnstarted_of_front none) (isUnstarted_iff.2 un), List.append_nil]

/-! ### Closures (R103, R104) -/

/-- The sides of a snapshot that are open. -/
def Snapshot.openSides (n : Snapshot) : List Side := n.sides.filter fun d => !d.closed

theorem all_closed_iff : n.sides.all Side.closed = true ↔ n.openSides = [] := by
  simp [Snapshot.openSides, List.filter_eq_nil_iff]

theorem isOpen_iff : n.isOpen = true ↔ n.openSides ≠ [] := by
  simp [Snapshot.isOpen, Snapshot.openSides, List.filter_eq_nil_iff]

theorem isOpen_closeSide {c : Fin 32} (notAll : (n.closeSide c).sides.all Side.closed = false) :
    (n.closeSide c).isOpen = true := by
  rw [isOpen_iff, ne_eq, ← all_closed_iff, notAll]
  exact Bool.false_ne_true

theorem pends_closeInList (seq : BitVec 8) (c : Fin 32) (h : Pends pending) : Pends (closeInList seq c pending) := by
  rcases closeInList_cases seq c pending with same | ⟨a, n, b, rfl, -, -, ⟨-, gone⟩ | ⟨some, kept⟩⟩
  · rw [same]
    exact h
  · rw [gone]
    exact h.sublist (by simp)
  · rw [kept]
    exact h.replace rfl (isOpen_closeSide some)

theorem length_closeInList_le (seq : BitVec 8) (c : Fin 32) (l : List Snapshot) :
    (closeInList seq c l).length ≤ l.length := by
  rcases closeInList_cases seq c l with same | ⟨a, n, b, rfl, -, -, ⟨-, gone⟩ | ⟨-, kept⟩⟩
  · rw [same]
  · rw [gone]
    simp
  · rw [kept]
    simp

/-- A closure leaves no UNSTARTED snapshot where there was none. -/
theorem hasUnstarted_closeInList (seq : BitVec 8) (c : Fin 32) (none : hasUnstarted pending = false) :
    hasUnstarted (closeInList seq c pending) = false := by
  rcases closeInList_cases seq c pending with same | ⟨a, n, b, rfl, -, -, ⟨-, gone⟩ | ⟨-, kept⟩⟩
  · rw [same]
    exact none
  · rw [gone]
    simp only [hasUnstarted, List.any_append, List.any_cons, Bool.or_eq_false_iff] at none ⊢
    exact ⟨none.1, none.2.2⟩
  · rw [kept]
    simp only [hasUnstarted, List.any_append, List.any_cons, Bool.or_eq_false_iff] at none ⊢
    exact none

/-- R105: the snapshot that a readback matches is the one whose side the closure closes, which is not UNSTARTED. -/
theorem closeInList_of_match (seq : BitVec 8) (c : Fin 32) (un : Snapshot)
    (matches' : ∃ n ∈ front, n.seq = seq ∧ (n.openSideOn c).isSome = true) :
    closeInList seq c (front ++ [un]) = closeInList seq c front ++ [un] := by
  induction front with
  | nil => simp at matches'
  | cons o front ih =>
    by_cases here : (o.seq == seq && (o.openSideOn c).isSome) = true
    · simp only [closeInList, List.cons_append, here, if_true]
      split <;> rfl
    · obtain ⟨n, mem, seqIs, onC⟩ := matches'
      have later : n ∈ front := by
        rcases List.mem_cons.1 mem with rfl | later
        · exact absurd (by simp [seqIs, onC]) here
        · exact later
      simp only [closeInList, List.cons_append, here]
      exact congrArg (o :: ·) (ih ⟨n, later, seqIs, onC⟩)

/-! ### A snapshot started (R81) -/

theorem advancePhases_phase (l : List Snapshot) :
    (advancePhases l).map Snapshot.phase = (l.map Snapshot.phase).map Phase.advance := by
  simp only [advancePhases, List.map_map]
  refine List.map_congr_left fun n _ => ?_
  simp only [Function.comp]
  cases phase : n.phase <;> simp [phase, Phase.advance]

theorem advancePhases_sides {l : List Snapshot} {n : Snapshot} (mem : n ∈ advancePhases l) :
    ∃ o ∈ l, n.sides = o.sides := by
  obtain ⟨o, old, rfl⟩ := List.mem_map.1 mem
  refine ⟨o, old, ?_⟩
  cases o.phase <;> rfl

theorem pends_advancePhases {l : List Snapshot} (h : Pends l) :
    Pends (advancePhases l) ∧ hasUnstarted (advancePhases l) = false := by
  obtain ⟨inOrder, none⟩ := phasesInOrder_advance h.phases
  refine ⟨⟨by rw [advancePhases_phase]; exact inOrder, fun n mem => ?_⟩, ?_⟩
  · obtain ⟨o, old, sides⟩ := advancePhases_sides mem
    rw [Snapshot.isOpen, sides]
    exact h.openSide o old
  · rw [← Bool.not_eq_true, hasUnstarted_iff, advancePhases_phase]
    exact none

end

end Sys2Proof.Machine

/-! The law of the pending lists and of a zone's service (R76, R78): what each step of a zone makes of its sequencer. -/

namespace Sys2Proof.Machine

/-- R76: the zone is RUNNING or PROTECT. -/
def Sequencer.InRun (q : Sequencer) : Prop := q.state = .running ∨ q.state = .protect

section
variable {q q' : Sequencer}

theorem ServiceLaw.pends (h : ServiceLaw q) : Pends q.pending := ⟨h.phases, h.openSide⟩

theorem ServiceLaw.inRun_iff (h : ServiceLaw q) : q.InRun ↔ hasUnstarted q.pending = true := h.unstarted

theorem ServiceLaw.room_of_out (h : ServiceLaw q) (out : ¬ q.InRun) : q.pending.length ≤ 2 :=
  h.room (fun running => out (.inl running)) (fun protect => out (.inr protect))

theorem ServiceLaw.none_of_out (h : ServiceLaw q) (out : ¬ q.InRun) : hasUnstarted q.pending = false := by
  rw [← Bool.not_eq_true, ← h.inRun_iff]
  exact out

/-- A zone out of RUNNING and PROTECT. -/
theorem serviceLaw_of_out (out : ¬ q.InRun) (pends : Pends q.pending) (room : q.pending.length ≤ 2)
    (noUn : hasUnstarted q.pending = false) (timer : q.periodTimer = none) : ServiceLaw q where
  capacity := room.trans (by decide)
  room _ _ := room
  phases := pends.phases
  openSide := pends.openSide
  unstarted := iff_of_false out (by rw [show q.pending.any Snapshot.isUnstarted = false from noUn]; exact Bool.false_ne_true)
  timer := iff_of_false out (by simp [timer])

/-- A zone in RUNNING or PROTECT. -/
theorem serviceLaw_of_run (run : q.InRun) (pends : Pends q.pending) (capacity : q.pending.length ≤ 3)
    (un : hasUnstarted q.pending = true) (timer : q.periodTimer ≠ none) : ServiceLaw q where
  capacity := capacity
  room notRunning notProtect := run.elim (absurd · notRunning) (absurd · notProtect)
  phases := pends.phases
  openSide := pends.openSide
  unstarted := iff_of_true run un
  timer := iff_of_true run timer

/-- The law speaks of the state, the period timer and the pending list. -/
theorem ServiceLaw.of_same (h : ServiceLaw q) (state : q'.state = q.state) (timer : q'.periodTimer = q.periodTimer)
    (pending : q'.pending = q.pending) : ServiceLaw q' where
  capacity := pending ▸ h.capacity
  room := by rw [state, pending]; exact h.room
  phases := pending ▸ h.phases
  openSide := pending ▸ h.openSide
  unstarted := by rw [state, pending]; exact h.unstarted
  timer := by rw [state, timer]; exact h.timer

theorem ServiceLaw.timer_none (h : ServiceLaw q) (out : ¬ q.InRun) : q.periodTimer = none := by
  by_contra running
  exact out (h.timer.2 running)

/-- A closure in a zone out of RUNNING and PROTECT. -/
theorem ServiceLaw.close_out (h : ServiceLaw q) (out : ¬ q.InRun) (seq : BitVec 8) (c : Fin 32)
    (state : q'.state = q.state) (timer : q'.periodTimer = q.periodTimer)
    (pending : q'.pending = closeInList seq c q.pending) : ServiceLaw q' := by
  refine serviceLaw_of_out ?_ ?_ ?_ ?_ ?_
  · rw [Sequencer.InRun, state]
    exact out
  · rw [pending]
    exact pends_closeInList seq c h.pends
  · rw [pending]
    exact (length_closeInList_le ..).trans (h.room_of_out out)
  · rw [pending]
    exact hasUnstarted_closeInList seq c (h.none_of_out out)
  · rw [timer]
    exact h.timer_none out

/-- R105: a closure of a side whose snapshot is not UNSTARTED. -/
theorem ServiceLaw.close_match (h : ServiceLaw q) {seq : BitVec 8} {c : Fin 32}
    (found : ∃ n ∈ q.pending, n.phase ≠ .unstarted ∧ n.seq = seq ∧ (n.openSideOn c).isSome = true)
    (state : q'.state = q.state) (timer : q'.periodTimer = q.periodTimer)
    (pending : q'.pending = closeInList seq c q.pending) : ServiceLaw q' := by
  by_cases run : q.InRun
  · obtain ⟨front, un, split, isUn, none⟩ := h.pends.unstarted_last (h.inRun_iff.1 run)
    obtain ⟨n, mem, notUn, seqIs, onC⟩ := found
    have inFront : n ∈ front := by
      rw [split] at mem
      rcases List.mem_append.1 mem with there | last
      · exact there
      · rw [List.mem_singleton.1 last] at notUn
        exact absurd isUn notUn
    have closed : q'.pending = closeInList seq c front ++ [un] := by
      rw [pending, split]
      exact closeInList_of_match seq c un ⟨n, inFront, seqIs, onC⟩
    refine serviceLaw_of_run ?_ ?_ ?_ ?_ ?_
    · rw [Sequencer.InRun, state]
      exact run
    · rw [pending]
      exact pends_closeInList seq c h.pends
    · rw [pending]
      exact (length_closeInList_le ..).trans h.capacity
    · rw [closed, hasUnstarted_append, Bool.or_eq_true]
      exact .inr (by simp [hasUnstarted, isUnstarted_iff.2 isUn])
    · rw [timer]
      exact h.timer.1 run
  · exact h.close_out run seq c state timer pending

end

/-! ### Closures -/

section
variable (z : Fin 16) (s : State)

/-- R117: charge for the orphan accounts, and nothing else, changes in the zone. -/
structure OnlyOrphans (q q' : Sequencer) : Prop where
  same : q' = { q with orphanFwd := q'.orphanFwd, orphanRev := q'.orphanRev }

theorem OnlyOrphans.trans {q r t : Sequencer} (h : OnlyOrphans q r) (k : OnlyOrphans r t) : OnlyOrphans q t :=
  ⟨by rw [k.same, h.same]⟩

theorem onlyOrphans_creditEntry (e : Entry) (fwd rev : Nat) (k : ClosureKind) :
    OnlyOrphans s.zones[z] (creditEntry z e fwd rev k s).zones[z] := by
  by_cases credited : s.credits e.index e.generation = true
  · have zones : (creditEntry z e fwd rev k s).zones = s.zones := by simp [creditEntry, credited]
    rw [zones]
    exact ⟨rfl⟩
  · have zones : (creditEntry z e fwd rev k s).zones = (addOrphan z fwd rev s).zones := by
      simp [creditEntry, credited]
    rw [zones, addOrphan, modifyZone_get, if_pos rfl]
    exact ⟨rfl⟩

theorem onlyOrphans_creditEntries (k : ClosureKind) (l : List (Entry × Nat × Nat)) :
    OnlyOrphans s.zones[z] (creditEntries z k l s).zones[z] := by
  induction l generalizing s with
  | nil => exact ⟨rfl⟩
  | cons x l ih => exact (onlyOrphans_creditEntry z s x.1 x.2.1 x.2.2 k).trans (ih _)

theorem onlyOrphans_shareOut (d : Side) (qf qr : Nat) (k : ClosureKind) :
    OnlyOrphans s.zones[z] (shareOut z d qf qr k s).zones[z] := by
  unfold shareOut
  split
  · rw [addOrphan, modifyZone_get, if_pos rfl]
    exact ⟨rfl⟩
  · exact onlyOrphans_creditEntries ..

/-- R103: what a closure leaves of its zone's sequencer. -/
theorem closeSide_zone (seq : BitVec 8) (d : Side) (qf qr : Nat) (k : ClosureKind) :
    ∃ fwd rev, (closeSide z seq d qf qr k s).zones[z] = { s.zones[z] with
      orphanFwd := fwd, orphanRev := rev, pending := closeInList seq d.channel s.zones[z].pending } := by
  refine ⟨(shareOut z d qf qr k s).zones[z].orphanFwd, (shareOut z d qf qr k s).zones[z].orphanRev, ?_⟩
  rw [closeSide, modifyZone_get, if_pos rfl]
  have shared := (onlyOrphans_shareOut z s d qf qr k).same
  generalize (shareOut z d qf qr k s).zones[z] = q at shared
  rw [shared]

/-- R104: closing the first open side of a snapshot leaves the others open. -/
theorem openSides_closeSide {n : Snapshot} {d : Side} {rest : List Side} (first : n.openSides = d :: rest) :
    (n.closeSide d.channel).openSides = rest := by
  obtain ⟨ahead, behind, split, closed, isOpen, others⟩ := List.filter_eq_cons_iff.1 first
  have passed : ∀ y ∈ ahead, (y.channel == d.channel && !y.closed) = false := fun y mem => by
    have := closed y mem
    simp only [Bool.not_eq_true, Bool.not_eq_false'] at this
    simp [this]
  have test : (d.channel == d.channel && !d.closed) = true := by simpa using isOpen
  rw [Snapshot.openSides, Snapshot.closeSide, split,
    modifyFirst_append (test := fun e : Side => e.channel == d.channel && !e.closed) passed test,
    List.filter_append, List.filter_cons_of_neg (by simp), ← others]
  rw [List.filter_eq_nil_iff.2 fun y mem => closed y mem, List.nil_append]

theorem openSideOn_of_openSides {n : Snapshot} {d : Side} (mem : d ∈ n.openSides) :
    (n.openSideOn d.channel).isSome = true := by
  obtain ⟨side, isOpen⟩ := List.mem_filter.1 mem
  rw [Snapshot.openSideOn, List.find?_isSome]
  exact ⟨d, side, by simpa using isOpen⟩

/-- R112: with its open sides force-closed, the oldest snapshot leaves the pending list. -/
theorem forceClose_zone {n : Snapshot} {rest : List Snapshot} (pending : s.zones[z].pending = n :: rest)
    (isOpen : n.isOpen = true) :
    ∃ fwd rev, (forceClose z n s).zones[z] = { s.zones[z] with orphanFwd := fwd, orphanRev := rev, pending := rest } := by
  have each (todo : List Side) (m : Snapshot) (u : State) (seq : m.seq = n.seq) (left : m.openSides = todo)
      (some : todo ≠ []) (head : u.zones[z].pending = m :: rest) :
      ∃ fwd rev, (todo.foldl (fun t (d : Side) => closeSide z n.seq d d.qfOrd d.qrOrd .forced t) u).zones[z]
        = { u.zones[z] with orphanFwd := fwd, orphanRev := rev, pending := rest } := by
    induction todo generalizing m u with
    | nil => exact absurd rfl some
    | cons d todo ih =>
      obtain ⟨fwd, rev, zone⟩ := closeSide_zone z u n.seq d d.qfOrd d.qrOrd .forced
      have chosen : (m.seq == n.seq && (m.openSideOn d.channel).isSome) = true := by
        rw [seq, openSideOn_of_openSides (left ▸ List.mem_cons_self ..), beq_self_eq_true, Bool.and_true]
      have shrunk := openSides_closeSide left
      rw [head, closeInList, if_pos chosen] at zone
      by_cases last : todo = []
      · subst last
        rw [if_pos (all_closed_iff.2 shrunk)] at zone
        exact ⟨fwd, rev, zone⟩
      · rw [if_neg (by rw [all_closed_iff, shrunk]; exact last)] at zone
        obtain ⟨fwd', rev', closed⟩ := ih (m.closeSide d.channel) (closeSide z n.seq d d.qfOrd d.qrOrd .forced u)
          seq shrunk last (by rw [zone])
        refine ⟨fwd', rev', ?_⟩
        rw [List.foldl_cons, closed, zone]
  exact each n.openSides n s rfl rfl (isOpen_iff.1 isOpen) pending

/-! ### Leaving and entering service -/

theorem leftPending_sublist : (s.leftPending z).Sublist s.zones[z].pending := by
  unfold State.leftPending
  refine (removeFirst_sublist ..).trans ?_
  split
  · split
    · exact removeFirst_sublist ..
    · exact .refl _
  · exact .refl _

theorem hasUnstarted_removeFirst {l : List Snapshot} (h : Pends l) :
    hasUnstarted (removeFirst Snapshot.isUnstarted l) = false := by
  cases there : hasUnstarted l with
  | true =>
    obtain ⟨front, un, rfl, isUn, none⟩ := h.unstarted_last there
    rw [remove_unstarted none isUn]
    exact none
  | false =>
    rw [removeFirst_none (isUnstarted_of_front there)]
    exact there

theorem hasUnstarted_leftPending (h : Pends s.zones[z].pending) : hasUnstarted (s.leftPending z) = false := by
  unfold State.leftPending
  refine hasUnstarted_removeFirst (h.sublist ?_)
  split
  · split
    · exact removeFirst_sublist ..
    · exact .refl _
  · exact .refl _

/-- R83: what is left has room for one more than a zone out of service may hold. -/
theorem length_leftPending_le (h : ServiceLaw s.zones[z]) : (s.leftPending z).length ≤ 2 := by
  by_cases run : s.zones[z].InRun
  · obtain ⟨front, un, split, isUn, none⟩ := h.pends.unstarted_last (h.inRun_iff.1 run)
    have sub := leftPending_sublist z s
    have kept : (s.leftPending z).filter (fun n => !n.isUnstarted) = s.leftPending z :=
      List.filter_eq_self.2 fun n mem => by simp [isUnstarted_of_front (hasUnstarted_leftPending z s h.pends) n mem]
    have inFront : (s.leftPending z).length ≤ front.length := by
      rw [← kept]
      refine ((sub.filter _).length_le).trans ?_
      rw [split, List.filter_append, List.filter_cons_of_neg (by simp [isUnstarted_iff.2 isUn]), List.filter_nil,
        List.append_nil]
      exact List.length_filter_le ..
    have capacity := h.capacity
    rw [split, List.length_append, List.length_singleton] at capacity
    omega
  · exact (leftPending_sublist z s).length_le.trans (h.room_of_out run)

theorem serviceLaw_leaveService {x : ZoneState} (out : x ≠ .running ∧ x ≠ .protect) (h : ServiceLaw s.zones[z]) :
    ServiceLaw (leaveService z x s).zones[z] := by
  rw [leaveService_zone]
  refine serviceLaw_of_out ?_ (h.pends.sublist (leftPending_sublist z s)) (length_leftPending_le z s h)
    (hasUnstarted_leftPending z s h.pends) rfl
  rintro (running | protect)
  · exact out.1 running
  · exact out.2 protect

/-- R2, R12: an enableable zone uses a channel. -/
theorem sides_of_enableable {m : LineMap} {z : Fin 16} (h : m.enableable z = true) : m.zones[z].sides ≠ [] := by
  simp only [LineMap.enableable, Bool.and_eq_true] at h
  obtain ⟨⟨⟨⟨-, powered⟩, -⟩, assigned⟩, -⟩ := h
  revert powered assigned
  generalize m.zones[z] = e
  intro assigned powered
  unfold ZoneEntry.sides
  cases kind : e.kind with
  | unpowered => simp [kind, ZoneKind.powered] at powered
  | paired | common =>
    cases channel : e.channelA with
    | none => simp [ZoneEntry.fieldsUsed, kind, channel] at assigned
    | some c => simp [ZoneEntry.fieldsUsed, kind, channel]

/-- R79: a new snapshot of an enableable zone has an open side. -/
theorem newSnapshot_isOpen (h : s.map.enableable z = true) : (s.newSnapshot z).isOpen = true := by
  have sides := sides_of_enableable h
  unfold State.newSnapshot Snapshot.isOpen
  cases used : s.map.zones[z].sides with
  | nil => exact absurd used sides
  | cons fc rest => simp [State.newSide]

theorem serviceLaw_enterService {x : ZoneState} (into : x = .running ∨ x = .protect)
    (ready : s.map.enableable z = true) (out : ¬ s.zones[z].InRun) (h : ServiceLaw s.zones[z]) :
    ServiceLaw (enterService z x s).zones[z] := by
  rw [zone_of_bankSet (enterService_zones z s x)]
  have new : ((entered z s x).newSnapshot z).isOpen = true := newSnapshot_isOpen z (entered z s x) ready
  refine serviceLaw_of_run into ?_ ?_ ?_ (by simp)
  · exact h.pends.snoc (h.none_of_out out) rfl new
  · have room := h.room_of_out out
    simp only [List.length_append, List.length_singleton]
    omega
  · rw [hasUnstarted_append, Bool.or_eq_true]
    exact .inr rfl

/-! ### Motion -/

theorem recomputedSnapshot_isOpen (n : Snapshot) : (s.recomputedSnapshot z n).isOpen = n.isOpen := by
  simp only [State.recomputedSnapshot, Snapshot.isOpen, List.any_map]
  rfl

/-- R86: a zone that goes between RUNNING and PROTECT, with its UNSTARTED snapshot recomputed. -/
theorem serviceLaw_recompute {x : ZoneState} (into : x = .running ∨ x = .protect) (run : s.zones[z].InRun)
    (h : ServiceLaw s.zones[z]) :
    ServiceLaw (recompute z (s.modifyZone z fun q => { q with state := x })).zones[z] := by
  obtain ⟨front, un, split, isUn, none⟩ := h.pends.unstarted_last (h.inRun_iff.1 run)
  let u := s.modifyZone z fun q => { q with state := x }
  have here : u.zones[z] = { s.zones[z] with state := x } := by rw [modifyZone_get, if_pos rfl]
  have found : u.zones[z].pending.find? Snapshot.isUnstarted = some un := by
    rw [here, split]
    exact find_unstarted none isUn
  change ServiceLaw (recompute z u).zones[z]
  rw [zone_of_bankSet (recompute_zones z u found), here]
  have replaced : modifyFirst Snapshot.isUnstarted (fun _ => u.recomputedSnapshot z un) s.zones[z].pending
      = front ++ [u.recomputedSnapshot z un] := by
    rw [split, modifyFirst_append (isUnstarted_of_front none) (isUnstarted_iff.2 isUn)]
  have pends := h.pends
  have capacity := h.capacity
  rw [split] at pends capacity
  have unOpen : un.isOpen = true := pends.openSide un (by simp)
  refine serviceLaw_of_run into ?_ ?_ ?_ (h.timer.1 run)
  · rw [replaced]
    exact pends.replace rfl ((recomputedSnapshot_isOpen z u un).trans unOpen)
  · rw [replaced]
    simpa using capacity
  · rw [replaced, hasUnstarted_append, Bool.or_eq_true]
    exact .inr (by simp [hasUnstarted, State.recomputedSnapshot, Snapshot.isUnstarted, isUn])

theorem serviceLaw_setTimer (timer : Option Nat) (h : ServiceLaw s.zones[z]) :
    ServiceLaw (s.modifyZone z fun q => { q with restartTimer := timer }).zones[z] := by
  rw [modifyZone_get, if_pos rfl]
  exact h.of_same rfl rfl rfl

theorem serviceLaw_tellMotion (m : Motion) (h : ServiceLaw s.zones[z]) : ServiceLaw (tellMotion m s z).zones[z] := by
  unfold tellMotion
  split
  case h_1 st => exact serviceLaw_recompute z s (.inr rfl) (.inl st) h
  case h_2 st => exact serviceLaw_recompute z s (.inl rfl) (.inr st) h
  case h_3 => exact serviceLaw_leaveService z s (by simp) h
  case h_4 => exact serviceLaw_setTimer z s _ h
  case h_5 => exact serviceLaw_setTimer z s _ h
  case h_6 => exact h

theorem serviceLaw_tellHalt (h : ServiceLaw s.zones[z]) : ServiceLaw (tellHalt s z).zones[z] := by
  unfold tellHalt
  split
  case h_4 => exact serviceLaw_setTimer z s _ h
  case h_5 => exact h
  case h_6 => exact h
  all_goals exact serviceLaw_leaveService z s (by simp) h

theorem serviceLaw_tellResume (h : ServiceLaw s.zones[z]) : ServiceLaw (tellResume s z).zones[z] := by
  unfold tellResume
  split
  · exact serviceLaw_setTimer z s _ h
  · exact h

theorem serviceLaw_faultZone (h : ServiceLaw s.zones[z]) : ServiceLaw (faultZone z s).zones[z] := by
  unfold faultZone
  split
  · exact h
  · exact h
  · exact serviceLaw_leaveService z s (by simp) h

theorem serviceLaw_restartExpires (ready : s.inService z = true → s.map.enableable z = true) (h : ServiceLaw s.zones[z]) :
    ServiceLaw (restartExpires z s).zones[z] := by
  have enters {x y : ZoneState} (st : s.zones[z].state = x) (into : y = .running ∨ y = .protect)
      (idle : x = .parked ∨ x = .halted) : ServiceLaw (enterService z y s).zones[z] := by
    refine serviceLaw_enterService z s into (ready ?_) ?_ h
    · rcases idle with rfl | rfl <;> simp only [State.inService, st] <;> rfl
    · rintro (running | protect)
      · rcases idle with rfl | rfl <;> cases st.symm.trans running
      · rcases idle with rfl | rfl <;> cases st.symm.trans protect
  unfold restartExpires
  split
  case h_1 st _ => exact enters st (.inl rfl) (.inl rfl)
  case h_2 st _ => exact enters st (.inl rfl) (.inr rfl)
  case h_3 st _ => exact enters st (.inr rfl) (.inr rfl)
  case h_4 => exact serviceLaw_leaveService z s (by simp) h
  case h_5 => exact serviceLaw_setTimer z s _ h

theorem serviceLaw_restartTimerExpires (ready : s.inService z = true → s.map.enableable z = true)
    (h : ServiceLaw s.zones[z]) : ServiceLaw (restartTimerExpires z s).zones[z] := by
  unfold restartTimerExpires
  split
  · exact h
  · split
    · exact serviceLaw_setTimer z s _ h
    · exact serviceLaw_restartExpires z s ready h

theorem serviceLaw_enterState (x : ZoneState) (ready : s.map.enableable z = true)
    (idle : s.zones[z].state.refusesEnable = false) (h : ServiceLaw s.zones[z]) :
    ServiceLaw (enterState z x s).zones[z] := by
  have out : ¬ s.zones[z].InRun := by
    rintro (st | st) <;> rw [st] at idle <;> cases idle
  unfold enterState
  split
  case h_1 => exact serviceLaw_enterService z s (.inl rfl) ready out h
  case h_2 => exact serviceLaw_enterService z s (.inr rfl) ready out h
  case h_3 notRunning notProtect =>
    rw [modifyZone_get, if_pos rfl]
    refine serviceLaw_of_out ?_ h.pends (h.room_of_out out) (h.none_of_out out) (h.timer_none out)
    rintro (st | st)
    · exact notRunning st
    · exact notProtect st

/-! ### The period boundary (R81) -/

/-- A snapshot relabelled: its phase is kept, and whether it has an open side. -/
theorem pends_modifyFirst {l : List Snapshot} (h : Pends l) {test : Snapshot → Bool} {f : Snapshot → Snapshot}
    (same : ∀ n, (f n).phase = n.phase ∧ (f n).isOpen = n.isOpen) : Pends (modifyFirst test f l) := by
  refine ⟨?_, fun n mem => ?_⟩
  · rw [map_modifyFirst fun n => (same n).1]
    exact h.phases
  · rcases mem_modifyFirst mem with old | ⟨o, old, -, rfl⟩
    · exact h.openSide n old
    · rw [(same o).2]
      exact h.openSide o old

/-- R81, step 3: the late marks of a STARTED snapshot's sides on a channel. -/
def Snapshot.markLate (c : Fin 32) (n : Snapshot) : Snapshot :=
  { n with sides := modifyFirst (fun e => e.channel == c) (fun e => { e with late := true }) n.sides }

theorem isOpen_markLate (c : Fin 32) (n : Snapshot) : (n.markLate c).isOpen = n.isOpen := by
  have closed : (n.markLate c).sides.map Side.closed = n.sides.map Side.closed :=
    map_modifyFirst (f := fun e : Side => { e with late := true }) (fun _ => rfl) _
  have viaMap (m : Snapshot) : m.isOpen = (m.sides.map Side.closed).any fun b => !b := by
    simp [Snapshot.isOpen, List.any_map, Function.comp_def]
  rw [viaMap, viaMap, closed]

theorem lateSide_zone (n : Snapshot) (d : Side) :
    (lateSide z n s d).zones[z] = if waits (isOrder d.channel n.seq) s then { s.zones[z] with
        late := satAdd Config.halfTop s.zones[z].late 1
        pending := modifyFirst Snapshot.isStarted (Snapshot.markLate d.channel) s.zones[z].pending }
      else s.zones[z] := by
  by_cases waiting : waits (isOrder d.channel n.seq) s = true
  · rw [lateSide, if_pos waiting, if_pos waiting]
    simp only [raise_keeps]
    rw [modifyZone_get, if_pos rfl, (withdraw_keeps ..).2.2.2.2.1]
    rfl
  · rw [lateSide, if_neg waiting, if_neg waiting]

/-- R81, step 3: late marks change neither the phases nor the open sides, nor the state and its timer. -/
structure OnlyLate (q q' : Sequencer) : Prop where
  state : q'.state = q.state
  phases : q'.pending.map Snapshot.phase = q.pending.map Snapshot.phase
  pends : Pends q.pending → Pends q'.pending

theorem onlyLate_lateSide (n : Snapshot) (d : Side) : OnlyLate s.zones[z] (lateSide z n s d).zones[z] := by
  rw [lateSide_zone]
  split
  · exact ⟨rfl, map_modifyFirst (f := Snapshot.markLate d.channel) (fun _ => rfl) _, fun h => pends_modifyFirst h fun m => ⟨rfl, isOpen_markLate _ m⟩⟩
  · exact ⟨rfl, rfl, id⟩

theorem onlyLate_lateSides (n : Snapshot) (l : List Side) :
    OnlyLate s.zones[z] (l.foldl (lateSide z n) s).zones[z] := by
  induction l generalizing s with
  | nil => exact ⟨rfl, rfl, id⟩
  | cons d l ih =>
    have first := onlyLate_lateSide z s n d
    have rest := ih (lateSide z n s d)
    exact ⟨rest.state.trans first.state, rest.phases.trans first.phases, fun h => rest.pends (first.pends h)⟩

theorem boundaryStart_onlyLate :
    OnlyLate { s.zones[z] with pending := advancePhases s.zones[z].pending } (boundaryStart z s).zones[z] := by
  unfold boundaryStart
  dsimp only
  split
  · rw [modifyZone_get, if_pos rfl]
    exact ⟨rfl, rfl, id⟩
  · rename_i n _
    have late := onlyLate_lateSides z
      (postItem (markItem z n) (s.modifyZone z fun q => { q with pending := advancePhases q.pending })) n n.sides
    rw [(postItem_keeps ..).2.2.2.2.1, modifyZone_get, if_pos rfl] at late
    exact late

/-- R81, step 1: the forced closure of the oldest of three leaves two pending. -/
theorem boundaryForce_zone (run : s.zones[z].InRun) (h : ServiceLaw s.zones[z]) :
    ∃ fwd rev, (boundaryForce z s).zones[z] = { s.zones[z] with
      orphanFwd := fwd, orphanRev := rev
      pending := if s.zones[z].pending.length = 3 then s.zones[z].pending.tail else s.zones[z].pending } := by
  have capacity := h.capacity
  unfold boundaryForce
  split
  · rename_i n rest pending
    rw [pending, List.length_cons] at capacity
    split
    · rename_i two
      obtain ⟨fwd, rev, forced⟩ := forceClose_zone z s pending (h.openSide n (pending ▸ List.mem_cons_self ..))
      refine ⟨fwd, rev, ?_⟩
      rw [forced, pending, if_pos (by rw [List.length_cons]; omega), List.tail_cons]
    · refine ⟨s.zones[z].orphanFwd, s.zones[z].orphanRev, ?_⟩
      have notThree : ¬ s.zones[z].pending.length = 3 := by rw [pending, List.length_cons]; omega
      simp only [if_neg notThree]
  · rename_i empty
    have there := h.inRun_iff.1 run
    rw [empty] at there
    cases there

/-- R81: the pending list once its UNSTARTED snapshot is started. -/
theorem takeBoundary_zone {u : State} (started : boundaryStart z (boundaryForce z s) = u) :
    (takeBoundary z s).zones[z] = { u.zones[z] with
      lastSeq := (u.newSnapshot z).seq
      pending := u.zones[z].pending ++ [u.newSnapshot z]
      lastA := (u.newSnapshot z).lastOrder .A
      lastB := (u.newSnapshot z).lastOrder .B
      periodTimer := ((u.zones[z].pending ++ [u.newSnapshot z]).find? Snapshot.isStarted).map Snapshot.period } := by
  subst started
  have built := zone_of_bankSet (buildSnapshot_zones z (boundaryStart z (boundaryForce z s)))
  change ((buildSnapshot z (boundaryStart z (boundaryForce z s))).modifyZone z _).zones[z] = _
  rw [modifyZone_get, if_pos rfl, built]

theorem serviceLaw_takeBoundary (ready : s.map.enableable z = true) (run : s.zones[z].InRun) (h : ServiceLaw s.zones[z]) :
    ServiceLaw (takeBoundary z s).zones[z] := by
  obtain ⟨fwd, rev, forced⟩ := boundaryForce_zone z s run h
  let u := boundaryStart z (boundaryForce z s)
  let left := if s.zones[z].pending.length = 3 then s.zones[z].pending.tail else s.zones[z].pending
  have started : OnlyLate { s.zones[z] with
      orphanFwd := fwd, orphanRev := rev, pending := advancePhases left } u.zones[z] := by
    have late := boundaryStart_onlyLate z (boundaryForce z s)
    rw [forced] at late
    exact late
  obtain ⟨front, un, split, isUn, -⟩ := h.pends.unstarted_last (h.inRun_iff.1 run)
  have capacity := h.capacity
  have leftSub : left.Sublist s.zones[z].pending := by
    unfold left
    split
    · exact List.tail_sublist _
    · exact .refl _
  have leftLength : left.length ≤ 2 := by
    unfold left
    split
    · rw [List.length_tail]
      omega
    · omega
  have unLeft : un ∈ left := by
    unfold left
    rw [split]
    split
    · rename_i three
      cases front with
      | nil => simp at three
      | cons n front => simp
    · simp
  obtain ⟨pends, noUn⟩ := pends_advancePhases (h.pends.sublist leftSub)
  have uPends : Pends u.zones[z].pending := started.pends pends
  have uNone : hasUnstarted u.zones[z].pending = false := by
    rw [← Bool.not_eq_true, hasUnstarted_iff, started.phases, ← hasUnstarted_iff, Bool.not_eq_true]
    exact noUn
  have uLength : u.zones[z].pending.length = left.length := by
    have := congrArg List.length started.phases
    simpa [advancePhases] using this
  have uStarted : (u.zones[z].pending.find? Snapshot.isStarted).isSome = true := by
    have phase : Phase.started ∈ u.zones[z].pending.map Snapshot.phase := by
      rw [started.phases, advancePhases_phase, List.mem_map]
      exact ⟨.unstarted, isUn ▸ List.mem_map_of_mem unLeft, rfl⟩
    obtain ⟨n, mem, isStarted⟩ := List.mem_map.1 phase
    rw [List.find?_isSome]
    exact ⟨n, mem, isStarted_iff.2 isStarted⟩
  have uReady : u.map.enableable z = true := by
    have map : u.map = s.map := by simp [u]
    rw [map]
    exact ready
  have uRun : u.zones[z].InRun := by
    rw [Sequencer.InRun, started.state]
    exact run
  rw [takeBoundary_zone z s (u := u) rfl]
  refine serviceLaw_of_run uRun (uPends.snoc uNone rfl (newSnapshot_isOpen z u uReady)) ?_ ?_ ?_
  · change (u.zones[z].pending ++ [u.newSnapshot z]).length ≤ 3
    rw [List.length_append, List.length_singleton, uLength]
    omega
  · change hasUnstarted (u.zones[z].pending ++ [u.newSnapshot z]) = true
    rw [hasUnstarted_append, Bool.or_eq_true]
    exact .inr rfl
  · change ((u.zones[z].pending ++ [u.newSnapshot z]).find? Snapshot.isStarted).map Snapshot.period ≠ none
    obtain ⟨n, found⟩ := Option.isSome_iff_exists.1 uStarted
    rw [List.find?_append, found]
    simp

theorem serviceLaw_periodTimerExpires (ready : s.inService z = true → s.map.enableable z = true)
    (h : ServiceLaw s.zones[z]) : ServiceLaw (periodTimerExpires z s).zones[z] := by
  unfold periodTimerExpires
  split
  case h_1 st _ => exact serviceLaw_takeBoundary z s (ready (by rw [State.inService, st]; rfl)) (.inl st) h
  case h_2 st _ => exact serviceLaw_takeBoundary z s (ready (by rw [State.inService, st]; rfl)) (.inr st) h
  case h_3 => exact h

end

end Sys2Proof.Machine

/-! Every step keeps the law of the pending lists (R76, R78). -/

namespace Sys2Proof.Machine

/-- Every zone that keeps the law of its pending list still keeps it. -/
structure ServiceKept (s t : State) : Prop where
  each : ∀ z : Fin 16, ServiceLaw s.zones[z] → ServiceLaw t.zones[z]

section
variable {s t u : State}

theorem ServiceKept.refl (s : State) : ServiceKept s s := ⟨fun _ h => h⟩

theorem ServiceKept.trans (h : ServiceKept s t) (k : ServiceKept t u) : ServiceKept s u :=
  ⟨fun z law => k.each z (h.each z law)⟩

theorem ServiceKept.of_zones (same : t.zones = s.zones) : ServiceKept s t := ⟨fun _ => by rw [same]; exact id⟩

theorem ServiceKept.after (h : ServiceKept t u) (same : t.zones = s.zones) : ServiceKept s u :=
  (ServiceKept.of_zones same).trans h

theorem ServiceKept.of_othersKept {z : Fin 16} (others : OthersKept z s t)
    (here : ServiceLaw s.zones[z] → ServiceLaw t.zones[z]) : ServiceKept s t := ⟨fun y law => by
  by_cases same : y = z
  · subst same
    exact here law
  · rw [others.kept y same]
    exact law⟩

theorem serviceKept_foldl {α : Type} {f : State → α → State} (each : ∀ s a, ServiceKept s (f s a)) (l : List α)
    (s : State) : ServiceKept s (l.foldl f s) := by
  induction l generalizing s with
  | nil => exact .refl s
  | cons a l ih => exact (each s a).trans (ih _)

theorem ServiceKept.all (k : ServiceKept s t) (h : ∀ z : Fin 16, ServiceLaw s.zones[z]) (z : Fin 16) :
    ServiceLaw t.zones[z] := k.each z (h z)

end

/-! ### Closures at a transaction's end -/

section
variable (s : State)

theorem not_inRun_of_out {q : Sequencer} (out : q.state.outOfService = true) : ¬ q.InRun := by
  rintro (st | st) <;> rw [st] at out <;> cases out

/-- R114, R115: the lost closures of one zone, which is out of service. -/
theorem serviceKept_loseSidesOf (c : Fin 32) (z : Fin 16) : ServiceKept s (loseSidesOf c s z) := by
  have each (l : List Snapshot) (u : State) (out : ¬ u.zones[z].InRun) : ServiceKept u
      (l.foldl (fun t (n : Snapshot) => match n.openSideOn c with
        | some d => closeSide z n.seq d 0 0 .lost t
        | none => t) u) := by
    induction l generalizing u with
    | nil => exact .refl u
    | cons n l ih =>
      rw [List.foldl_cons]
      cases found : n.openSideOn c with
      | none => exact ih u out
      | some d =>
        obtain ⟨fwd, rev, zone⟩ := closeSide_zone z u n.seq d 0 0 .lost
        refine ServiceKept.trans (.of_othersKept (othersKept_closeSide ..) fun h => ?_) (ih _ ?_)
        · rw [zone]
          exact h.close_out out n.seq d.channel rfl rfl rfl
        · rw [zone]
          exact out
  unfold loseSidesOf
  split
  · rename_i out
    exact each _ s (not_inRun_of_out out)
  · exact .refl s

theorem serviceKept_loseSides (c : Fin 32) : ServiceKept s (loseSides c s) :=
  serviceKept_foldl (f := loseSidesOf c) (fun u z => serviceKept_loseSidesOf u c z) _ s

theorem serviceKept_closing (closes : Bool) (c : Fin 32) : ServiceKept s (if closes then loseSides c s else s) := by
  split
  · exact serviceKept_loseSides ..
  · exact .refl s

theorem serviceKept_raiseMajor (c : Case) : ServiceKept s (raiseMajor c s) := by
  unfold raiseMajor
  dsimp only
  split
  · rename_i z _
    exact (ServiceKept.of_othersKept (othersKept_faultZone z _) (serviceLaw_faultZone z _)).after rfl
  · exact .of_zones rfl

theorem serviceKept_handOff (z : Fin 16) (mode : Mode) (d : Side) (qf qr : Nat) :
    ServiceKept s (handOff z mode d qf qr s) := by
  unfold handOff
  split
  · exact .refl s
  · cases s.classify z mode d qf qr with
    | major c => exact serviceKept_raiseMajor ..
    | minor c => exact .of_zones rfl
    | nothing => exact .refl s

/-- R105: what a matching side is. -/
theorem matchIn_some {q : Sequencer} {c : Fin 32} {seq : BitVec 8} {n : Snapshot} {d : Side}
    (h : matchIn q c seq = some (n, d)) :
    n ∈ q.pending ∧ n.seq = seq ∧ n.phase ≠ .unstarted ∧ n.openSideOn c = some d := by
  obtain ⟨m, mem, found⟩ := List.exists_of_findSome?_eq_some h
  simp only [Option.ite_none_right_eq_some, Bool.and_eq_true, beq_iff_eq, bne_iff_ne, Option.map_eq_some_iff,
    Prod.mk.injEq] at found
  obtain ⟨⟨seqIs, started⟩, e, onC, rfl, rfl⟩ := found
  exact ⟨mem, seqIs, started, onC⟩

theorem openSideOn_some {n : Snapshot} {c : Fin 32} {d : Side} (h : n.openSideOn c = some d) :
    d ∈ n.sides ∧ d.channel = c ∧ d.closed = false := by
  have test := List.find?_some h
  simp only [Bool.and_eq_true, beq_iff_eq, Bool.not_eq_true'] at test
  exact ⟨List.mem_of_find?_eq_some h, test⟩

theorem matching_mem {c : Fin 32} {seq : BitVec 8} {z : Fin 16} {n : Snapshot} {d : Side}
    (h : (z, n, d) ∈ s.matching c seq) : matchIn s.zones[z] c seq = some (n, d) := by
  obtain ⟨y, -, found⟩ := List.mem_filterMap.1 h
  simp only [Option.map_eq_some_iff, Prod.mk.injEq] at found
  obtain ⟨⟨m, e⟩, matched, rfl, rfl, rfl⟩ := found
  exact matched

theorem serviceKept_takeReadback (c : Fin 32) (b : Readback) : ServiceKept s (takeReadback c s b) := by
  unfold takeReadback
  split
  case h_1 z n d only =>
    obtain ⟨mem, seqIs, started, onC⟩ := matchIn_some (matching_mem s (only ▸ List.mem_singleton_self _))
    obtain ⟨-, rfl, -⟩ := openSideOn_some onC
    obtain ⟨fwd, rev, zone⟩ := closeSide_zone z s n.seq d b.qf b.qr .measured
    refine ServiceKept.trans (.of_othersKept (othersKept_closeSide ..) fun h => ?_) (serviceKept_handOff ..)
    rw [zone]
    exact h.close_match ⟨n, mem, started, rfl, by rw [onC]; rfl⟩ rfl rfl rfl
  case h_2 => exact .of_zones rfl

theorem serviceKept_judgeStatus (st : ReplyStatus) (c : Fin 32) (poster : Option (Fin 16)) :
    ServiceKept s (judgeStatus st c poster s) := by
  cases st with
  | ok => exact .refl s
  | limit => exact .of_zones rfl
  | fault => exact serviceKept_raiseMajor ..

theorem serviceKept_goodEnd (item : DriveItem) (c : Fin 32) (st : ReplyStatus) (rbs : List Readback) :
    ServiceKept s (goodEnd item c st rbs s) := by
  have start : ServiceKept s
      (s.modifyChannel c fun k => { k with misses := 0, lastStatus := some st, lastEnd := some .good }) := .of_zones rfl
  have read := start.trans (serviceKept_foldl (f := takeReadback c) (fun u b => serviceKept_takeReadback u c b) rbs _)
  have lost := read.trans (serviceKept_closing _ item.closes c)
  exact (lost.trans (serviceKept_judgeStatus _ st c item.poster)).trans (.of_zones (endTransaction_keeps _).2.2.2.2.1)

theorem serviceKept_badEnd (item : DriveItem) (c : Fin 32) (how : TransactionEnd) :
    ServiceKept s (badEnd item c how s) := by
  have start : ServiceKept s (s.modifyChannel c fun k => { k with misses := min 3 (k.misses + 1), lastEnd := some how }) :=
    .of_zones rfl
  have lost := start.trans (serviceKept_closing _ item.closes c)
  have faulted (u : State) :
      ServiceKept u (if s.drive.channels[c].misses = 2 then channelFault c item.poster u else u) := by
    split
    · exact serviceKept_raiseMajor ..
    · exact .refl u
  exact (lost.trans (faulted _)).trans (.of_zones (endTransaction_keeps _).2.2.2.2.1)

/-! ### Motion, halt and resume -/

theorem serviceKept_changeMotion (m : Motion) : ServiceKept s (changeMotion m s) :=
  ServiceKept.trans (.of_zones (raise_keeps .motion s).2.2.2.2.1) (serviceKept_foldl (f := tellMotion m)
    (fun u z => .of_othersKept (othersKept_tellMotion z u m) (serviceLaw_tellMotion z u m)) zoneNumbers _)

theorem serviceKept_haltLine : ServiceKept s (haltLine s) := by
  unfold haltLine
  split
  · exact .refl s
  · have told := serviceKept_foldl (f := tellHalt)
      (fun u z => .of_othersKept (othersKept_tellHalt z u) (serviceLaw_tellHalt z u)) zoneNumbers
      (postItem .abort (s.withSup { s.sup with halted := true }))
    have posted : ServiceKept s (zoneNumbers.foldl tellHalt
        (postItem .abort (s.withSup { s.sup with halted := true }))) :=
      told.after (postItem_keeps .abort (s.withSup { s.sup with halted := true })).2.2.2.2.1
    exact posted.trans (.of_zones (raise_keeps ..).2.2.2.2.1)

theorem serviceKept_tellResumes : ServiceKept s (zoneNumbers.foldl tellResume s) :=
  serviceKept_foldl (f := tellResume)
    (fun u z => .of_othersKept (othersKept_tellResume z u) (serviceLaw_tellResume z u)) zoneNumbers s

theorem serviceKept_pulseMotion : ServiceKept s (pulseMotion s) := by
  unfold pulseMotion
  split
  · exact .of_zones rfl
  · split
    · exact (serviceKept_changeMotion _ .moving).after rfl
    · exact .refl s
  · exact .refl s

theorem serviceKept_encoderStep (sense : QuadSense) : ServiceKept s (encoderStep sense s) := by
  have moved : ServiceKept s (pulseMotion (s.withPos (s.pos.stepped s.map.line.swapped sense))) :=
    (serviceKept_pulseMotion _).after rfl
  exact moved.trans (.of_zones (by simp [encoderStep]))

theorem serviceKept_stopTimerExpires : ServiceKept s (stopTimerExpires s) := by
  unfold stopTimerExpires
  split
  · exact (serviceKept_changeMotion _ .stopped).after rfl
  · exact .refl s

theorem serviceKept_parkTimerExpires : ServiceKept s (parkTimerExpires s) := by
  unfold parkTimerExpires
  split
  · exact (serviceKept_changeMotion _ .parked).after rfl
  · exact .refl s

end

/-! ### Steps -/

theorem serviceLaw_lineReset (q : Sequencer) : ServiceLaw q.lineReset :=
  serviceLaw_of_out (by rintro (st | st) <;> cases st) ⟨rfl, nofun⟩ (Nat.zero_le 2) rfl rfl

theorem Served.serviceKept {s t : State} (k : Served s t) : ServiceKept s t := by
  cases k with
  | still => exact .refl s
  | profile | access | defined | redefined | slotState | erased | speed | ignoredCleared | addressed
  | countersCleared | eventsCleared | attention | staleCleared | walked => exact .of_zones rfl
  | edited | cancelled | retired => exact .of_zones (by simp)
  | announced _ _ _ taken => exact .of_zones (by simp [takeProgram_keeps taken])
  | amended _ _ _ moved => exact .of_zones (by simp [moveProgram_keeps moved])
  | identified _ _ _ _ moved => exact .of_zones (by simp [moveProgram_keeps moved])
  | placed _ _ _ _ _ taken => exact .of_zones (by simp [takeProgram_keeps taken])
  | enabled idle ready =>
    rename_i z
    have zones : (clearMisses s.map.zones[z].channels s).zones = s.zones := (clearMisses_keeps ..).2.2.2.2.1
    have map : (clearMisses s.map.zones[z].channels s).map = s.map := (clearMisses_keeps ..).1
    refine ServiceKept.trans (.of_zones zones) (.of_othersKept (othersKept_enterState z _ _) fun h => ?_)
    refine serviceLaw_enterState z _ _ ?_ ?_ h
    · rw [map]
      exact ready
    · rw [zones]
      exact idle
  | disabled => exact .of_othersKept (othersKept_leaveService ..) (serviceLaw_leaveService _ s (by simp))
  | halted => exact serviceKept_haltLine s
  | resumed => exact (serviceKept_tellResumes _).after rfl
  | lineReset => exact ⟨fun z _ => by rw [resetLineNow_zones]; exact serviceLaw_lineReset _⟩

theorem Happened.serviceKept {s t : State} (k : Happened s t) (map : MapLaw s) : ServiceKept s t := by
  cases k with
  | encoder sense => exact serviceKept_encoderStep s sense
  | stopTimer => exact serviceKept_stopTimerExpires s
  | parkTimer => exact serviceKept_parkTimerExpires s
  | edge which => exact .of_zones (by simp)
  | otherEdge | skipped | pulseTimer | reminderTimer | haltInactive => exact .of_zones rfl
  | haltActive => exact (serviceKept_haltLine _).after rfl
  | period z => exact .of_othersKept (othersKept_periodTimerExpires z s) (serviceLaw_periodTimerExpires z s (map.enableable z))
  | restart z =>
    exact .of_othersKept (othersKept_restartTimerExpires z s) (serviceLaw_restartTimerExpires z s (map.enableable z))
  | frameSent => exact .of_zones (by simp)
  | replyBegun => exact .of_zones (by simp)
  | goodEnd item c st rbs => exact serviceKept_goodEnd s item c st rbs
  | badEnd item c how => exact serviceKept_badEnd s item c how

/-- Settles O52: a new snapshot is built only where none is UNSTARTED, and a closure removes the UNSTARTED one of no zone
in RUNNING or PROTECT. -/
theorem serviceLawIsKept : Obligations.ServiceLawIsKept := by
  intro s t map law h
  obtain ⟨waiting, h⟩ := stepped_of_step h
  have start : MapLaw { s with pending := waiting } := map.of_zones rfl rfl
  have powerOn (pins : Pins) (z : Fin 16) : ServiceLaw (powerOnState pins waiting).zones[z] := by
    have zone : (powerOnState pins waiting).zones[z] = Sequencer.powerOn := by simp [powerOnState, State.reset]
    rw [zone]
    exact serviceLaw_of_out (by rintro (st | st) <;> cases st) ⟨rfl, nofun⟩ (by decide) rfl rfl
  exact h.keeps (Law := fun u => ∀ z : Fin 16, ServiceLaw u.zones[z]) law (fun pins _ => powerOn pins)
    (fun pins => (serviceKept_haltLine _).all (powerOn pins)) law
    (fun _ _ k => (k.serviceKept start).all law) (fun _ _ k => k.serviceKept.all law) (fun _ _ k => k) (fun _ k => k)

end Sys2Proof.Machine

/-! The step, the reset and the plant link: the frames and characters of chapter 10 and section 13.1. -/

namespace Sys2Proof.Machine

/-! ### The step and the inputs that move a level -/

/-- Settles O1: the queue of commands decides. -/
theorem frontCommandIsRun : Obligations.FrontCommandIsRun :=
  ⟨fun _ _ _ => rfl, fun s empty => by rw [step, empty]⟩

/-- R160: out of reset an event is taken. -/
theorem next_awake {s : State} (awake : s.inReset = false) (t : State) :
    (Host.Outcome.next (if s.inReset then s else t) : Host.Outcome State Fault Refusal) = .next t := by
  rw [if_neg (by rw [awake]; exact Bool.false_ne_true)]

/-- R160: while RESET_N is low no event is taken. -/
theorem next_inReset {s : State} (low : s.inReset = true) (t : State) :
    (Host.Outcome.next (if s.inReset then s else t) : Host.Outcome State Fault Refusal) = .next s := by
  rw [if_pos low]

/-- R44: the level after an edge that is not the selected one. -/
theorem Edge.not_levelAfter (e : Edge) : (!e.levelAfter) = decide (e = .falling) := by
  cases e <;> rfl

/-- Settles O37: each input's event replaces its level. -/
theorem quietInputs : Obligations.QuietInputs := by
  intro s awake
  refine ⟨next_awake awake _, ?_, ?_, next_awake awake _⟩
  · rw [← Edge.not_levelAfter]
    exact next_awake awake _
  · rw [← Edge.not_levelAfter]
    exact next_awake awake _

/-! ### Reset (R160, R161) -/

/-- Settles O2: each value as the reset state gives it. -/
theorem resetHasGivenValues : Obligations.ResetHasGivenValues := by
  unfold Obligations.ResetHasGivenValues
  decide

/-- R90: a halt tells nothing to a zone that is DISABLED. -/
theorem tellHalt_disabled {s : State} {z : Fin 16} (disabled : s.zones[z].state = .disabled) : tellHalt s z = s := by
  unfold tellHalt
  rw [disabled]

theorem tellHalts_disabled {s : State} (disabled : ∀ z : Fin 16, s.zones[z].state = .disabled) (l : List (Fin 16)) :
    l.foldl tellHalt s = s := by
  induction l with
  | nil => rfl
  | cons z l ih => rw [List.foldl_cons, tellHalt_disabled (disabled z), ih]

theorem strapStation_eq (addr : Byte) :
    strapStation addr = if addr.toNat = 0 ∨ 240 ≤ addr.toNat then 239 else addr.toNat := by
  unfold strapStation
  split <;> split <;> omega

theorem powerOn_disabled (pins : Pins) (waiting : List Instr) (z : Fin 16) :
    (powerOnState pins waiting).zones[z].state = .disabled := congrArg Prod.fst (powerOn_stand pins waiting z)

/-- R152, R160: with HALT_N active at power-on, the line is halted and the ABORT goes out. -/
theorem haltLine_powerOn (pins : Pins) (waiting : List Instr) :
    haltLine (powerOnState pins waiting)
      = raise .halt (postItem .abort ((powerOnState pins waiting).withSup
          { halted := true, haltNActive := !pins.haltNHigh })) := by
  have told := tellHalts_disabled (s := postItem .abort ((powerOnState pins waiting).withSup
    { halted := true, haltNActive := !pins.haltNHigh }))
    (fun z => by rw [(postItem_keeps ..).2.2.2.2.1]; exact powerOn_disabled pins waiting z) zoneNumbers
  rw [haltLine, if_neg (by exact Bool.false_ne_true)]
  exact congrArg (raise .halt) told

/-- Settles O3: HALT_N decides whether the power-on state is halted; RESET_N low cuts both links; an event is not
taken while it is low. -/
theorem resetPins : Obligations.ResetPins := by
  refine ⟨fun p s => ?_, fun s => rfl, fun i s low notPower notLow => ?_⟩
  · cases high : p.haltNHigh with
    | true =>
      refine ⟨powerOnState p s.pending, by simp [exec, execPowerOnReset, high], ?_⟩
      refine ⟨rfl, rfl, rfl, rfl, rfl, rfl, ?_, ?_, rfl, rfl, fun _ => ⟨rfl, rfl⟩, nofun⟩
      · rw [← strapStation_eq]
        rfl
      · rw [powerOnState, high]
        rfl
    | false =>
      refine ⟨haltLine (powerOnState p s.pending), by simp [exec, execPowerOnReset, high], ?_⟩
      rw [haltLine_powerOn, high]
      have raised : State.reset.attn.raiseFlag .halt = { State.reset.attn with flags := Event.halt.mask } := by decide
      refine ⟨rfl, rfl, rfl, rfl, rfl, rfl, ?_, rfl, rfl, rfl, nofun, fun _ => ⟨rfl, ?_⟩⟩
      · rw [← strapStation_eq]
        rfl
      · rw [← raised, raise, State.withAttn]
        dsimp only
        rfl
  · cases i with
    | powerOnReset p => exact absurd rfl (notPower p)
    | resetNLow => exact absurd rfl notLow
    | _ => exact next_inReset low _

end Sys2Proof.Machine

/-! The plant link: requests read back from their frames, characters, breaks, and what becomes of a frame. -/

namespace Sys2Proof.Machine

/-! ### Requests read back (sec. 13.2, R188) -/

theorem parse_setZone (f : ZoneFields) : parseSetZone (requestPayload (.setZone f)) = some (.setZone f) := by
  simp [parseSetZone, requestPayload, halfBytes]

theorem parse_setLine (f : LineFields) : parseSetLine (requestPayload (.setLine f)) = some (.setLine f) := by
  simp [parseSetLine, requestPayload, lineFieldBytes, halfBytes, longBytes]

theorem parse_setProfile (f : ProfileFields) : parseSetProfile (requestPayload (.setProfile f)) = some (.setProfile f) := by
  simp [parseSetProfile, requestPayload, halfBytes]

theorem parse_announce (f : AnnounceFields) : parseAnnounce (requestPayload (.announce f)) = some (.announce f) := by
  simp [parseAnnounce, requestPayload, halfBytes]

/-- R188: the length of an AMEND tells which of its parts are there. -/
theorem parse_amend (f : AmendFields) : parseAmend (requestPayload (.amend f)) = some (.amend f) := by
  obtain ⟨tag, length, areas, program⟩ := f
  cases length with
  | none =>
    cases areas with
    | none => cases program <;> simp [parseAmend, requestPayload, halfBytes]
    | some areas => cases program <;> simp [parseAmend, requestPayload, halfBytes]
  | some length =>
    cases areas with
    | none => cases program <;> simp [parseAmend, requestPayload, halfBytes]
    | some areas => cases program <;> simp [parseAmend, requestPayload, halfBytes]

theorem parse_identify (index generation : Byte) (tag : Half) (slot : Option Byte) :
    parseIdentify (requestPayload (.identify index generation tag slot)) = some (.identify index generation tag slot) := by
  cases slot <;> simp [parseIdentify, requestPayload, halfBytes]

theorem parse_place (f : PlaceFields) : parsePlace (requestPayload (.place f)) = some (.place f) := by
  simp [parsePlace, requestPayload, halfBytes, longBytes]

/-- Settles O4: the code chooses the row of the table, and the row's fields are joined again from their bytes. -/
theorem requestReadsBack : Obligations.RequestReadsBack := by
  intro r
  cases r with
  | setZone f => exact congrArg Parsed.ofOption (parse_setZone f)
  | setLine f => exact congrArg Parsed.ofOption (parse_setLine f)
  | setProfile f => exact congrArg Parsed.ofOption (parse_setProfile f)
  | announce f => exact congrArg Parsed.ofOption (parse_announce f)
  | amend f => exact congrArg Parsed.ofOption (parse_amend f)
  | identify index generation tag slot => exact congrArg Parsed.ofOption (parse_identify index generation tag slot)
  | place f => exact congrArg Parsed.ofOption (parse_place f)
  | setChannel c iF iR =>
    have parsed : parseSetChannel (requestPayload (.setChannel c iF iR)) = some (.setChannel c iF iR) := by simp [parseSetChannel, requestPayload, halfBytes]
    exact congrArg Parsed.ofOption parsed
  | defineProgram slot qT jMin jMax =>
    have parsed : parseDefineProgram (requestPayload (.defineProgram slot qT jMin jMax)) = some (.defineProgram slot qT jMin jMax) := by simp [parseDefineProgram, requestPayload, halfBytes]
    exact congrArg Parsed.ofOption parsed
  | setSpeed speed =>
    have parsed : parseSetSpeed (requestPayload (.setSpeed speed)) = some (.setSpeed speed) := by simp [parseSetSpeed, requestPayload, halfBytes]
    exact congrArg Parsed.ofOption parsed
  | cancelAnnouncement tag =>
    have parsed : parseCancel (requestPayload (.cancelAnnouncement tag)) = some (.cancelAnnouncement tag) := by simp [parseCancel, requestPayload, halfBytes]
    exact congrArg Parsed.ofOption parsed
  | lookup selector key =>
    have parsed : parseLookup (requestPayload (.lookup selector key)) = some (.lookup selector key) := by simp [parseLookup, requestPayload, longBytes]
    exact congrArg Parsed.ofOption parsed
  | retire selector key =>
    have parsed : parseRetire (requestPayload (.retire selector key)) = some (.retire selector key) := by simp [parseRetire, requestPayload, halfBytes]
    exact congrArg Parsed.ofOption parsed
  | clearEvents mask =>
    have parsed : parseClearEvents (requestPayload (.clearEvents mask)) = some (.clearEvents mask) := by simp [parseClearEvents, requestPayload, maskBytes]
    exact congrArg Parsed.ofOption parsed
  | setAttention mask mode interval =>
    have parsed : parseSetAttention (requestPayload (.setAttention mask mode interval)) = some (.setAttention mask mode interval) := by simp [parseSetAttention, requestPayload, maskBytes, halfBytes]
    exact congrArg Parsed.ofOption parsed
  | _ => rfl

/-! ### Frames (R163, R164) -/

section
variable {addr len code : Byte} {payload : List Byte}

/-- R163: a frame whose length character agrees with its size is whole. -/
theorem wholeLinkFrame_linkFrame (size : len.toNat = payload.length + 1) (short : payload.length ≤ 249) :
    wholeLinkFrame (linkFrame (addr :: len :: code :: payload)) = true := by
  simp [wholeLinkFrame, linkFrame, size]
  omega

theorem crcGood_linkFrame (body : List Byte) : crcGood (linkFrame body).tail = true := crcGood_append body

theorem byteOf_toNat {n : Nat} (small : n < 256) : (byteOf n).toNat = n := by
  rw [byteOf, BitVec.toNat_ofNat, Nat.mod_eq_of_lt small]

/-- R169, R170: what a frame with a good check does, by what its code and payload are. -/
def takeParsed (addr code : Byte) : Parsed → State → State
  | .unknownRequest, s => rejectUnparsed addr code .unknownRequest s
  | .badLength, s => rejectUnparsed addr code .badLength s
  | .request r, s => deliver addr r s

/-- R169: the judgement of a frame with a good check. -/
theorem judgeFrame_linkFrame (s : State) :
    judgeFrame (linkFrame (addr :: len :: code :: payload)) s
      = if 128 ≤ code.toNat then endFrame s else takeParsed addr code (parseRequest code payload) s := by
  have good := crcGood_linkFrame (addr :: len :: code :: payload)
  have body : (payload ++ halfBytes (crc (addr :: len :: code :: payload))).take
      ((payload ++ halfBytes (crc (addr :: len :: code :: payload))).length - 2) = payload := by
    rw [List.length_append, halfBytes_length, Nat.add_sub_cancel, List.take_left]
  unfold judgeFrame linkFrame
  simp only [linkFrame] at good
  simp only [List.cons_append, body]
  simp only [List.cons_append] at good
  rw [good]
  cases parseRequest code payload <;> rfl

/-- R169: the frame of a request is judged to be its delivery. -/
theorem judgeFrame_requestFrame (addr : Byte) (r : Request) (s : State) :
    judgeFrame (requestFrame addr r) s = deliver addr r s := by
  have low := requestCode_lt r
  rw [requestFrame, judgeFrame_linkFrame, if_neg (by omega), requestReadsBack r, takeParsed]

theorem wholeLinkFrame_requestFrame (addr : Byte) (r : Request) : wholeLinkFrame (requestFrame addr r) = true := by
  have short := requestPayload_length_le r
  exact wholeLinkFrame_linkFrame (byteOf_toNat (by omega)) (by omega)

/-- A whole frame's command is its arrival. -/
theorem exec_completeFrame {frame : List Byte} (whole : wholeLinkFrame frame = true) (s : State) :
    exec (.completeFrame frame) s = s.takes (arriving frame (judgeFrame frame)) := by
  change s.takes (fun s => if wholeLinkFrame frame = true then arriving frame (judgeFrame frame) s else s) = _
  simp only [whole, if_true]

/-- Settles O5: both arrive as the same frame, and the frame is judged to be the request's delivery. -/
theorem frameCarriesItsRequest : Obligations.FrameCarriesItsRequest := by
  intro addr r
  have whole := wholeLinkFrame_requestFrame addr r
  refine ⟨whole, crcGood_linkFrame _, fun s => ?_⟩
  have judged : judgeFrame (requestFrame addr r) = deliver addr r := funext (judgeFrame_requestFrame addr r)
  rw [exec_completeFrame whole, exec_requestCommand, judged]
  rfl

end

/-! ### Refusals (ch. 0, R173) -/

/-- R173: an owner's step and answer, of which a refusal leaves the part and carries nothing. -/
structure RefusalKeeps (s : State) (sa : State × Answer) : Prop where
  kept : sa.2.result.taken = false → sa.1 = s ∧ sa.2.payload = []

section
variable (s : State)

@[simp] theorem refusalKeeps_refuse (x : Result) : RefusalKeeps s (refuse s x) := ⟨fun _ => ⟨rfl, rfl⟩⟩

@[simp] theorem refusalKeeps_accept (t : State) (payload : List Byte) : RefusalKeeps s (accept t payload) := ⟨nofun⟩

@[simp] theorem refusalKeeps_acceptRecord (i : Fin 64) (g : BitVec 8) (t : State) :
    RefusalKeeps s (acceptRecord i g t) := ⟨nofun⟩

@[simp] theorem refusalKeeps_onSlot (slot : Byte) {act : Fin 16 → State × Answer} (each : ∀ k, RefusalKeeps s (act k)) :
    RefusalKeeps s (onSlot slot act s) := by
  unfold onSlot
  split
  · simp
  · exact each _

@[simp] theorem refusalKeeps_setSlotState (k : Fin 16) (x : SlotState) : RefusalKeeps s (setSlotState k x s) :=
  refusalKeeps_accept ..

@[simp] theorem refusalKeeps_takeEdit (edit : Option LineMap) : RefusalKeeps s (takeEdit edit s) := by
  unfold takeEdit
  repeat' split
  all_goals simp

@[simp] theorem refusalKeeps_readItem (n : Nat) (item : Byte) (payload : Fin n → List Byte) :
    RefusalKeeps s (readItem n item payload s) := by
  unfold readItem
  split <;> simp

@[simp] theorem refusalKeeps_answerRecord (r : Option Record) : RefusalKeeps s (answerRecord r s) := by
  unfold answerRecord
  split <;> simp

@[simp] theorem refusalKeeps_answerWalk (r : Option Record) : RefusalKeeps s (answerWalk r s) := by
  unfold answerWalk
  split <;> simp

/-- A request whose owner takes it with its value brought into its range. -/
theorem refusalKeeps_clamped (t : State) (within : Prop) [Decidable within] (x y : Result) (payload : List Byte)
    (xTaken : x.taken = true) (yTaken : y.taken = true) : RefusalKeeps s (t, ⟨if within then x else y, payload⟩) := by
  refine ⟨fun refused => ?_⟩
  dsimp only at refused
  split at refused
  · rw [xTaken] at refused
    cases refused
  · rw [yTaken] at refused
    cases refused

theorem refusalKeeps_lookup (selector : Byte) (key : Long) : RefusalKeeps s (ownLookup selector key s) := by
  unfold ownLookup lookupTag lookupIndex lookupPosition lookupDisplaced
  repeat' split
  all_goals simp

theorem refusalKeeps_slotRequests (slot : Byte) : RefusalKeeps s (ownFreeze slot s) ∧ RefusalKeeps s (ownWithdraw slot s)
    ∧ RefusalKeeps s (ownReinstate slot s) ∧ RefusalKeeps s (ownErase slot s) := by
  refine ⟨refusalKeeps_onSlot s slot fun k => ?_, refusalKeeps_onSlot s slot fun k => ?_,
    refusalKeeps_onSlot s slot fun k => ?_, refusalKeeps_onSlot s slot fun k => ?_⟩ <;> split <;> simp

theorem refusalKeeps_identify (index generation : Byte) (tag : Half) (slot : Option Byte) :
    RefusalKeeps s (ownIdentify index generation tag slot s) := by
  unfold ownIdentify
  split
  · simp
  · split
    · simp
    · split
      · simp
      · split
        · simp
        · dsimp only
          split <;> simp

theorem refusalKeeps_place (f : PlaceFields) : RefusalKeeps s (ownPlace f s) := by
  unfold ownPlace
  split
  · simp
  · split
    · simp
    · split
      · simp
      · dsimp only
        repeat' split
        all_goals simp

theorem refusalKeeps_setProfile (f : ProfileFields) : RefusalKeeps s (ownSetProfile f s) := by
  unfold ownSetProfile
  repeat' split
  all_goals simp

theorem refusalKeeps_readMap (selector item : Byte) : RefusalKeeps s (ownReadMap selector item s) := by
  unfold ownReadMap
  repeat' split
  all_goals simp

theorem refusalKeeps_mapAccess (operation : Byte) : RefusalKeeps s (ownMapAccess operation s) := by
  unfold ownMapAccess
  repeat' split
  all_goals simp

theorem refusalKeeps_defineProgram (slot : Byte) (qT jMin jMax : Half) : RefusalKeeps s (ownDefineProgram slot qT jMin jMax s) := by
  unfold ownDefineProgram
  repeat' split
  all_goals simp

theorem refusalKeeps_readProgram (slot : Byte) : RefusalKeeps s (ownReadProgram slot s) := by
  unfold ownReadProgram
  repeat' split
  all_goals simp

theorem refusalKeeps_readPosition (clear : Byte) : RefusalKeeps s (ownReadPosition clear s) := by
  unfold ownReadPosition
  repeat' split
  all_goals simp

theorem refusalKeeps_announce (f : AnnounceFields) : RefusalKeeps s (ownAnnounce f s) := by
  unfold ownAnnounce
  repeat' split
  all_goals simp

theorem refusalKeeps_cancel (tag : Half) : RefusalKeeps s (ownCancel tag s) := by
  unfold ownCancel
  repeat' split
  all_goals simp

theorem refusalKeeps_amend (f : AmendFields) : RefusalKeeps s (ownAmend f s) := by
  unfold ownAmend
  repeat' split
  all_goals simp

theorem refusalKeeps_retire (selector : Byte) (key : Half) : RefusalKeeps s (ownRetire selector key s) := by
  unfold ownRetire
  repeat' split
  all_goals simp

theorem refusalKeeps_enableZone (zone : Byte) : RefusalKeeps s (ownEnableZone zone s) := by
  unfold ownEnableZone
  repeat' split
  all_goals simp

theorem refusalKeeps_disableZone (zone : Byte) : RefusalKeeps s (ownDisableZone zone s) := by
  unfold ownDisableZone
  repeat' split
  all_goals simp

theorem refusalKeeps_readZone (zone : Byte) : RefusalKeeps s (ownReadZone zone s) := by
  unfold ownReadZone
  repeat' split
  all_goals simp

theorem refusalKeeps_readChannel (channel clear : Byte) : RefusalKeeps s (ownReadChannel channel clear s) := by
  unfold ownReadChannel
  repeat' split
  all_goals simp

theorem refusalKeeps_resume : RefusalKeeps s (ownResume s) := by
  unfold ownResume
  repeat' split
  all_goals simp

theorem refusalKeeps_setAddress (address group : Byte) : RefusalKeeps s (ownSetAddress address group s) := by
  unfold ownSetAddress
  repeat' split
  all_goals simp

theorem refusalKeeps_clearEvents (mask : Mask) : RefusalKeeps s (ownClearEvents mask s) := by
  unfold ownClearEvents
  repeat' split
  all_goals simp

theorem refusalKeeps_setAttention (mask : Mask) (mode : Byte) (interval : Half) :
    RefusalKeeps s (ownSetAttention mask mode interval s) := by
  unfold ownSetAttention
  split
  · exact refusalKeeps_clamped s _ _ _ _ _ rfl rfl
  · simp

/-- Every owner refuses a request before its step. -/
theorem refusalKeeps_serve (r : Request) : RefusalKeeps s (serve r s) := by
  cases r with
  | setZone | setChannel | setLine => exact refusalKeeps_takeEdit ..
  | setProfile => exact refusalKeeps_setProfile ..
  | readMap => exact refusalKeeps_readMap ..
  | mapAccess => exact refusalKeeps_mapAccess ..
  | defineProgram => exact refusalKeeps_defineProgram ..
  | readProgram => exact refusalKeeps_readProgram ..
  | freeze slot => exact (refusalKeeps_slotRequests s slot).1
  | withdraw slot => exact (refusalKeeps_slotRequests s slot).2.1
  | reinstate slot => exact (refusalKeeps_slotRequests s slot).2.2.1
  | erase slot => exact (refusalKeeps_slotRequests s slot).2.2.2
  | setSpeed => exact refusalKeeps_clamped s _ _ _ _ _ rfl rfl
  | readPosition => exact refusalKeeps_readPosition ..
  | announce => exact refusalKeeps_announce ..
  | cancelAnnouncement => exact refusalKeeps_cancel ..
  | lookup => exact refusalKeeps_lookup ..
  | amend => exact refusalKeeps_amend ..
  | identify => exact refusalKeeps_identify ..
  | place => exact refusalKeeps_place ..
  | retire => exact refusalKeeps_retire ..
  | walkFirst | walkNext => exact refusalKeeps_answerWalk ..
  | readQueue | readFaults | readEvents | halt | resetLine | readLink => exact refusalKeeps_accept ..
  | enableZone => exact refusalKeeps_enableZone ..
  | disableZone => exact refusalKeeps_disableZone ..
  | readZone => exact refusalKeeps_readZone ..
  | readChannel => exact refusalKeeps_readChannel ..
  | resume => exact refusalKeeps_resume s
  | setAddress => exact refusalKeeps_setAddress ..
  | clearEvents => exact refusalKeeps_clearEvents ..
  | setAttention => exact refusalKeeps_setAttention ..

end

/-- Settles O7: a refused request's owner answers without a step. -/
theorem refusedRequestLeavesThePart : Obligations.RefusedRequestLeavesThePart := by
  intro r s refused
  obtain ⟨same, empty⟩ := (refusalKeeps_serve s r).kept refused
  refine ⟨same, empty, fun addr h => ?_⟩
  rw [exec_eq_answered h, answered, same, empty]

end Sys2Proof.Machine

/-! The plant link, continued: what becomes of a frame by its address, and what characters and breaks do. -/

namespace Sys2Proof.Machine

/-! ### By address (R169 to R171) -/

section
variable {s : State} {addr code : Byte} {payload : List Byte}

theorem addressing_own (own : addr.toNat = s.link.station) : s.addressing addr = .own := if_pos own

theorem addressing_group (foreign : addr.toNat ≠ s.link.station)
    (group : addr = 0xFF ∨ ∃ g, s.map.line.group = some g ∧ addr.toNat = 0xF0 + g.val) : s.addressing addr = .group := by
  rw [State.addressing, if_neg foreign]
  rcases group with broadcast | ⟨g, inForce, is⟩
  · exact if_pos broadcast
  · split
    · rfl
    · rw [inForce]
      exact if_pos is

theorem addressing_other (foreign : addr.toNat ≠ s.link.station) (notAll : addr ≠ 0xFF)
    (noGroup : ∀ g, s.map.line.group = some g → addr.toNat ≠ 0xF0 + g.val) : s.addressing addr = .other := by
  rw [State.addressing, if_neg foreign, if_neg notAll]
  split
  · rename_i g inForce
    exact if_neg (noGroup g inForce)
  · rfl

/-- R171: a frame that ends with nothing to send leaves a receiver in HUNT as it was. -/
theorem endFrame_hunting {t : State} (hunting : t.link.receiver = .hunt) : endFrame t = t := by
  rw [endFrame, State.withReceiver, ← hunting]
  rfl

theorem endFrame_countMisuse (hunting : s.link.receiver = .hunt) : (endFrame (countMisuse s)).heard = { s with
    link := { s.link with
      groupMisuse := min 255 (s.link.groupMisuse + 1), lineBreak := s.link.lineBreak.afterCharacter }
    attn := s.attn.raiseFlag .link } := by
  have still : (countMisuse s).link.receiver = .hunt := hunting
  rw [endFrame_hunting still]
  rfl

theorem endFrame_countCrc (hunting : s.link.receiver = .hunt) : (endFrame (countCrc s)).heard = { s with
    link := { s.link with
      crcErrors := min 255 (s.link.crcErrors + 1), lineBreak := s.link.lineBreak.afterCharacter }
    attn := s.attn.raiseFlag .link } := by
  have still : (countCrc s).link.receiver = .hunt := hunting
  rw [endFrame_hunting still]
  rfl

/-- R169: in HUNT, a whole frame's command is its judgement, its characters heard. -/
theorem exec_completeFrame_hunting {frame : List Byte} (whole : wholeLinkFrame frame = true) (awake : s.inReset = false)
    (hunting : s.link.receiver = .hunt) : exec (.completeFrame frame) s = .next (judgeFrame frame s).heard := by
  rw [exec_completeFrame whole]
  refine (next_awake awake _).trans (congrArg _ ?_)
  rw [arriving, hunting]

/-- R169: the frame of a code and a payload, judged in HUNT. -/
theorem exec_linkFrame (short : payload.length ≤ 249) (awake : s.inReset = false) (hunting : s.link.receiver = .hunt) :
    exec (.completeFrame (linkFrame (addr :: byteOf (payload.length + 1) :: code :: payload))) s
      = .next (if 128 ≤ code.toNat then endFrame s
          else takeParsed addr code (parseRequest code payload) s).heard := by
  rw [exec_completeFrame_hunting (wholeLinkFrame_linkFrame (byteOf_toNat (by omega)) short) awake hunting,
    judgeFrame_linkFrame]

theorem judgeFrame_badCrc {frame : List Byte} (whole : wholeLinkFrame frame = true)
    (bad : crcGood frame.tail = false) : judgeFrame frame s = endFrame (countCrc s) := by
  match frame, whole with
  | start :: address :: length :: rest, whole =>
    cases rest with
    | nil => simp [wholeLinkFrame] at whole
    | cons code rest =>
      rw [judgeFrame, bad]
      rfl

end

/-- Settles O8: the address decides between the owner's answer, the group's step or misuse, and nothing. -/
theorem addressDecides : Obligations.AddressDecides := by
  refine ⟨fun r addr s => ⟨fun h => ?_, fun h taken => ?_, fun h taken => ?_, fun awake hunting foreign notAll noGroup => ?_⟩,
    fun addr code payload s short awake hunting => ⟨fun frame whole bad => ?_, fun high => ?_,
      fun low foreign notAll noGroup => ?_, fun low h unknown => ?_, fun low h badLength => ?_, fun low h none => ?_⟩⟩
  · have command := exec_eq_answered h r
    exact ⟨command, ((frameCarriesItsRequest addr r).2.2 s).trans command⟩
  · refine ⟨_, exec_hunting h.awake h.hunting addr r, ?_⟩
    rw [deliver, addressing_group h.foreign h.group]
    simp only [takeGroup, taken, if_true]
    rw [endFrame_hunting ((serve_keeps r s).1.trans h.hunting)]
  · rw [exec_hunting h.awake h.hunting, deliver, addressing_group h.foreign h.group]
    simp only [takeGroup, taken]
    exact congrArg _ (endFrame_countMisuse h.hunting)
  · rw [exec_hunting awake hunting, deliver, addressing_other foreign notAll noGroup]
    exact congrArg (fun t => Host.Outcome.next (State.heard t)) (endFrame_hunting hunting)
  · rw [exec_completeFrame_hunting whole awake hunting, judgeFrame_badCrc whole bad, endFrame_countCrc hunting]
  · rw [exec_linkFrame short awake hunting, if_pos high, endFrame_hunting hunting]
  · rw [exec_linkFrame short awake hunting, if_neg (by omega)]
    have other := addressing_other foreign notAll noGroup
    refine congrArg (fun t => Host.Outcome.next (State.heard t)) ?_
    cases parseRequest code payload with
    | unknownRequest => rw [takeParsed, rejectUnparsed, other]; exact endFrame_hunting hunting
    | badLength => rw [takeParsed, rejectUnparsed, other]; exact endFrame_hunting hunting
    | request r => rw [takeParsed, deliver, other]; exact endFrame_hunting hunting
  · rw [exec_linkFrame short awake hunting, if_neg (by omega), unknown, takeParsed, rejectUnparsed, addressing_own h.own]
    rfl
  · rw [exec_linkFrame short awake hunting, if_neg (by omega), badLength, takeParsed, rejectUnparsed, addressing_own h.own]
    rfl
  · rw [exec_linkFrame short awake hunting, if_neg (by omega)]
    have group := addressing_group h.foreign h.group
    refine congrArg Host.Outcome.next ?_
    cases parsed : parseRequest code payload with
    | unknownRequest => rw [takeParsed, rejectUnparsed, group]; exact endFrame_countMisuse hunting
    | badLength => rw [takeParsed, rejectUnparsed, group]; exact endFrame_countMisuse hunting
    | request r => exact absurd parsed (none r)

/-! ### Characters (R162) -/

/-- R162: the parity of a character's data bits decides its parity bit. -/
theorem parityError_iff (c : Character) : parityError c = true ↔ (onesIn c.data + c.parity.toNat) % 2 = 1 := by
  rw [parityError, beq_iff_eq]

theorem parityBit_toNat (n : Nat) : (n % 2 == 1).toNat = n % 2 := by
  rcases Nat.mod_two_eq_zero_or_one n with even | odd
  · rw [even]; rfl
  · rw [odd]; rfl

theorem toNat_not (x : Bool) : (!x).toNat = 1 - x.toNat := by cases x <;> rfl

theorem parityError_characterOf (b : Byte) : parityError (characterOf b) = false := by
  rw [← Bool.not_eq_true, parityError_iff]
  dsimp only [characterOf]
  rw [parityBit_toNat]
  omega

theorem parityError_flippedParity (b : Byte) :
    parityError { characterOf b with parity := !(characterOf b).parity } = true := by
  rw [parityError_iff]
  dsimp only [characterOf]
  rw [toNat_not, parityBit_toNat]
  omega

theorem onesIn_eq (b : Byte) : onesIn b = ∑ k : Fin 8, (b.getLsbD k).toNat := by
  have one (p : Bool) : (if p = true then 1 else 0) = p.toNat := by cases p <;> rfl
  simp only [onesIn, List.range_succ, List.range_zero, List.nil_append, List.countP_append, List.countP_cons,
    List.countP_nil, Nat.zero_add, one, Fin.sum_univ_eight]
  rfl

/-- R162: one data bit changed changes the parity of the ones. -/
theorem onesIn_flip (b : Byte) (i : Fin 8) : onesIn (b ^^^ (1#8 <<< i.val)) % 2 = (onesIn b + 1) % 2 := by
  have bit (k : Fin 8) : (1#8 <<< i.val).getLsbD k = decide (k = i) := by revert i k; decide
  have here : ((b ^^^ (1#8 <<< i.val)).getLsbD i).toNat = 1 - (b.getLsbD i).toNat := by
    rw [BitVec.getLsbD_xor, bit, decide_eq_true rfl, Bool.xor_true, toNat_not]
  have others : ∀ k ∈ Finset.univ.erase i, ((b ^^^ (1#8 <<< i.val)).getLsbD k).toNat = (b.getLsbD k).toNat :=
    fun k mem => by rw [BitVec.getLsbD_xor, bit, decide_eq_false (Finset.ne_of_mem_erase mem), Bool.xor_false]
  have small := Bool.toNat_le (b.getLsbD i)
  rw [onesIn_eq, onesIn_eq, ← Finset.add_sum_erase _ _ (Finset.mem_univ i), Finset.sum_congr rfl others, here,
    ← Finset.add_sum_erase (a := i) _ (fun k : Fin 8 => (b.getLsbD k).toNat) (Finset.mem_univ i)]
  omega

theorem parityError_flippedData (b : Byte) (i : Fin 8) :
    parityError { characterOf b with data := b ^^^ (1#8 <<< i.val) } = true := by
  have flipped := onesIn_flip b i
  rw [parityError_iff]
  dsimp only [characterOf]
  rw [parityBit_toNat]
  omega

/-- R162: the levels of a character: its start bit, its data, its parity bit and its stop bit. -/
theorem lineLevels_countP (b : Byte) : (lineLevels (characterOf b)).countP (fun x => x) % 2 = 1 := by
  have parity := parityBit_toNat (onesIn b)
  simp only [lineLevels, characterOf, List.cons_append, List.countP_cons, List.countP_append, List.countP_map,
    List.countP_nil]
  have ones : (List.range 8).countP ((fun x => x) ∘ fun i => b.getLsbD i) = onesIn b := rfl
  have bit (p : Bool) : (if p = true then 1 else 0) = p.toNat := by cases p <;> rfl
  rw [ones, bit, parity, if_neg Bool.false_ne_true, if_pos trivial]
  omega

theorem goodCharacter_characterOf (b : Byte) : goodCharacter (characterOf b) = true := by
  rw [goodCharacter, parityError_characterOf]
  rfl

/-! ### The receiver in FRAME (R166 to R168) -/

section
variable {s : State}

theorem exec_character (awake : s.inReset = false) (c : Character) :
    exec (characterCommand c) s = .next (receiveCharacter c s) := next_awake awake _

theorem receiveCharacter_frame {got : List Byte} (framing : s.link.receiver = .frame got) (c : Character) :
    receiveCharacter c s = frameCharacter got c s := by
  rw [receiveCharacter, framing]

theorem receiveCharacter_hunt (hunting : s.link.receiver = .hunt) (c : Character) :
    receiveCharacter c s = huntCharacter c s := by
  rw [receiveCharacter, hunting]

theorem receiveCharacter_reply {r : Reply} {sending counted : Bool}
    (replying : s.link.receiver = .reply r sending counted) (c : Character) : receiveCharacter c s = overrunNow s := by
  rw [receiveCharacter, replying]

/-- R167: the frame dropped, and what is kept of a break. -/
def State.dropped (s : State) (kept : LineBreak) : State :=
  { s with
    link := { s.link with
      receiver := .hunt, framingErrors := min 255 (s.link.framingErrors + 1), lineBreak := kept }
    attn := s.attn.raiseFlag .link }

theorem abandonFrame_eq (s : State) : abandonFrame s = s.dropped s.link.lineBreak := rfl

theorem afterStopError_eq (b : LineBreak) : b.afterStopError = if b = .counted then .counted else .begun := by
  cases b <;> rfl

theorem afterCharacter_eq (b : LineBreak) : b.afterCharacter = if b = .begun then .clear else b := by
  cases b <;> rfl

theorem abandonOnBreak_eq (s : State) :
    abandonOnBreak s = s.dropped (if s.link.lineBreak = .counted then .counted else .begun) := by
  rw [← afterStopError_eq]
  rfl

/-- R166, R167: a third character that is no length. -/
theorem badLengthCharacter_append {got : List Byte} {b : Byte} (two : got.length = 2)
    (bad : b.toNat = 0 ∨ 251 ≤ b.toNat) : badLengthCharacter (got ++ [b]) = true := by
  match got, two with
  | [x, y], _ => simpa [badLengthCharacter] using bad

end

/-- Settles O9: each cause in FRAME, with what it leaves kept of a break. -/
theorem frameIsAbandoned : Obligations.FrameIsAbandoned := by
  intro got s awake framing dropped perhaps
  have character (c : Character) : exec (characterCommand c) s = .next (frameCharacter got c s) :=
    (exec_character awake c).trans (congrArg _ (receiveCharacter_frame framing c))
  refine ⟨?_, fun cause => ?_, ?_, fun data parity => ?_, fun c noStop noParity => ?_, fun b two bad => ?_⟩
  · refine (next_awake awake (gapExpires s)).trans (congrArg _ ?_)
    rw [gapExpires, framing]
    exact abandonFrame_eq s
  · refine (next_awake awake (abandonFor cause s)).trans (congrArg _ ?_)
    unfold abandonFor
    cases cause with
    | stopError => rw [framing]; exact abandonOnBreak_eq s
    | breakBegins => rw [framing]; exact abandonOnBreak_eq s
    | parityError => rw [framing]; exact abandonFrame_eq s
    | badLength => rw [framing]; exact abandonFrame_eq s
  · refine (next_awake awake (breakReached s)).trans (congrArg _ ?_)
    rw [breakReached, countBreak, framing]
    rfl
  · refine (character ⟨data, parity, false⟩).trans (congrArg _ ?_)
    exact abandonOnBreak_eq s
  · refine (character c).trans (congrArg _ ?_)
    rw [frameCharacter, noStop, noParity]
    exact abandonFrame_eq s
  · refine (character (characterOf b)).trans (congrArg _ ?_)
    rw [frameCharacter, parityError_characterOf, takeIntoFrame,
      if_pos (badLengthCharacter_append two (b := (characterOf b).data) bad)]
    exact abandonFrame_eq s

/-- R172: the overrun counted before the reply has begun. -/
theorem overrunNow_first {s : State} {r : Reply} (waiting : s.link.receiver = .reply r false false) :
    overrunNow s = { s with
      link := { s.link with receiver := .reply r false true, overruns := min 255 (s.link.overruns + 1) }
      attn := s.attn.raiseFlag .link } := by
  rw [overrunNow, waiting]
  rfl

theorem overrunNow_later {s : State} {r : Reply} {counted : Bool}
    (later : s.link.receiver = .reply r false true ∨ s.link.receiver = .reply r true counted) : overrunNow s = s := by
  rcases later with once | sending
  · rw [overrunNow, once]
  · rw [overrunNow, sending]

theorem withLineBreak_self {s : State} {b : LineBreak} (kept : s.link.lineBreak = b) : s.withLineBreak b = s := by
  rw [State.withLineBreak, ← kept]
  rfl

/-- R168: a break in HUNT or REPLY that has been counted. -/
theorem countBreak_counted {s : State} (already : s.link.lineBreak = .counted)
    (notFrame : ∀ got, s.link.receiver ≠ .frame got) : countBreak s = s := by
  unfold countBreak
  rw [already]
  cases receiver : s.link.receiver with
  | hunt => rfl
  | frame got => exact absurd receiver (notFrame got)
  | reply r sending counted => rfl

theorem countBreak_reply {s : State} {r : Reply} {sending counted : Bool} (fresh : s.link.lineBreak ≠ .counted)
    (replying : s.link.receiver = .reply r sending counted) : countBreak s = overrunNow s := by
  unfold countBreak
  rw [replying]
  cases kept : s.link.lineBreak with
  | counted => exact absurd kept fresh
  | clear => rfl
  | begun => rfl

/-- R172: after the first overrun, and while the reply is sent, a break changes nothing but what is kept of it. -/
theorem countBreak_later {s : State} {r : Reply} {counted : Bool}
    (later : s.link.receiver = .reply r false true ∨ s.link.receiver = .reply r true counted) : countBreak s = s := by
  have replying : ∃ sending counted, s.link.receiver = .reply r sending counted :=
    later.elim (fun h => ⟨_, _, h⟩) fun h => ⟨_, _, h⟩
  obtain ⟨sending, once, replying⟩ := replying
  by_cases already : s.link.lineBreak = .counted
  · exact countBreak_counted already fun got frame => by rw [replying] at frame; cases frame
  · rw [countBreak_reply already replying, overrunNow_later later]

/-- Settles O10: each state of the receiver, and each thing that can come. -/
theorem charactersAndBreaks : Obligations.CharactersAndBreaks := by
  refine ⟨fun b => ⟨rfl, parityError_characterOf b, rfl, ⟨(characterOf b).parity, rfl, lineLevels_countP b⟩,
      parityError_flippedParity b, parityError_flippedData b⟩, fun r => ⟨rfl, rfl⟩, fun s => ?_, fun s awake => ?_⟩
  · unfold State.linkDe
    split
    · rename_i r counted sending
      simp [sending]
    · rename_i other
      simp only [Bool.false_eq_true, false_iff]
      rintro ⟨-, r, counted, sending⟩
      exact other r counted sending
  · intro keeping heard
    have heardIs : s.link.lineBreak.afterCharacter = heard := afterCharacter_eq _
    have character (c : Character) : exec (characterCommand c) s = .next (receiveCharacter c s) := exec_character awake c
    have broken : exec .lineBreak s = .next (breakReached s) := next_awake awake _
    have overrun : exec .overrun s = .next (overrunNow s) := next_awake awake _
    refine ⟨fun hunting => ⟨?_, fun c bad => ?_, fun clear => ?_, fun begun => ?_⟩,
      fun got b framing some good => ?_, fun already notFrame => ?_, ?_, fun r counted =>
      ⟨fun waiting => ⟨?_, fun data parity stop => ?_, fun fresh => ?_⟩,
        fun later => ⟨?_, fun data parity stop => ?_, ?_⟩, fun waiting => ?_, fun sending => ?_⟩⟩
    · rw [character, receiveCharacter_hunt hunting, huntCharacter, goodCharacter_characterOf, ← heardIs]
      rfl
    · rw [character, receiveCharacter_hunt hunting, huntCharacter, ← heardIs]
      rw [if_neg ?_]
      · rfl
      · rintro good
        simp only [goodCharacter, Bool.and_eq_true, Bool.not_eq_true', beq_iff_eq] at good
        obtain ⟨⟨noParity, noStop⟩, start⟩ := good
        rcases bad with other | parity | stop
        · exact other start
        · rw [noParity] at parity
          cases parity
        · rw [noStop] at stop
          cases stop
    · have counts : countBreak s = countFraming s := by
        unfold countBreak
        rw [hunting, clear]
      rw [broken, breakReached, counts]
      rfl
    · have counts : countBreak s = s := by
        unfold countBreak
        rw [hunting, begun]
      rw [broken, breakReached, counts]
      rfl
    · rw [character, receiveCharacter_frame framing, frameCharacter, parityError_characterOf, takeIntoFrame]
      have same : (characterOf b).data = b := rfl
      rw [same, good, some]
      rfl
    · rw [broken, breakReached, countBreak_counted already notFrame, withLineBreak_self already]
    · exact next_awake awake _
    · rw [overrun, overrunNow_first waiting]
    · exact (character ⟨data, parity, stop⟩).trans
        (by rw [receiveCharacter_reply waiting, overrunNow_first waiting])
    · rw [broken, breakReached, countBreak_reply fresh waiting, overrunNow_first waiting]
      rfl
    · rw [overrun, overrunNow_later later]
    · refine (character ⟨data, parity, stop⟩).trans (congrArg _ ?_)
      rcases later with once | begun
      · rw [receiveCharacter_reply once, overrunNow_later (counted := false) (.inl once)]
      · rw [receiveCharacter_reply begun, overrunNow_later (.inr begun)]
    · rw [broken, breakReached, countBreak_later later]
      rfl
    · refine (next_awake awake (turnaroundEnds s)).trans (congrArg _ ?_)
      rw [turnaroundEnds, waiting]
      rfl
    · refine (next_awake awake (replyHasGone s)).trans (congrArg _ ?_)
      rw [replyHasGone, sending]
      rfl

end Sys2Proof.Machine

/-! A whole frame taken character by character (R165, R166). -/

namespace Sys2Proof.Machine

/-- A run begins with its first step. -/
theorem run_next {M : Host.Core} {n : Nat} {s t : M.State} (stepped : M.step s = .next t) :
    M.run (n + 1) s = M.run n t := by
  rw [Host.Core.run, stepped]

theorem core_run_next {n : Nat} {s t : State} (stepped : step s = .next t) :
    Sys2Proof.core.run (n + 1) s = Sys2Proof.core.run n t := run_next (M := Sys2Proof.core) stepped

section
variable {frame : List Byte}

theorem wholeLinkFrame_iff : wholeLinkFrame frame = true ↔ ∃ address length rest,
    frame = 0xC3 :: address :: length :: rest ∧ 1 ≤ length.toNat ∧ length.toNat ≤ 250 ∧ rest.length = length.toNat + 2 := by
  constructor
  · intro whole
    match frame, whole with
    | start :: address :: length :: rest, whole =>
      simp only [wholeLinkFrame, Bool.and_eq_true, beq_iff_eq, decide_eq_true_eq] at whole
      obtain ⟨⟨⟨rfl, low⟩, high⟩, size⟩ := whole
      exact ⟨address, length, rest, rfl, low, high, size⟩
  · rintro ⟨address, length, rest, rfl, low, high, size⟩
    simp [wholeLinkFrame, low, high, size]

/-- R167: no beginning of a whole frame has a bad length character. -/
theorem badLengthCharacter_prefix (whole : wholeLinkFrame frame = true) {got rest : List Byte}
    (split : got ++ rest = frame) : badLengthCharacter got = false := by
  obtain ⟨address, length, tail, rfl, low, high, -⟩ := wholeLinkFrame_iff.1 whole
  match got, split with
  | [], _ | [_], _ | [_, _], _ | _ :: _ :: _ :: _ :: _, _ => rfl
  | [_, _, l], split =>
    simp only [List.cons_append, List.nil_append, List.cons.injEq] at split
    obtain ⟨-, -, rfl, -⟩ := split
    have notZero : l.toNat ≠ 0 := by omega
    have small : ¬ 251 ≤ l.toNat := by omega
    rw [badLengthCharacter, decide_eq_false notZero, decide_eq_false small]
    rfl

/-- R166: a beginning of a whole frame is complete exactly when it is all of it. -/
theorem frameComplete_prefix (whole : wholeLinkFrame frame = true) {got rest : List Byte}
    (split : got ++ rest = frame) : frameComplete got = rest.isEmpty := by
  obtain ⟨address, length, tail, rfl, -, -, size⟩ := wholeLinkFrame_iff.1 whole
  match got, split with
  | [], split | [_], split | [_, _], split =>
    cases rest with
    | nil => simp at split
    | cons b rest => rfl
  | _ :: _ :: l :: got, split =>
    simp only [List.cons_append, List.cons.injEq] at split
    obtain ⟨-, -, rfl, together⟩ := split
    have lengths := congrArg List.length together
    rw [List.length_append, size] at lengths
    rw [frameComplete, Bool.eq_iff_iff, beq_iff_eq, List.isEmpty_iff, ← List.length_eq_zero_iff]
    omega

/-- R166: the rest of a frame is taken into it, and on the last character the frame is judged. -/
theorem run_frame (whole : wholeLinkFrame frame = true) (rest : List Byte) (got : List Byte) (s : State)
    (awake : s.inReset = false) (framing : s.link.receiver = .frame got) (split : got ++ rest = frame)
    (more : rest ≠ []) :
    Sys2Proof.core.run rest.length { s with pending := rest.map fun b => characterCommand (characterOf b) }
      = .next (judgeFrame frame (({ s with pending := [] } : State).withReceiver (.frame frame.dropLast))) := by
  induction rest generalizing got s with
  | nil => exact absurd rfl more
  | cons b rest ih =>
    have split' : (got ++ [b]) ++ rest = frame := by rw [List.append_assoc]; exact split
    let u : State := { s with pending := rest.map fun b => characterCommand (characterOf b) }
    have taken : frameCharacter got (characterOf b) u = takeIntoFrame (got ++ [b]) u := by
      rw [frameCharacter, parityError_characterOf]
      rfl
    have stepped : step { s with pending := (b :: rest).map fun b => characterCommand (characterOf b) }
        = .next (takeIntoFrame (got ++ [b]) u) := by
      rw [← taken, ← receiveCharacter_frame (s := u) framing]
      exact exec_character (s := u) awake (characterOf b)
    rw [List.length_cons, core_run_next stepped, takeIntoFrame, badLengthCharacter_prefix whole split', frameComplete_prefix whole split']
    cases rest with
    | nil =>
      rw [List.append_nil] at split'
      have before : got = frame.dropLast := by rw [← split', List.dropLast_concat]
      have same : u = ({ s with pending := [] } : State).withReceiver (.frame frame.dropLast) := by
        rw [← before, ← framing]
        rfl
      rw [← same, split']
      rfl
    | cons c rest =>
      exact ih (got ++ [b]) (s.withReceiver (.frame (got ++ [b]))) awake rfl split' (List.cons_ne_nil _ _)

end

/-- Settles O6: the start byte opens the frame, and the rest of it is taken into it. -/
theorem charactersMakeTheFrame : Obligations.CharactersMakeTheFrame := by
  intro frame s whole awake hunting
  obtain ⟨address, length, rest, rfl, -⟩ := wholeLinkFrame_iff.1 whole
  let left := address :: length :: rest
  let u : State := { s with pending := left.map fun b => characterCommand (characterOf b) }
  have opened : huntCharacter (characterOf 0xC3) u = u.heard.withReceiver (.frame [0xC3]) := by
    rw [huntCharacter, goodCharacter_characterOf]
    rfl
  have stepped : step { s with pending := (0xC3 :: left).map fun b => characterCommand (characterOf b) }
      = .next (u.heard.withReceiver (.frame [0xC3])) := by
    rw [← opened, ← receiveCharacter_hunt (s := u) hunting]
    exact exec_character (s := u) awake (characterOf 0xC3)
  rw [List.length_cons, core_run_next stepped]
  exact run_frame whole left [0xC3] (s.heard.withReceiver (.frame [0xC3])) awake rfl rfl (List.cons_ne_nil _ _)

end Sys2Proof.Machine

/-! Requests to the Line Map and requests that read: their refusals in order and what stands in their replies. -/

namespace Sys2Proof.Machine

section
variable {s t : State} {addr : Byte} {r : Request}

/-- R173: a request that its owner refuses. -/
theorem exec_refused {x : Result} (h : Listening s addr) (owner : serve r s = refuse s x) :
    exec (requestCommand addr r) s = .next (s.answering addr (requestCode r) x []) := by
  rw [exec_eq_answered h, owner, answered_refuse]

/-- R170, R173: a request that its owner takes. -/
theorem exec_accepted {payload : List Byte} (h : Listening s addr) (owner : serve r s = accept t payload) :
    exec (requestCommand addr r) s = .next (t.answering addr (requestCode r) .accepted payload) := by
  rw [exec_eq_answered h, owner, answered_accept]

/-! ### The map access state (R11, R14, R15) -/

theorem accessRefusal_locked (locked : s.map.access = .locked) : s.accessRefusal = some .mapLocked := by
  rw [State.accessRefusal, locked]

theorem accessRefusal_closed (closed : s.map.access = .closed) (inUse : ∃ z : Fin 16, s.zones[z].state ≠ .disabled) :
    s.accessRefusal = some .mapClosed := by
  obtain ⟨z, enabled⟩ := inUse
  have some : zoneNumbers.any s.inService = true :=
    List.any_eq_true.2 ⟨z, List.mem_finRange z, by rw [State.inService, bne_iff_ne]; exact enabled⟩
  rw [State.accessRefusal, closed]
  exact if_pos some

theorem accessRefusal_open
    (admits : s.map.access = .opened ∨ (s.map.access = .closed ∧ ∀ z : Fin 16, s.zones[z].state = .disabled)) :
    s.accessRefusal = none := by
  rcases admits with opened | ⟨closed, disabled⟩
  · rw [State.accessRefusal, opened]
  · have none : ¬ zoneNumbers.any s.inService = true := by
      rw [List.any_eq_true]
      rintro ⟨z, -, inService⟩
      rw [State.inService, disabled z] at inService
      cases inService
    rw [State.accessRefusal, closed]
    exact if_neg none

/-- R17: SET ZONE, SET CHANNEL and SET LINE are edits of the map. -/
theorem serve_mapEdit {edit : Option LineMap} (carried : s.mapEdit r = some edit) : serve r s = takeEdit edit s := by
  cases r with
  | setZone f => obtain rfl := Option.some.inj carried; rfl
  | setChannel c iF iR => obtain rfl := Option.some.inj carried; rfl
  | setLine f => obtain rfl := Option.some.inj carried; rfl
  | _ => cases carried

theorem takeEdit_access {x : Result} (refused : s.accessRefusal = some x) (edit : Option LineMap) :
    takeEdit edit s = refuse s x := by
  unfold takeEdit
  rw [refused]

theorem ownSetProfile_access {x : Result} (refused : s.accessRefusal = some x) (f : ProfileFields) :
    ownSetProfile f s = refuse s x := by
  rw [ownSetProfile, refused]

/-- R19, R21: the ranges of a profile's fields, with φ below T and the validity condition. -/
def ProfileRanges (f : ProfileFields) : Prop :=
  let period := f.tF.toNat + f.tO1.toNat + f.tR.toNat + f.tO2.toNat
  f.profile.toNat ≤ 7 ∧ 10 ≤ f.tF.toNat ∧ f.tF.toNat ≤ 2000 ∧ f.tO1.toNat ≤ 100
    ∧ f.tR.toNat ≤ 200 ∧ f.tO2.toNat ≤ 100 ∧ 100 ≤ f.rho.toNat ∧ f.rho.toNat ≤ 500 ∧ f.phi.toNat < period
    ∧ f.rho.toNat * f.tR.toNat + 5 * period ≤ 100 * f.tF.toNat

theorem indexOf_some {n : Nat} {b : Byte} {i : Fin n} (h : indexOf n b = some i) : b.toNat = i.val ∧ b.toNat < n := by
  unfold indexOf at h
  split at h
  · obtain rfl := Option.some.inj h
    exact ⟨rfl, ‹_›⟩
  · cases h

theorem profileOf_ranges {f : ProfileFields} {v : Fin 8 × Profile} (h : profileOf f = some v) : ProfileRanges f := by
  simp only [profileOf, Option.bind_eq_bind, Option.bind_eq_some_iff, inRange_eq_some_iff,
    Option.ite_none_right_eq_some] at h
  obtain ⟨i, index, _, ⟨⟨tFlow, tFhigh⟩, rfl⟩, _, ⟨⟨-, tO1high⟩, rfl⟩, _, ⟨⟨-, tRhigh⟩, rfl⟩, _, ⟨⟨-, tO2high⟩, rfl⟩, _,
    ⟨⟨rhoLow, rhoHigh⟩, rfl⟩, ⟨phi, valid⟩, -⟩ := h
  have below := (indexOf_some index).2
  simp only [Profile.period, Profile.net] at phi valid
  refine ⟨by omega, tFlow, tFhigh, tO1high, tRhigh, tO2high, rhoLow, rhoHigh, phi, ?_⟩
  push_cast at valid
  zify
  omega

/-- R21: a profile whose fields are in their ranges is stored as it is carried. -/
theorem profileOf_eq {f : ProfileFields} {i : Fin 8} (index : f.profile = byteOf i) (ranges : ProfileRanges f) :
    profileOf f = some (i, { isSet := true, tF := f.tF.toNat, tO1 := f.tO1.toNat, tR := f.tR.toNat, tO2 := f.tO2.toNat,
                             rho := f.rho.toNat, phi := f.phi.toNat }) := by
  obtain ⟨-, tFlow, tFhigh, tO1high, tRhigh, tO2high, rhoLow, rhoHigh, phi, valid⟩ := ranges
  simp only [profileOf, index, indexOf_byteOf (n := 8) (by decide), inRange_eq_some tFlow tFhigh,
    inRange_eq_some (Nat.zero_le _) tO1high, inRange_eq_some (Nat.zero_le _) tRhigh,
    inRange_eq_some (Nat.zero_le _) tO2high, inRange_eq_some rhoLow rhoHigh, Option.bind_eq_bind, Option.bind_some]
  refine if_pos ⟨phi, ?_⟩
  simp only [Profile.period, Profile.net]
  zify at valid
  push_cast
  omega

theorem ownSetProfile_outOfRange {f : ProfileFields} (open' : s.accessRefusal = none) (bad : ¬ ProfileRanges f) :
    ownSetProfile f s = refuse s .badValue := by
  have noProfile : profileOf f = none := Option.eq_none_iff_forall_ne_some.2 fun _ some => bad (profileOf_ranges some)
  rw [ownSetProfile, open', noProfile]

end

/-- Settles O12: the map access state decides first, then the fields, the running zones and the live records, and the
validity of the map. -/
theorem mapEditIsRefused : Obligations.MapEditIsRefused := by
  refine ⟨fun addr r edit s h carried => ?_, fun addr f s h => ?_⟩
  · have owner := serve_mapEdit carried
    refine ⟨fun locked => exec_refused h (owner.trans (takeEdit_access (accessRefusal_locked locked) edit)),
      fun closed inUse => exec_refused h (owner.trans (takeEdit_access (accessRefusal_closed closed inUse) edit)),
      fun admits => ?_⟩
    have access := accessRefusal_open admits
    refine ⟨fun none => exec_refused h (owner.trans ?_), fun m some => ⟨fun running => exec_refused h (owner.trans ?_),
      fun kept invalid => exec_refused h (owner.trans ?_)⟩⟩
    · rw [none, takeEdit, access]
    · simp only [some, takeEdit, access, running]
      rfl
    · simp only [some, takeEdit, access, kept, invalid]
      rfl
  · have refused {x : Result} (owner : ownSetProfile f s = refuse s x) :
        exec (.setProfile addr f) s = .next (s.answering addr 0x04 x []) := exec_refused (r := .setProfile f) h owner
    exact ⟨fun locked => refused (ownSetProfile_access (accessRefusal_locked locked) f),
      fun closed inUse => refused (ownSetProfile_access (accessRefusal_closed closed inUse) f),
      fun admits bad => refused (ownSetProfile_outOfRange (accessRefusal_open admits) bad)⟩

/-- Settles O13: the operation and the map access state decide. -/
theorem mapAccessRequest : Obligations.MapAccessRequest := by
  intro addr s h becomes locked
  have command (op : Byte) := exec_eq_answered h (.mapAccess op)
  refine ⟨(command 0).trans ?_, (command 1).trans ?_, (command 2).trans ?_, fun op above => (command op).trans ?_⟩
  · cases access : s.map.access <;> simp only [serve, ownMapAccess, access] <;> rfl
  · cases access : s.map.access <;> simp only [serve, ownMapAccess, access] <;> rfl
  · cases access : s.map.access <;> simp only [serve, ownMapAccess, access] <;> rfl
  · have refused : ownMapAccess op s = refuse s .badValue := by
      unfold ownMapAccess
      split <;> simp_all
    rw [serve, refused]
    rfl

/-! ### A locked map (R15) -/

/-- R15: the map stays as it is, but for the group number and a map access state that is not LOCKED. -/
structure MapKept (s t : State) : Prop where
  access : s.map.access = .locked → t.map.access = .locked
  zones : t.map.zones = s.map.zones
  channels : t.map.channels = s.map.channels
  profiles : t.map.profiles = s.map.profiles
  line : t.map.line = { s.map.line with group := t.map.line.group }

theorem MapKept.of_map {s t : State} (same : t.map = s.map) : MapKept s t :=
  ⟨fun locked => by rw [same]; exact locked, by rw [same], by rw [same], by rw [same], by rw [same]⟩

theorem Served.mapKept {s t : State} (k : Served s t) (locked : s.map.access = .locked) : MapKept s t := by
  cases k with
  | edited access => rw [accessRefusal_locked locked] at access; cases access
  | profile access => rw [accessRefusal_locked locked] at access; cases access
  | access kept => exact ⟨kept, rfl, rfl, rfl, rfl⟩
  | addressed => exact ⟨id, rfl, rfl, rfl, rfl⟩
  | lineReset =>
    have map : (resetLineNow s).map = { s.map with access := s.map.access.lineReset } := (postStops_keeps ..).1
    rw [locked] at map
    exact ⟨fun _ => by rw [map]; rfl, by rw [map], by rw [map], by rw [map], by rw [map]⟩
  | announced _ _ _ taken => exact .of_map (by simp [takeProgram_keeps taken])
  | amended _ _ _ moved => exact .of_map (by simp [moveProgram_keeps moved])
  | identified _ _ _ _ moved => exact .of_map (by simp [moveProgram_keeps moved])
  | placed _ _ _ _ _ taken => exact .of_map (by simp [takeProgram_keeps taken])
  | still | defined | redefined | slotState | erased | speed | ignoredCleared | walked | staleCleared | countersCleared
  | eventsCleared | attention => exact .of_map rfl
  | cancelled | retired | enabled | disabled | halted | resumed => exact .of_map (by simp)

theorem Happened.map {s t : State} (k : Happened s t) : t.map = s.map := by
  cases k <;> simp

/-- Settles O14: a LOCKED map admits no edit, and a line reset leaves it LOCKED. -/
theorem lockedMapStaysLocked : Obligations.LockedMapStaysLocked := by
  intro i s t locked notPower h
  have kept : MapKept s t := by
    cases moved_of_exec notPower h with
    | still => exact .of_map rfl
    | resetLow => exact .of_map rfl
    | event _ k => exact .of_map k.map
    | link _ k =>
      cases k with
      | served r rc b =>
        have served := (served_serve s r).mapKept locked
        exact ⟨served.access, served.zones, served.channels, served.profiles, served.line⟩
      | moved => exact .of_map rfl
      | raised => exact .of_map (by simp)
  exact ⟨kept.access locked, kept.zones, kept.channels, kept.profiles, kept.line⟩

end Sys2Proof.Machine

/-! Requests that read, and the small requests: SET SPEED, SET ADDRESS, RESUME and the requests to the Attention
Unit. -/

namespace Sys2Proof.Machine

/-! ### Reading (R18, R34, R68, R75, R102, R137, R150, R177, R186) -/

section
variable {s : State}

theorem readItem_byteOf {n : Nat} (bound : n ≤ 256) (i : Fin n) (payload : Fin n → List Byte) :
    readItem n (byteOf i) payload s = accept s (payload i) := by
  rw [readItem, indexOf_byteOf bound]

theorem readItem_above {n : Nat} {item : Byte} (above : n ≤ item.toNat) (payload : Fin n → List Byte) :
    readItem n item payload s = refuse s .badValue := by
  rw [readItem, indexOf_eq_none_iff.2 above]

theorem ownReadZone_byteOf (z : Fin 16) : ownReadZone (byteOf z) s = accept s (s.zonePayload z) := by
  rw [ownReadZone, indexOf_byteOf (by decide)]

theorem ownReadZone_above {zone : Byte} (above : 15 < zone.toNat) : ownReadZone zone s = refuse s .badValue := by
  rw [ownReadZone, indexOf_eq_none_iff.2 above]

theorem ownReadMap_above {selector : Byte} (above : 4 < selector.toNat) (item : Byte) :
    ownReadMap selector item s = refuse s .badValue := by
  unfold ownReadMap
  split <;> rename_i is <;> simp [is] at above ⊢

theorem byteOf_slot_ne (k : Fin 16) : byteOf k ≠ 0xFF := by revert k; decide

theorem ownReadProgram_byteOf (k : Fin 16) :
    ownReadProgram (byteOf k) s = accept s (slotPayload k s.programs[k]) := by
  rw [ownReadProgram, if_neg (byteOf_slot_ne k), onSlot_byteOf]

theorem ownReadProgram_above {slot : Byte} (above : 15 < slot.toNat) (notAll : slot ≠ 0xFF) :
    ownReadProgram slot s = refuse s .badValue := by
  rw [ownReadProgram, if_neg notAll, onSlot_above above]

theorem ownLookup_above {selector : Byte} (above : 3 < selector.toNat) (key : Long) :
    ownLookup selector key s = refuse s .badValue := by
  unfold ownLookup
  split <;> rename_i is <;> simp [is] at above ⊢

theorem lookupTag_outside {key : Long} (bad : key.toNat = 0 ∨ 65535 < key.toNat) :
    lookupTag key s = refuse s .badValue := by
  rw [lookupTag, inRange, if_neg (by omega)]

/-- R68: what a LOOKUP answers with: the record found, or NO_SUCH_TAG. -/
theorem answered_answerRecord (addr code : Byte) (found : Option Record) :
    Host.Outcome.next (answered addr code (answerRecord found s)) = (match found with
      | some r => Host.Outcome.next (s.answering addr code .accepted (s.recordPayload r))
      | none => .next (s.answering addr code .noSuchTag []) : Host.Outcome State Fault Refusal) := by
  cases found <;> rfl

theorem answered_lookupDisplaced (addr code : Byte) :
    Host.Outcome.next (answered addr code (lookupDisplaced s)) = (match s.table.displaced with
      | some d => Host.Outcome.next (s.answering addr code .accepted d.payload)
      | none => .next (s.answering addr code .noSuchTag []) : Host.Outcome State Fault Refusal) := by
  unfold lookupDisplaced
  cases s.table.displaced <;> rfl

end

/-- Settles O17: each selector and item, with what stands. -/
theorem readsChangeNothing : Obligations.ReadsChangeNothing := by
  intro addr s h tells refuses
  have command (r : Request) := exec_eq_answered h r
  have all : ownReadProgram 0xFF s = accept s s.slotsPayload := if_pos rfl
  have zeroTag : lookupTag 0 s = refuse s .badValue := lookupTag_outside (.inl rfl)
  refine ⟨fun z => ⟨exec_accepted (r := .readMap 0 (byteOf z)) h (readItem_byteOf (by decide) z _),
      exec_accepted (r := .readZone (byteOf z)) h (ownReadZone_byteOf z)⟩,
    fun c => exec_accepted (r := .readMap 1 (byteOf c)) h (readItem_byteOf (by decide) c _),
    fun i => exec_accepted (r := .readMap 2 (byteOf i)) h (readItem_byteOf (by decide) i _),
    fun item => ⟨exec_accepted (r := .readMap 3 item) h rfl, exec_accepted (r := .readMap 4 item) h rfl⟩,
    fun selector item above => exec_refused (r := .readMap selector item) h (ownReadMap_above above item),
    fun item above => ⟨exec_refused (r := .readMap 0 item) h (readItem_above above _),
      exec_refused (r := .readZone item) h (ownReadZone_above above)⟩,
    fun item above => exec_refused (r := .readMap 1 item) h (readItem_above above _),
    fun item above => exec_refused (r := .readMap 2 item) h (readItem_above above _),
    fun k => exec_accepted (r := .readProgram (byteOf k)) h (ownReadProgram_byteOf k),
    exec_accepted (r := .readProgram 0xFF) h all,
    fun k above notAll => exec_refused (r := .readProgram k) h (ownReadProgram_above above notAll),
    exec_accepted (r := .readQueue) h rfl, exec_accepted (r := .readFaults) h rfl,
    exec_accepted (r := .readEvents) h rfl,
    fun key low high => ?_, fun key small => ?_, fun key => ?_, fun key => ?_,
    fun key => ⟨exec_refused (r := .lookup 0 0) h zeroTag,
      fun above => exec_refused (r := .lookup 0 key) h (lookupTag_outside (.inr above)),
      fun above => exec_refused (r := .lookup 1 key) h ?_,
      fun selector above => exec_refused (r := .lookup selector key) h (ownLookup_above above key)⟩⟩
  · have owner : serve (.lookup 0 key) s = answerRecord (s.table.live.find? fun r => r.tag == key.toNat) s := by
      change lookupTag key s = _
      rw [lookupTag, inRange_eq_some low high]
      rfl
    refine (command (.lookup 0 key)).trans ?_
    rw [owner]
    exact answered_answerRecord ..
  · have owner : serve (.lookup 1 key) s = answerRecord (s.table.live.find? fun r => r.index.val == key.toNat) s :=
      if_pos (by rw [Config.tableSize]; omega)
    refine (command (.lookup 1 key)).trans ?_
    rw [owner]
    exact answered_answerRecord ..
  · exact (command (.lookup 2 key)).trans (answered_answerRecord ..)
  · exact (command (.lookup 3 key)).trans (answered_lookupDisplaced ..)
  · exact if_neg (by rw [Config.tableSize]; omega)

theorem flagOf_above {x : Byte} (above : 1 < x.toNat) : flagOf x = none := by
  unfold flagOf
  split <;> rename_i is <;> simp [is] at above ⊢

/-- Settles O18: the clear option decides whether the counters are cleared once the report stands. -/
theorem readsThatClear : Obligations.ReadsThatClear := by
  intro addr s h
  have channel (c : Fin 32) (x : Byte) :
      channelReadOf (byteOf c) x = (flagOf x).map fun b => (c, b) := by
    rw [channelReadOf, indexOf_byteOf (by decide)]
    cases flagOf x <;> rfl
  refine ⟨exec_accepted (r := .readPosition 0) h rfl, exec_accepted (r := .readPosition 1) h rfl,
    fun c => ⟨exec_accepted (r := .readChannel (byteOf c) 0) h ?_, exec_accepted (r := .readChannel (byteOf c) 1) h ?_⟩,
    fun x c above => ⟨exec_refused (r := .readPosition x) h ?_, exec_refused (r := .readChannel c x) h ?_⟩,
    fun c x above => exec_refused (r := .readChannel c x) h ?_, exec_accepted (r := .readLink) h rfl⟩
  · rw [serve, ownReadChannel, channel]
    rfl
  · rw [serve, ownReadChannel, channel]
    rfl
  · rw [serve, ownReadPosition, flagOf_above above]
  · have none : channelReadOf c x = none := by
      rw [channelReadOf, flagOf_above above]
      cases indexOf 32 c <;> rfl
    rw [serve, ownReadChannel, none]
  · have none : channelReadOf c x = none := by
      rw [channelReadOf, indexOf_eq_none_iff.2 (by omega)]
      rfl
    rw [serve, ownReadChannel, none]

/-! ### SET SPEED and SET ADDRESS (R43, R176) -/

theorem clamp_eq {lo hi : Nat} (ordered : lo ≤ hi) (x : Nat) : clamp lo hi x = min hi (max lo x) := by
  have := ordered
  unfold clamp
  omega

/-- R171: a group request that is taken. -/
theorem exec_group {s : State} {addr : Byte} {r : Request} (h : ListeningToGroup s addr) (taken : groupTaken r = true) :
    exec (requestCommand addr r) s = .next (serve r s).1.heard := by
  obtain ⟨t, command, rfl⟩ := ((addressDecides.1 r addr s).2.1 h taken)
  exact command

/-- Settles O19: the speed is brought into its range, with an answer or without. -/
theorem setSpeedRequest : Obligations.SetSpeedRequest := by
  intro addr v s speed t
  have brought : clamp 100 10000 v.toNat = speed := clamp_eq (by decide) _
  have owner : serve (.setSpeed v) s
      = (t, ⟨if speed = v.toNat then .accepted else .acceptedClamped, nat2 speed⟩) := by
    rw [serve, ownSetSpeed, brought]
    rfl
  have inRange : (speed = v.toNat) = (100 ≤ v.toNat ∧ v.toNat ≤ 10000) := by
    refine propext ⟨fun same => ?_, fun within => ?_⟩ <;> omega
  refine ⟨fun h => ?_, fun h => ?_⟩
  · refine (exec_eq_answered h (.setSpeed v)).trans ?_
    rw [owner, answered]
    simp only [inRange]
    rfl
  · refine (exec_group h (r := .setSpeed v) rfl).trans ?_
    rw [owner]

theorem indexOrNone_byteOf (g : Fin 15) : indexOrNone 15 (byteOf g) = some (some g) := by
  have notNone : byteOf g ≠ 0xFF := by revert g; decide
  rw [indexOrNone, if_neg notNone, indexOf_byteOf (by decide)]
  rfl

theorem stationOf_some {address group : Byte} {v : Nat × Option (Fin 15)} (h : stationOf address group = some v) :
    1 ≤ address.toNat ∧ address.toNat ≤ 239 ∧ (group.toNat ≤ 14 ∨ group = 0xFF) := by
  simp only [stationOf, Option.bind_eq_bind, Option.bind_eq_some_iff, inRange_eq_some_iff] at h
  obtain ⟨_, ⟨⟨low, high⟩, -⟩, g, carried, -⟩ := h
  refine ⟨low, high, ?_⟩
  unfold indexOrNone at carried
  split at carried
  · exact .inr ‹_›
  · obtain ⟨k, index, -⟩ := Option.map_eq_some_iff.1 carried
    have := (indexOf_some index).2
    exact .inl (by omega)

/-- Settles O32: out of range there is no station to set. -/
theorem setAddressRequest : Obligations.SetAddressRequest := by
  intro addr address group s h c
  refine ⟨fun bad => exec_refused (r := .setAddress address group) h ?_, fun low high =>
    ⟨fun g is => exec_accepted (r := .setAddress address group) h ?_,
      fun is => exec_accepted (r := .setAddress address group) h ?_⟩⟩
  · have none : stationOf address group = none :=
      Option.eq_none_iff_forall_ne_some.2 fun _ some => bad (stationOf_some some)
    rw [serve, ownSetAddress, none]
  · have carried : stationOf address group = some (address.toNat, some g) := by
      rw [stationOf, inRange_eq_some low high, is, indexOrNone_byteOf]
      rfl
    rw [serve, ownSetAddress, carried]
    rfl
  · have carried : stationOf address group = some (address.toNat, none) := by
      rw [stationOf, inRange_eq_some low high, is]
      rfl
    rw [serve, ownSetAddress, carried]
    rfl

/-! ### RESUME (R154, R91) -/

/-- R91: RESUME changes the sequencers alone. -/
theorem tellResumes_frame (l : List (Fin 16)) (s : State) :
    l.foldl tellResume s = s.withZones (l.foldl tellResume s).zones := by
  induction l generalizing s with
  | nil => rfl
  | cons z l ih =>
    have first : tellResume s z = s.withZones (tellResume s z).zones := by
      unfold tellResume
      split <;> rfl
    rw [List.foldl_cons, ih (tellResume s z)]
    generalize (l.foldl tellResume (tellResume s z)).zones = zones
    rw [first]
    rfl

theorem tellResumes_zone (s : State) (z : Fin 16) :
    (zoneNumbers.foldl tellResume s).zones[z] = if s.zones[z].state = .halted
      then { s.zones[z] with restartTimer := some s.map.line.restartDelay } else s.zones[z] := by
  obtain ⟨before, after, -, start, result⟩ := foldl_zones (f := tellResume) (fun u y => othersKept_tellResume y u) s z
  have map : (before.foldl tellResume s).map = s.map := by simp
  rw [result]
  generalize before.foldl tellResume s = u at start map
  unfold tellResume
  rw [← start, ← map]
  split
  · rename_i halted
    rw [if_pos halted, modifyZone_get, if_pos rfl]
  · rename_i other
    rw [if_neg other]

/-- Settles O30: refused while HALTED is clear or HALT_N active; else each HALTED zone starts its restart timer. -/
theorem resumeRequest : Obligations.ResumeRequest := by
  intro addr s
  refine ⟨fun refused => ?_, fun halted inactive => ?_⟩
  · have owner : serve .resume s = refuse s .wrongState := by
      rw [serve, ownResume]
      rcases refused with clear | active
      · rw [clear]
        rfl
      · rw [active]
        exact ite_self _
    refine ⟨fun h => exec_refused h owner, fun h => ?_⟩
    have command := exec_group h (r := .resume) rfl
    rw [owner] at command
    exact command
  · let u := s.withSup { s.sup with halted := false }
    have sup : ({ s.sup with halted := false } : Supervisor) = { halted := false, haltNActive := false } := by
      rw [← inactive]
    have owner : serve .resume s = accept (zoneNumbers.foldl tellResume u) [] := by
      rw [serve, ownResume, halted, inactive]
      rfl
    refine ⟨(zoneNumbers.foldl tellResume u).zones, ?_⟩
    have frame (zones : Vector Sequencer 16) : ({ s with
        sup := { halted := false, haltNActive := false }, zones := zones } : State) = u.withZones zones := by
      rw [← sup]
      rfl
    refine ⟨fun z => tellResumes_zone u z, fun h => ?_, fun h => ?_⟩
    · rw [frame, ← tellResumes_frame zoneNumbers u]
      exact exec_accepted h owner
    · rw [frame, ← tellResumes_frame zoneNumbers u]
      have taken : (serve .resume s).1 = zoneNumbers.foldl tellResume u := by rw [owner, accept]
      rw [← taken]
      exact exec_group h (r := .resume) rfl

end Sys2Proof.Machine

/-! The Attention Unit (ch. 11) and the first-fault latches (R139, R145 to R149): what a raise changes, and the two
requests, two timers and outputs of the unit. -/

namespace Sys2Proof.Machine

/-! ### Flags (R178) -/

/-- R185: the eighteen flags in the order of their summary cause codes. -/
def eventTable : List Event :=
  [.major, .halt, .missedExit, .trackLost, .phantomExit, .shortfall, .unannounced, .entryReject, .minor, .limited, .late,
    .displaced, .clipped, .target, .exit, .entry, .motion, .link]

theorem eventTable_bit (e : Event) : eventTable[e.bit]? = some e := by cases e <;> rfl

theorem bit_injective {e f : Event} (same : e.bit = f.bit) : e = f := by
  have there := eventTable_bit e
  rw [same, eventTable_bit f] at there
  exact (Option.some.inj there).symm

theorem bit_lt (e : Event) : e.bit < 18 := by cases e <;> decide

theorem mask_getLsbD (e f : Event) : e.mask.getLsbD f.bit = decide (f = e) := by
  have small := bit_lt f
  rw [Event.mask, BitVec.getLsbD_shiftLeft, BitVec.getLsbD_one]
  by_cases same : f = e
  · simp [same, bit_lt e]
  · have other : f.bit ≠ e.bit := fun h => same (bit_injective h)
    have apart : f.bit < e.bit ∨ ¬ f.bit - e.bit = 0 := by omega
    rcases apart with below | above
    · simp [same, below]
    · simp [same, above]

/-- R178: a raise sets its flag and leaves every other one. -/
theorem isSet_raiseFlag (a : Attention) (e f : Event) : (a.raiseFlag e).isSet f = (a.isSet f || decide (f = e)) := by
  rw [Attention.isSet, raiseFlag_flags, BitVec.getLsbD_or, mask_getLsbD]
  rfl

theorem isSet_raiseFlag_other {a : Attention} {e f : Event} (other : f ≠ e) : (a.raiseFlag e).isSet f = a.isSet f := by
  rw [isSet_raiseFlag, decide_eq_false other, Bool.or_false]

/-- R178: a flag of which none is raised stays as it is. -/
theorem Raises.isSet_other {events : List Event} {a b : Attention} (h : Raises events a b) {f : Event} (other : f ∉ events) :
    b.isSet f = a.isSet f := by
  refine h.induct (fun c => c.isSet f = a.isSet f) rfl fun e mem c same => ?_
  rw [isSet_raiseFlag_other (fun is => other (by rw [is]; exact mem)), same]

/-- R178: a flag that is set stays set under raises. -/
theorem Raises.isSet_stays {events : List Event} {a b : Attention} (h : Raises events a b) {f : Event}
    (set : a.isSet f = true) : b.isSet f = true :=
  h.induct (fun c => c.isSet f = true) set fun e _ c set => by rw [isSet_raiseFlag, set, Bool.true_or]

/-! ### The reminder timer (R183) -/

theorem syncReminder_eq (a : Attention) : a.syncReminder = { a with
    reminderTimer := if a.reminderHolds then some (a.reminderTimer.getD a.interval) else none } := by
  obtain ⟨flags, enables, mode, interval, pulseOn, timer⟩ := a
  unfold Attention.syncReminder
  split
  · cases timer <;> rfl
  · rfl

theorem requestPulse_eq (a : Attention) : a.requestPulse = { a with
    pulseOn := true
    reminderTimer := if a.pulseOn then a.reminderTimer else if a.reminderHolds then some a.interval else none } := by
  obtain ⟨flags, enables, mode, interval, pulseOn, timer⟩ := a
  cases pulseOn <;> rfl

/-- R183: the reminder timer runs exactly while its three conditions hold together. -/
def Attention.Timed (a : Attention) : Prop := a.reminderTimer ≠ none ↔ a.reminderHolds = true

theorem timed_syncReminder (a : Attention) : a.syncReminder.Timed := by
  rw [syncReminder_eq, Attention.Timed]
  dsimp only
  change _ ↔ a.reminderHolds = true
  split <;> simp [*]

theorem Attention.Timed.requestPulse {a : Attention} (h : a.Timed) : a.requestPulse.Timed := by
  rw [requestPulse_eq, Attention.Timed]
  dsimp only
  change _ ↔ a.reminderHolds = true
  split
  · exact h
  · split <;> simp [*]

theorem Attention.Timed.raiseFlag {a : Attention} (h : a.Timed) (e : Event) : (a.raiseFlag e).Timed := by
  unfold Attention.raiseFlag
  split
  · exact h
  · dsimp only
    split
    · exact (timed_syncReminder _).requestPulse
    · exact timed_syncReminder _

theorem timed_clearBy (a : Attention) (m : BitVec 18) : (a.clearBy m).Timed := by
  unfold Attention.clearBy
  dsimp only
  split
  · exact (timed_syncReminder _).requestPulse
  · exact timed_syncReminder _

theorem Raises.timed {events : List Event} {a b : Attention} (h : Raises events a b) (timed : a.Timed) : b.Timed :=
  h.induct Attention.Timed timed fun e _ _ k => k.raiseFlag e

/-! ### The requests to the Attention Unit (R179, R180, R184) -/

theorem flagMaskOf_eq_none {m : Mask} (high : 2 ^ 18 ≤ m.toNat) : flagMaskOf m = none := if_neg (by omega)

theorem flagMaskOf_eq_some {m : Mask} (low : m.toNat < 2 ^ 18) : flagMaskOf m = some (m.setWidth 18) :=
  if_pos (by omega)

/-- R187: a mask of the eighteen flags is sent as it came. -/
theorem flags3_setWidth {m : Mask} (low : m.toNat < 2 ^ 18) : flags3 (m.setWidth 18) = maskBytes m := by
  refine congrArg maskBytes (BitVec.eq_of_toNat_eq ?_)
  rw [BitVec.toNat_setWidth, BitVec.toNat_setWidth, Nat.mod_eq_of_lt low, Nat.mod_eq_of_lt (by omega)]

theorem testPulse_eq (a : Attention) (m : BitVec 18) :
    a.testPulse m = (m.getLsbD 0 && !a.flags.getLsbD 0 && a.enables.getLsbD 0) := rfl

theorem clearBy_flags (a : Attention) (m : BitVec 18) : (a.clearBy m).flags = a.flags &&& ~~~m
    ∧ (a.clearBy m).enables = a.enables ∧ (a.clearBy m).mode = a.mode ∧ (a.clearBy m).interval = a.interval
    ∧ (a.clearBy m).pulseOn = (a.pulseOn || a.testPulse m) := by
  unfold Attention.clearBy Attention.clearFlags
  simp only [requestPulse_eq, syncReminder_eq]
  cases pulse : a.testPulse m <;> simp

/-- Settles O33: the mask has one of the bits above the flags, or its flags are cleared. -/
theorem clearEventsRequest : Obligations.ClearEventsRequest := by
  intro addr mask s h m
  refine ⟨fun high => exec_refused (r := .clearEvents mask) h ?_, fun low => ?_⟩
  · rw [serve, ownClearEvents, flagMaskOf_eq_none high]
  · let t := (s.withAttn (s.attn.clearBy m)).withMonitor (s.monitor.cleared m)
    have owner : serve (.clearEvents mask) s = accept t (flags3 t.attn.flags) := by
      rw [serve, ownClearEvents, flagMaskOf_eq_some low]
    obtain ⟨flags, enables, mode, interval, pulse⟩ := clearBy_flags s.attn m
    exact ⟨t, exec_accepted h owner, flags, enables, mode, interval, pulse, rfl, rfl, rfl, rfl, rfl, rfl, rfl, rfl, rfl⟩

theorem attnModeOf_above {b : Byte} (above : 1 < b.toNat) : attnModeOf b = none := by
  unfold attnModeOf
  split <;> rename_i is <;> simp [is] at above ⊢

theorem attnModeOf_eq {b : Byte} (low : b.toNat ≤ 1) : attnModeOf b = some (if b = 0 then .level else .pulse) := by
  have cases : b = 0 ∨ b = 1 := by
    rcases Nat.le_one_iff_eq_zero_or_eq_one.1 low with zero | one
    · exact .inl (BitVec.eq_of_toNat_eq zero)
    · exact .inr (BitVec.eq_of_toNat_eq one)
  rcases cases with rfl | rfl <;> rfl

theorem attnMode_code {b : Byte} (low : b.toNat ≤ 1) : (if b = 0 then AttnMode.level else .pulse).code = b.toNat := by
  split
  · rename_i zero
    rw [zero]
    rfl
  · rename_i notZero
    have : b.toNat ≠ 0 := fun zero => notZero (BitVec.eq_of_toNat_eq zero)
    change 1 = b.toNat
    omega

/-- R183: the three conditions. -/
theorem reminderHolds_iff (a : Attention) :
    a.reminderHolds = true ↔ a.mode = .pulse ∧ a.interval ≠ 0 ∧ a.flags &&& a.enables ≠ 0 := by
  simp [Attention.reminderHolds, Attention.attentionPending, and_assoc]

section
variable (a : Attention) (enables : BitVec 18) (mode : AttnMode) (interval : Nat)

/-- R184: the enables, the mode and the interval are replaced, and the timer follows. -/
theorem configure_eq : a.configure enables mode interval = { a with
    enables := enables, mode := mode, interval := interval
    reminderTimer := (a.configure enables mode interval).reminderTimer } := by
  simp only [Attention.configure, syncReminder_eq]

theorem timed_configure : (a.configure enables mode interval).Timed := timed_syncReminder _

/-- R184: a changed interval restarts the timer. -/
theorem configure_restarts (running : (a.configure enables mode interval).reminderTimer ≠ none)
    (moved : a.interval ≠ interval) : (a.configure enables mode interval).reminderTimer = some interval := by
  simp only [Attention.configure, syncReminder_eq, if_neg (Ne.symm moved)] at running ⊢
  split at running
  · rw [if_pos ‹_›]
    rfl
  · exact absurd rfl running

end

/-- Settles O34: the mask or the mode is out of range, or all three are replaced and the reminder timer follows. -/
theorem setAttentionRequest : Obligations.SetAttentionRequest := by
  intro addr mask mode interval s h c
  refine ⟨fun bad => exec_refused (r := .setAttention mask mode interval) h ?_, fun low lowMode => ?_⟩
  · rw [serve, ownSetAttention]
    rcases bad with high | above
    · rw [flagMaskOf_eq_none high]
    · rw [attnModeOf_above above]
      cases flagMaskOf mask <;> rfl
  · let kind : AttnMode := if mode = 0 then .level else .pulse
    let a := s.attn.configure (mask.setWidth 18) kind (min interval.toNat 60)
    have configured : a = { s.attn with
        enables := mask.setWidth 18, mode := kind, interval := min interval.toNat 60
        reminderTimer := a.reminderTimer } := configure_eq ..
    have owner : serve (.setAttention mask mode interval) s = (s.withAttn a,
        ⟨if 60 < interval.toNat then .acceptedClamped else .accepted, (s.withAttn a).attentionPayload⟩) := by
      rw [serve, ownSetAttention, flagMaskOf_eq_some low, attnModeOf_eq lowMode]
    have payload : (s.withAttn a).attentionPayload
        = maskBytes mask ++ nat1 mode.toNat ++ nat1 (min interval.toNat 60) := by
      rw [← flags3_setWidth low, ← attnMode_code lowMode, State.attentionPayload, State.withAttn_attn, configured]
    have result : (if 60 < interval.toNat then Result.acceptedClamped else .accepted)
        = if interval.toNat ≤ 60 then .accepted else .acceptedClamped := by
      by_cases within : interval.toNat ≤ 60
      · rw [if_pos within, if_neg (by omega)]
      · rw [if_neg within, if_pos (by omega)]
    refine ⟨a.reminderTimer, ?_, ?_, fun running moved => ?_⟩
    · refine (exec_eq_answered h (.setAttention mask mode interval)).trans ?_
      rw [owner, answered, payload, result, ← configured]
      rfl
    · have timed : a.Timed := timed_configure ..
      rw [show a.reminderTimer ≠ none ↔ _ from timed, reminderHolds_iff, configured]
      have zero : min interval.toNat 60 ≠ 0 ↔ interval ≠ 0 := by
        rw [ne_eq, ne_eq, ← BitVec.toNat_inj]
        change ¬ min interval.toNat 60 = 0 ↔ ¬ interval.toNat = 0
        omega
      exact and_congr_right fun _ => and_congr_left fun _ => zero
    · exact configure_restarts _ _ _ _ running moved

end Sys2Proof.Machine

/-! The outputs and the timers of the Attention Unit (R174, R181 to R183, R185). -/

namespace Sys2Proof.Machine

theorem eventTable_bits : eventTable.map Event.bit = List.range 18 := by decide

/-- R178: the flag is set and enabled. -/
def Attention.shows (a : Attention) (e : Event) : Bool := a.flags.getLsbD e.bit && a.enables.getLsbD e.bit

theorem ne_zero_iff_bit {n : Nat} (x : BitVec n) : (x != 0) = (List.range n).any x.getLsbD := by
  rw [Bool.eq_iff_iff, bne_iff_ne, List.any_eq_true]
  refine ⟨fun some => ?_, fun ⟨i, _, bit⟩ zero => ?_⟩
  · by_contra none
    refine some (BitVec.eq_of_getLsbD_eq fun i below => ?_)
    refine (Bool.eq_false_iff.2 fun bit => none ⟨i, List.mem_range.2 below, bit⟩).trans ?_
    exact BitVec.getLsbD_zero.symm
  · rw [zero] at bit
    cases BitVec.getLsbD_zero.symm.trans bit

/-- R174: attention is pending while some flag shows. -/
theorem attentionPending_eq (a : Attention) : a.attentionPending = eventTable.any a.shows := by
  rw [Attention.attentionPending, ne_zero_iff_bit, ← eventTable_bits, List.any_map]
  refine congrArg (eventTable.any ·) (funext fun e => ?_)
  exact BitVec.getLsbD_and

/-- The place of the first member that shows, where the members are numbered in order. -/
theorem find?_numbered {p : Event → Bool} {n : Nat} (l : List Event) (numbered : l.map Event.bit = List.range' n l.length) :
    (l.find? p).map Event.bit = (l.findIdx? p).map (· + n) := by
  induction l generalizing n with
  | nil => rfl
  | cons e l ih =>
    rw [List.length_cons, List.range'_succ, List.map_cons, List.cons.injEq] at numbered
    obtain ⟨here, rest⟩ := numbered
    rw [List.find?_cons, List.findIdx?_cons]
    cases shows : p e with
    | true => simp [here]
    | false =>
      simp only [ih rest, Bool.false_eq_true, if_false, Option.map_map]
      refine congrArg (Option.map · _) (funext fun i => ?_)
      exact Nat.add_left_comm i n 1 ▸ by simp only [Function.comp]; omega

/-- R185: the summary cause code is the place of the first flag that shows. -/
theorem summaryCode_eq (a : Attention) : a.summaryCode = ((eventTable.findIdx? a.shows).map (· + 1)).getD 0 := by
  have found : (List.range 18).find? (fun i => (a.flags &&& a.enables).getLsbD i) = eventTable.findIdx? a.shows := by
    rw [← eventTable_bits, List.find?_map]
    have shows : (fun i => (a.flags &&& a.enables).getLsbD i) ∘ Event.bit = a.shows :=
      funext fun e => BitVec.getLsbD_and
    rw [shows, find?_numbered (n := 0) eventTable (by decide)]
    simp
  rw [Attention.summaryCode, found]
  cases eventTable.findIdx? a.shows <;> rfl

/-- R174, sec. 13.1: the items of status byte 1 stand in their bits. -/
theorem status1_items : ∀ (pending halted faulted full : Bool) (motion access : Fin 3),
    let b := BitVec.ofNat 8 (bitAt 0 pending + 2 * motion + bitAt 3 halted + bitAt 4 faulted + 32 * access + bitAt 7 full)
    b.getLsbD 0 = pending ∧ b.toNat / 2 % 4 = motion ∧ b.getLsbD 3 = halted ∧ b.getLsbD 4 = faulted
      ∧ b.toNat / 32 % 4 = access ∧ b.getLsbD 7 = full := by decide

theorem motion_code_lt (m : Motion) : m.code < 3 := by cases m <;> decide
theorem access_code_lt (a : MapAccess) : a.code < 3 := by cases a <;> decide

theorem reminderExpires_eq {a : Attention} (running : a.reminderTimer ≠ none) : a.reminderExpires = { a with
    pulseOn := true
    reminderTimer := if a.mode = .pulse ∧ a.interval ≠ 0 ∧ a.flags &&& a.enables ≠ 0 then some a.interval else none } := by
  obtain ⟨flags, enables, mode, interval, pulseOn, timer⟩ := a
  cases timer with
  | none => exact absurd rfl running
  | some n =>
    have holds (p : Bool) (x : Option Nat) : Attention.reminderHolds ⟨flags, enables, mode, interval, p, x⟩ = true
        ↔ mode = .pulse ∧ interval ≠ 0 ∧ flags &&& enables ≠ 0 := reminderHolds_iff _
    unfold Attention.reminderExpires
    simp only [requestPulse_eq, syncReminder_eq, holds]
    by_cases all : mode = .pulse ∧ interval ≠ 0 ∧ flags &&& enables ≠ 0
    · rw [if_pos all, if_pos all]
      cases pulseOn <;> rfl
    · rw [if_neg all, if_neg all]

/-- Settles O35: the flags that show decide ATTN_N, the summary code and status byte 1. -/
theorem attentionTimersAndOutputs : Obligations.AttentionTimersAndOutputs := by
  refine ⟨eventTable_bits, fun s => ?_, fun s awake => ⟨next_awake awake _, fun stopped => ?_, fun running => ?_⟩⟩
  · obtain ⟨pending, motion, halted, faulted, access, full⟩ := status1_items s.attn.attentionPending s.sup.halted
      s.anyFaulted s.tableFull ⟨_, motion_code_lt s.pos.motion⟩ ⟨_, access_code_lt s.map.access⟩
    refine ⟨?_, (summaryCode_eq s.attn).trans ?_, rfl, pending.trans (attentionPending_eq s.attn), motion.trans ?_, halted, ?_,
      access.trans ?_, full.trans ?_⟩
    · rw [State.attnAsserted, attentionPending_eq]
      simp only [Bool.and_eq_true, Bool.not_eq_true', Bool.or_eq_true, beq_iff_eq]
      rfl
    · exact match eventTable.findIdx? s.attn.shows with
        | some _ => rfl
        | none => rfl
    · cases s.pos.motion <;> rfl
    · refine (iff_of_eq (congrArg (· = true) faulted)).trans ?_
      simp [State.anyFaulted, zoneNumbers]
    · cases s.map.access <;> rfl
    · rw [State.tableFull, Config.tableSize, beq_eq_decide]
  · refine (next_awake awake _).trans (congrArg Host.Outcome.next ?_)
    have still : s.attn.reminderExpires = s.attn := by rw [Attention.reminderExpires, stopped]
    exact congrArg s.withAttn still
  · refine (next_awake awake _).trans (congrArg Host.Outcome.next ?_)
    exact congrArg s.withAttn (reminderExpires_eq running)

end Sys2Proof.Machine

/-! The first-fault latches, the latest records and the reminder timer under every step (R139, R145 to R149, R183). -/

namespace Sys2Proof.Machine

variable {s t u : State}

/-! ### What the events of the Carrier Table raise -/

/-- The events that are no class of the Regulation Monitor. -/
def quietEvents : List Event := eventTable.filter fun e => e != .major && e != .minor

/-- Only events that are no class have been raised, and the Regulation Monitor is as it was. -/
structure Quiet (s t : State) : Prop where
  attn : Raises quietEvents s.attn t.attn
  monitor : t.monitor = s.monitor

theorem Quiet.trans (h : Quiet s t) (k : Quiet t u) : Quiet s u :=
  ⟨h.attn.trans k.attn, k.monitor.trans h.monitor⟩

theorem Quiet.of_same (attn : t.attn = s.attn) (monitor : t.monitor = s.monitor) : Quiet s t :=
  ⟨attn ▸ .refl _ _, monitor⟩

/-- An update beforehand of what neither unit holds. -/
theorem Quiet.after (h : Quiet t u) (attn : t.attn = s.attn) (monitor : t.monitor = s.monitor) : Quiet s u :=
  (Quiet.of_same attn monitor).trans h

theorem Works.quiet {E : List Event} (w : Works E s t) (monitor : t.monitor = s.monitor)
    (sub : E ⊆ quietEvents := by decide) : Quiet s t := ⟨w.attn.mono sub, monitor⟩

theorem quiet_raise {e : Event} (mem : e ∈ quietEvents) (s : State) : Quiet s (raise e s) :=
  ⟨.raise mem _, rfl⟩

theorem quiet_platingEndWatch (i : Fin 64) (g : BitVec 8) (s : State) : Quiet s (platingEndWatch i g s) :=
  (works_platingEndWatch i g s).quiet (by simp)

theorem quiet_exitWindowWatch (i : Fin 64) (g : BitVec 8) (s : State) : Quiet s (exitWindowWatch i g s) :=
  (works_exitWindowWatch i g s).quiet (by simp)

theorem quiet_clipRearmost (rear : Option Record) (s : State) : Quiet s (clipRearmost rear s) := by
  unfold clipRearmost
  split
  · exact .of_same rfl rfl
  · split
    · refine .trans (.after (quiet_raise (e := .clipped) (by decide) _) ?_ ?_) (quiet_platingEndWatch ..)
      · simp
      · simp
    · exact .of_same rfl rfl

theorem quiet_bindAnnouncement (a : Announcement) (rest : List Announcement) (i : Fin 64) (g : BitVec 8) (s : State) :
    Quiet s (bindAnnouncement a rest i g s) := ⟨.raise (e := .entry) (by decide) _, by simp⟩

theorem quiet_makeUnannounced (i : Fin 64) (g : BitVec 8) (s : State) : Quiet s (makeUnannounced i g s) := by
  obtain ⟨slot, taken, takes, made⟩ := makeUnannounced_eq i g s
  obtain ⟨-, -, -, attn⟩ := takes.keeps
  refine ⟨?_, by simp⟩
  rw [made, ← attn]
  exact .raise (e := .unannounced) (by decide) _

theorem quiet_admitCarrier (s : State) : Quiet s (admitCarrier s) := by
  unfold admitCarrier
  split
  · exact .of_same rfl rfl
  · refine Quiet.trans (.trans (.trans ?_ (quiet_clipRearmost ..)) (quiet_platingEndWatch ..)) (quiet_exitWindowWatch ..)
    split
    · exact quiet_bindAnnouncement ..
    · exact quiet_makeUnannounced ..

theorem quiet_displaceRecord (r : Record) (s : State) : Quiet s (displaceRecord r s) :=
  (quiet_raise (e := .displaced) (by decide) ((removeRecord r s).withTable _)).after (by simp) (by simp)

theorem quiet_loseCarrier (s : State) : Quiet s (loseCarrier s) := by
  unfold loseCarrier
  split
  · exact quiet_raise (by decide) s
  · rename_i a rest _
    exact .trans (.after (quiet_raise (e := .trackLost) (by decide) (s.withTable { s.table with queue := rest })) rfl rfl)
      (.of_same (by simp) (by simp))

theorem quiet_entryArrival (s : State) : Quiet s (entryArrival s) := by
  unfold entryArrival
  split
  · exact quiet_raise (by decide) s
  · split
    · exact quiet_admitCarrier s
    · split
      · exact (quiet_displaceRecord ..).trans (quiet_admitCarrier _)
      · exact quiet_loseCarrier s

theorem quiet_takeEdge (which : Sensor) (s : State) : Quiet s (takeEdge which s) := by
  unfold takeEdge
  dsimp only
  split
  · cases which with
    | entry => exact .after (quiet_entryArrival (s.withPos _)) rfl rfl
    | exit => exact .after ((works_exitArrival (s.withPos _)).quiet (by simp)) rfl rfl
  · exact .of_same rfl rfl

theorem quiet_applyAmend (r : Record) (a : Amendment) (s : State) : Quiet s (applyAmend r a s) := by
  unfold applyAmend
  dsimp only
  split
  · exact (quiet_platingEndWatch ..).after (by simp) (by simp)
  · exact .of_same (by simp) (by simp)

theorem quiet_applyPlace (r : Record) (s : State) : Quiet s (applyPlace r s) := by
  have tested (f : Face) (u : State) : Quiet u (testTarget r.index r.generation f u) :=
    (works_testTarget r.index r.generation u f).quiet (by simp)
  have made : Quiet s (putRecord (insertInLine s.map.line.scale r s.table.live) r s) := .of_same (by simp) (by simp)
  exact (((made.trans (tested .A _)).trans (tested .B _)).trans (quiet_platingEndWatch ..)).trans
    (quiet_exitWindowWatch ..)

theorem quiet_haltLine (s : State) : Quiet s (haltLine s) := by
  have monitor : (haltLine s).monitor = s.monitor := by simp
  exact (works_haltLine s).quiet monitor

/-! ### The two classes (R139, R145, R146) -/

/-- One class: whether its flag is set, its first-fault latch and its latest record. -/
structure Latch where
  set : Bool
  first : Option (Option (Fin 16) × Fin 32)
  latest : Option Case

def State.majorLatch (s : State) : Latch := ⟨s.attn.isSet .major, s.monitor.firstMajor, s.monitor.latestMajor⟩

def State.minorLatch (s : State) : Latch := ⟨s.attn.isSet .minor, s.monitor.firstMinor, s.monitor.latestMinor⟩

/-- The class with its flag clear. -/
def Latch.empty : Latch := ⟨false, none, none⟩

/-- R139, R149: the latch and the record are filled exactly while the flag is set. -/
structure Latch.Lawful (l : Latch) : Prop where
  first : l.first ≠ none ↔ l.set = true
  latest : l.latest ≠ none ↔ l.set = true

/-- R145, R146: the class is as it was, or has been raised. -/
inductive Latch.Raised (l l' : Latch) : Prop where
  | kept (same : l' = l)
  | raised (set : l'.set = true) (filled : l'.first ≠ none ∨ l.set = true) (latest : l'.latest ≠ none)
    (latched : l.set = true → l'.first = l.first)

theorem Latch.Raised.trans {k l m : Latch} (h : k.Raised l) (g : l.Raised m) : k.Raised m := by
  cases h with
  | kept same => exact same ▸ g
  | raised set filled latest latched =>
    cases g with
    | kept same => exact same ▸ .raised set filled latest latched
    | raised set' filled' latest' latched' =>
      refine .raised set' ?_ latest' fun isSet => (latched' set).trans (latched isSet)
      rw [latched' set]
      exact filled

theorem Latch.Raised.lawful {l l' : Latch} (h : l.Raised l') (law : l.Lawful) : l'.Lawful := by
  cases h with
  | kept same => exact same ▸ law
  | raised set filled latest latched =>
    refine ⟨⟨fun _ => set, fun _ => ?_⟩, fun _ => set, fun _ => latest⟩
    rcases filled with filled | before
    · exact filled
    · rw [latched before]
      exact law.first.2 before

theorem lawful_empty : Latch.empty.Lawful := ⟨by simp [Latch.empty], by simp [Latch.empty]⟩

/-- The law of the first-fault latch: while the flag stays set, the latch stays. -/
def Latch.Holds (l l' : Latch) : Prop := l.set = true → l'.set = true → l'.first = l.first

theorem Latch.Raised.holds {l l' : Latch} (h : l.Raised l') : l.Holds l' := fun set _ => by
  cases h with
  | kept same => rw [same]
  | raised _ _ _ latched => exact latched set

theorem holds_empty (l : Latch) : l.Holds .empty := fun _ set => nomatch set

theorem attentionLaw_iff :
    AttentionLaw s ↔ s.attn.Timed ∧ s.majorLatch.Lawful ∧ s.minorLatch.Lawful :=
  ⟨fun h => ⟨h.reminder, ⟨h.firstMajor, h.latestMajor⟩, ⟨h.firstMinor, h.latestMinor⟩⟩,
    fun ⟨timed, major, minor⟩ => ⟨timed, major.first, major.latest, minor.first, minor.latest⟩⟩

/-! ### What a raise of a class does -/

/-- The reminder timer stays lawful, and each class is as it was or has been raised. -/
structure Attends (s t : State) : Prop where
  timed : s.attn.Timed → t.attn.Timed
  major : s.majorLatch.Raised t.majorLatch
  minor : s.minorLatch.Raised t.minorLatch

theorem Attends.refl (s : State) : Attends s s := ⟨id, .kept rfl, .kept rfl⟩

theorem Attends.trans (h : Attends s t) (k : Attends t u) : Attends s u :=
  ⟨k.timed ∘ h.timed, h.major.trans k.major, h.minor.trans k.minor⟩

theorem attends_foldl {α : Type} {f : State → α → State} (each : ∀ s a, Attends s (f s a)) (l : List α) (s : State) :
    Attends s (l.foldl f s) := by
  induction l generalizing s with
  | nil => exact .refl s
  | cons a l ih => exact (each s a).trans (ih _)

/-- What leaves both flags and the monitor alone leaves both classes alone. -/
theorem Attends.of_flags (timed : s.attn.Timed → t.attn.Timed) (major : t.attn.isSet .major = s.attn.isSet .major)
    (minor : t.attn.isSet .minor = s.attn.isSet .minor) (monitor : t.monitor = s.monitor) : Attends s t :=
  ⟨timed, .kept (by simp only [State.majorLatch, major, monitor]), .kept (by simp only [State.minorLatch, minor, monitor])⟩

theorem Quiet.latches (h : Quiet s t) : t.majorLatch = s.majorLatch ∧ t.minorLatch = s.minorLatch := by
  have major : t.attn.isSet .major = s.attn.isSet .major := h.attn.isSet_other (by decide)
  have minor : t.attn.isSet .minor = s.attn.isSet .minor := h.attn.isSet_other (by decide)
  simp only [State.majorLatch, State.minorLatch, major, minor, h.monitor, and_self]

theorem Quiet.attends (h : Quiet s t) : Attends s t := ⟨h.attn.timed, .kept h.latches.1, .kept h.latches.2⟩

/-- An update beforehand of what neither unit holds. -/
theorem Attends.after (h : Attends t u) (attn : t.attn = s.attn) (monitor : t.monitor = s.monitor) : Attends s u :=
  (Quiet.of_same attn monitor).attends.trans h

theorem attends_faultZone (z : Fin 16) (s : State) : Attends s (faultZone z s) :=
  ((works_faultZone z s).quiet (by simp)).attends

theorem attends_raiseMajor (c : Case) (s : State) : Attends s (raiseMajor c s) := by
  have raised : Attends s (raise .major (s.withMonitor { s.monitor with
      firstMajor := if s.attn.isSet .major then s.monitor.firstMajor else some (c.zone, c.channel)
      latestMajor := some c })) := by
    refine ⟨fun timed => timed.raiseFlag _, .raised (raiseFlag_isSet ..) ?_ nofun fun set => if_pos set,
      .kept (by simp only [State.minorLatch]; exact congrArg (Latch.mk · _ _) (isSet_raiseFlag_other (by decide)))⟩
    cases set : s.attn.isSet .major
    · exact .inl (by simp [State.majorLatch])
    · exact .inr set
  unfold raiseMajor
  dsimp only
  split
  · exact raised.trans (attends_faultZone ..)
  · exact raised

theorem attends_raiseMinor (c : Case) (s : State) : Attends s (raiseMinor c s) := by
  refine ⟨fun timed => timed.raiseFlag _, .kept (congrArg (Latch.mk · _ _) (isSet_raiseFlag_other (by decide))),
    .raised (raiseFlag_isSet ..) ?_ nofun fun set => if_pos set⟩
  cases set : s.attn.isSet .minor
  · exact .inl (by simp [State.minorLatch, raiseMinor, set])
  · exact .inr set

theorem attends_handOff (z : Fin 16) (mode : Mode) (d : Side) (qf qr : Nat) (s : State) :
    Attends s (handOff z mode d qf qr s) := by
  unfold handOff
  split
  · exact .refl s
  · cases s.classify z mode d qf qr with
    | major c => exact attends_raiseMajor c s
    | minor c => exact attends_raiseMinor c s
    | nothing => exact .refl s

theorem attends_takeReadback (c : Fin 32) (s : State) (b : Readback) : Attends s (takeReadback c s b) := by
  unfold takeReadback
  split
  · exact ((works_closeSide ..).quiet (by simp)).attends.trans (attends_handOff ..)
  · exact (Attends.refl (countStale c s)).after rfl rfl

theorem attends_judgeStatus (st : ReplyStatus) (c : Fin 32) (poster : Option (Fin 16)) (s : State) :
    Attends s (judgeStatus st c poster s) := by
  cases st with
  | ok => exact .refl s
  | limit => exact attends_raiseMinor _ s
  | fault => exact attends_raiseMajor _ s

theorem attends_closing (closes : Bool) (c : Fin 32) (s : State) :
    Attends s (if closes then loseSides c s else s) := by
  refine ((works_closing closes c s).quiet ?_).attends
  split
  · simp
  · rfl

theorem attends_endTransaction (s : State) : Attends s (endTransaction s) := (Quiet.of_same (by simp) (by simp)).attends

theorem attends_goodEnd (item : DriveItem) (c : Fin 32) (st : ReplyStatus) (rbs : List Readback) (s : State) :
    Attends s (goodEnd item c st rbs s) :=
  (((((attends_foldl (attends_takeReadback c) rbs (s.modifyChannel c _)).trans (attends_closing ..)).trans
    (attends_judgeStatus ..)).trans (attends_endTransaction _))).after rfl rfl

theorem attends_badEnd (item : DriveItem) (c : Fin 32) (how : TransactionEnd) (s : State) :
    Attends s (badEnd item c how s) := by
  have faulted (t : State) : Attends t
      (if s.drive.channels[c].misses = 2 then channelFault c item.poster t else t) := by
    split
    · exact attends_raiseMajor ..
    · exact .refl t
  exact (((attends_closing _ _ (s.modifyChannel c _)).trans (faulted _)).trans (attends_endTransaction _)).after rfl rfl

/-! ### Every step -/

/-- Every event raises classes at most, and keeps the reminder timer with its conditions. -/
theorem Happened.attends (h : Happened s t) : Attends s t := by
  cases h with
  | encoder sense => exact ((works_encoderStep sense s).quiet (by simp)).attends
  | stopTimer => exact ((works_stopTimerExpires s).quiet (by simp)).attends
  | parkTimer => exact ((works_parkTimerExpires s).quiet (by simp)).attends
  | edge which => exact (quiet_takeEdge which s).attends
  | otherEdge | skipped | haltInactive => exact Quiet.attends (.of_same rfl rfl)
  | haltActive => exact .after ((works_haltLine _).quiet (by simp)).attends rfl rfl
  | period z => exact ((works_periodTimerExpires z s).quiet (by simp)).attends
  | restart z => exact ((works_restartTimerExpires z s).quiet (by simp)).attends
  | frameSent => exact Quiet.attends (.of_same (by simp) (by simp))
  | replyBegun => exact Quiet.attends (.of_same (by simp) (by simp))
  | goodEnd item c st rbs => exact attends_goodEnd item c st rbs s
  | badEnd item c how => exact attends_badEnd item c how s
  | pulseTimer => exact .of_flags id rfl rfl rfl
  | reminderTimer =>
    by_cases running : s.attn.reminderTimer = none
    · have same : s.attn.reminderExpires = s.attn := by unfold Attention.reminderExpires; rw [running]
      rw [same]
      exact .refl s
    · have expired := reminderExpires_eq running
      have timed : s.attn.reminderExpires.Timed := by
        unfold Attention.reminderExpires
        split
        · contradiction
        · exact timed_syncReminder _
      have flags : s.attn.reminderExpires.flags = s.attn.flags := by rw [expired]
      exact .of_flags (fun _ => timed) (congrArg (BitVec.getLsbD · _) flags) (congrArg (BitVec.getLsbD · _) flags) rfl

/-- A step raises a class at most, or clears it with its latch and record. -/
def Latch.Moved (l l' : Latch) : Prop := l.Raised l' ∨ l' = .empty

theorem Latch.Moved.lawful {l l' : Latch} (h : l.Moved l') (law : l.Lawful) : l'.Lawful := by
  rcases h with raised | rfl
  · exact raised.lawful law
  · exact lawful_empty

theorem Latch.Moved.holds {l l' : Latch} (h : l.Moved l') : l.Holds l' := by
  rcases h with raised | rfl
  · exact raised.holds
  · exact holds_empty l

/-- What a step does to the reminder timer and to the two classes. -/
structure AttnMoved (s t : State) : Prop where
  timed : s.attn.Timed → t.attn.Timed
  major : s.majorLatch.Moved t.majorLatch
  minor : s.minorLatch.Moved t.minorLatch

theorem Attends.moved (h : Attends s t) : AttnMoved s t := ⟨h.timed, .inl h.major, .inl h.minor⟩

/-- The plant link's own event is no class. -/
theorem AttnMoved.raise_link (h : AttnMoved s t) : AttnMoved s (raise .link t) := by
  have major : (raise .link t).majorLatch = t.majorLatch :=
    congrArg (Latch.mk · _ _) (isSet_raiseFlag_other (by decide))
  have minor : (raise .link t).minorLatch = t.minorLatch :=
    congrArg (Latch.mk · _ _) (isSet_raiseFlag_other (by decide))
  exact ⟨fun timed => (h.timed timed).raiseFlag _, major ▸ h.major, minor ▸ h.minor⟩

/-- R179, R149: a flag that is cleared is cleared with its latch and record. -/
theorem moved_clearBy (s : State) (m : BitVec 18) :
    AttnMoved s ((s.withAttn (s.attn.clearBy m)).withMonitor (s.monitor.cleared m)) := by
  have flags := (clearBy_flags s.attn m).1
  have isSet (e : Event) : (s.attn.clearBy m).isSet e = (s.attn.isSet e && !m.getLsbD e.bit) := by
    rw [Attention.isSet, flags, BitVec.getLsbD_and, BitVec.getLsbD_not, decide_eq_true (bit_lt e), Bool.true_and]
    rfl
  refine ⟨fun _ => timed_clearBy .., ?_, ?_⟩
  · cases named : m.getLsbD Event.major.bit
    · exact .inl (.kept (by simp [State.majorLatch, Monitor.cleared, isSet, named]))
    · exact .inr (by simp [State.majorLatch, Latch.empty, Monitor.cleared, isSet, named])
  · cases named : m.getLsbD Event.minor.bit
    · exact .inl (.kept (by simp [State.minorLatch, Monitor.cleared, isSet, named]))
    · exact .inr (by simp [State.minorLatch, Latch.empty, Monitor.cleared, isSet, named])

/-- R157: a line reset clears every flag, both latches and both records. -/
theorem moved_resetLineNow (s : State) : AttnMoved s (resetLineNow s) := by
  have posted : Quiet (clearForReset s) (resetLineNow s) := (works_postStops _ none (clearForReset s)).quiet (by simp)
  have cleared : (clearForReset s).attn.flags = 0 := by
    simp [clearForReset, Attention.clearFlags, syncReminder_eq]
  have clear (e : Event) : (clearForReset s).attn.isSet e = false := by rw [Attention.isSet, cleared]; simp
  have empty : (clearForReset s).majorLatch = .empty ∧ (clearForReset s).minorLatch = .empty := by
    simp only [State.majorLatch, State.minorLatch, clear]
    exact ⟨rfl, rfl⟩
  obtain ⟨major, minor⟩ := posted.latches
  exact ⟨fun _ => posted.attn.timed (timed_syncReminder _), .inr (major.trans empty.1), .inr (minor.trans empty.2)⟩

/-- Every owner's step moves the two classes and the reminder timer so. -/
theorem Served.attnMoved (h : Served s t) : AttnMoved s t := by
  cases h with
  | still => exact (Attends.refl s).moved
  | profile | access | defined | redefined | slotState | erased | speed | ignoredCleared | walked | staleCleared
  | addressed | countersCleared => exact ⟨id, .inl (.kept rfl), .inl (.kept rfl)⟩
  | edited => exact ((works_applyEdit _ s).quiet (by simp)).attends.moved
  | announced _ _ _ taken =>
    exact (Quiet.of_same (by simp [takeProgram_keeps taken]) (by simp [takeProgram_keeps taken])).attends.moved
  | cancelled => exact (Quiet.of_same (by simp) (by simp)).attends.moved
  | amended _ _ _ moved =>
    exact ((quiet_applyAmend ..).after (by simp [moveProgram_keeps moved]) (by simp [moveProgram_keeps moved])).attends.moved
  | identified _ _ _ _ moved =>
    exact (Quiet.of_same (by simp [moveProgram_keeps moved]) (by simp [moveProgram_keeps moved])).attends.moved
  | placed _ _ _ _ _ taken =>
    exact ((quiet_applyPlace ..).after (by simp [takeProgram_keeps taken]) (by simp [takeProgram_keeps taken])).attends.moved
  | retired => exact (Quiet.of_same (by simp) (by simp)).attends.moved
  | enabled =>
    exact (((works_enterState ..).quiet (by simp)).after (by simp) (by simp)).attends.moved
  | disabled => exact ((works_leaveService ..).quiet (by simp)).attends.moved
  | halted => exact (quiet_haltLine s).attends.moved
  | resumed => exact Attends.moved (Quiet.attends (.of_same (by simp) (by simp)))
  | lineReset => exact moved_resetLineNow s
  | eventsCleared m => exact moved_clearBy s m
  | attention m mode =>
    rename_i interval _
    have flags : (s.attn.configure m mode interval).flags = s.attn.flags := by rw [configure_eq]
    have same (e : Event) : (s.attn.configure m mode interval).isSet e = s.attn.isSet e :=
      congrArg (BitVec.getLsbD · e.bit) flags
    have timed : (s.attn.configure m mode interval).Timed := timed_configure ..
    exact (Attends.of_flags (t := s.withAttn _) (fun _ => timed) (same .major) (same .minor) rfl).moved

theorem powerOn_latches (pins : Pins) (waiting : List Instr) :
    (powerOnState pins waiting).attn.Timed ∧ (powerOnState pins waiting).majorLatch = .empty
    ∧ (powerOnState pins waiting).minorLatch = .empty := by
  have clear (e : Event) : Attention.powerOn.isSet e = false := by cases e <;> decide
  have timed : Attention.powerOn.Timed := by
    rw [Attention.Timed]
    decide
  exact ⟨timed, congrArg (Latch.mk · none none) (clear .major), congrArg (Latch.mk · none none) (clear .minor)⟩

/-- A step of a part that stays powered moves the two classes and the reminder timer so, and a power-on reset leaves
both classes clear. -/
theorem attnMoved_of_step (h : step s = .next t) : AttnMoved s t := by
  obtain ⟨waiting, h⟩ := stepped_of_step h
  have powerOn (pins : Pins) : AttnMoved s (powerOnState pins waiting) :=
    have ⟨timed, major, minor⟩ := powerOn_latches pins waiting
    ⟨fun _ => timed, .inr major, .inr minor⟩
  refine h.keeps (Law := AttnMoved s) ⟨id, .inl (.kept rfl), .inl (.kept rfl)⟩ (fun pins _ => powerOn pins)
    (fun pins => ?halted) ⟨id, .inl (.kept rfl), .inl (.kept rfl)⟩ (fun _ u k => ?event) (fun _ u k => ?served)
    (fun u l k => ⟨k.timed, k.major, k.minor⟩) (fun u k => k.raise_link)
  case event => exact ⟨k.attends.timed, .inl k.attends.major, .inl k.attends.minor⟩
  case served => exact ⟨k.attnMoved.timed, k.attnMoved.major, k.attnMoved.minor⟩
  case halted =>
    have halted := quiet_haltLine (powerOnState pins waiting)
    obtain ⟨timed, major, minor⟩ := powerOn_latches pins waiting
    exact ⟨fun _ => halted.attn.timed timed, .inr (halted.latches.1.trans major), .inr (halted.latches.2.trans minor)⟩

/-- Settles O58: every step keeps the reminder timer with its conditions and each latch with its flag. -/
theorem attentionLawIsKept : Obligations.AttentionLawIsKept := by
  intro s t law h
  obtain ⟨timed, major, minor⟩ := attentionLaw_iff.1 law
  have moved := attnMoved_of_step h
  exact attentionLaw_iff.2 ⟨moved.timed timed, moved.major.lawful major, moved.minor.lawful minor⟩

/-- R145, R146: while a class's flag stays set, no step changes its latch. -/
theorem latches_hold (h : step s = .next t) :
    (s.attn.isSet .major = true → t.attn.isSet .major = true → t.monitor.firstMajor = s.monitor.firstMajor)
    ∧ (s.attn.isSet .minor = true → t.attn.isSet .minor = true → t.monitor.firstMinor = s.monitor.firstMinor) :=
  ⟨(attnMoved_of_step h).major.holds, (attnMoved_of_step h).minor.holds⟩

end Sys2Proof.Machine

/-! The references that records and announcements hold on program slots (R31, R32). -/

namespace Sys2Proof.Machine

variable {s t : State}

/-- R31: the slots with one reference more on this one; none takes nothing (R32). -/
def addRef (slot : Option (Fin 16)) (p : Vector Slot 16) : Vector Slot 16 :=
  match slot with
  | none => p
  | some k => bankSet p k { p[k] with refs := p[k].refs + 1 }

/-- R31: the slots with one reference less on this one; none releases nothing (R32). -/
def dropRef (slot : Option (Fin 16)) (p : Vector Slot 16) : Vector Slot 16 :=
  match slot with
  | none => p
  | some k => bankSet p k { p[k] with refs := p[k].refs - 1 }

@[simp] theorem addRef_none (p : Vector Slot 16) : addRef none p = p := rfl
@[simp] theorem dropRef_none (p : Vector Slot 16) : dropRef none p = p := rfl

theorem addRef_get (slot : Option (Fin 16)) (p : Vector Slot 16) (k : Fin 16) :
    (addRef slot p)[k] = { p[k] with refs := p[k].refs + if slot = some k then 1 else 0 } := by
  cases slot with
  | none => simp
  | some j =>
    unfold addRef
    dsimp only
    rw [bankSet_get]
    by_cases same : k = j
    · subst same
      simp
    · simp [same, Ne.symm same]

theorem dropRef_get (slot : Option (Fin 16)) (p : Vector Slot 16) (k : Fin 16) :
    (dropRef slot p)[k] = { p[k] with refs := p[k].refs - if slot = some k then 1 else 0 } := by
  cases slot with
  | none => simp
  | some j =>
    unfold dropRef
    dsimp only
    rw [bankSet_get]
    by_cases same : k = j
    · subst same
      simp
    · simp [same, Ne.symm same]

theorem releaseProgram_eq (slot : Option (Fin 16)) (s : State) :
    releaseProgram slot s = s.withPrograms (dropRef slot s.programs) := by
  cases slot <;> rfl

/-- R25, R31: the slot takes a new reference. -/
def State.assignable (s : State) (slot : Option (Fin 16)) : Prop :=
  ∀ k, slot = some k → s.programs[k].state = .opened ∨ s.programs[k].state = .frozen

theorem assignable_none (s : State) : s.assignable none := nofun

theorem takeProgram_ok {slot : Option (Fin 16)} (h : takeProgram slot s = .ok t) :
    s.assignable slot ∧ t = s.withPrograms (addRef slot s.programs) := by
  cases slot with
  | none => exact ⟨assignable_none s, (Except.ok.inj h).symm⟩
  | some k =>
    obtain ⟨state, rfl⟩ := takeSlot_ok h
    exact ⟨fun j same => Option.some.inj same ▸ state, rfl⟩

theorem takeProgram_of_assignable {slot : Option (Fin 16)} (h : s.assignable slot) :
    takeProgram slot s = .ok (s.withPrograms (addRef slot s.programs)) := by
  cases slot with
  | none => rfl
  | some k =>
    rcases h k rfl with state | state
    · simp only [takeProgram, takeSlot, state]
      rfl
    · simp only [takeProgram, takeSlot, state]
      rfl

theorem takeProgram_of_empty {k : Fin 16} (h : s.programs[k].state = .empty) :
    takeProgram (some k) s = .error .slotEmpty := by
  simp only [takeProgram, takeSlot, h]

theorem takeProgram_of_withdrawn {k : Fin 16} (h : s.programs[k].state = .withdrawn) :
    takeProgram (some k) s = .error .slotNotAssignable := by
  simp only [takeProgram, takeSlot, h]

/-- R31: the slots after a change of program. -/
def moveRef (old new : Option (Fin 16)) (p : Vector Slot 16) : Vector Slot 16 :=
  if old = new then p else dropRef old (addRef new p)

theorem moveProgram_eq {old new : Option (Fin 16)} (h : moveProgram old new s = .ok t) :
    t = s.withPrograms (moveRef old new s.programs) := by
  rcases moveProgram_ok h with ⟨same, rfl⟩ | ⟨other, u, taken, rfl⟩
  · rw [moveRef, if_pos same]
    rfl
  · obtain ⟨-, rfl⟩ := takeProgram_ok taken
    rw [moveRef, if_neg other, releaseProgram_eq]
    rfl

theorem moveProgram_self (slot : Option (Fin 16)) (s : State) : moveProgram slot slot s = .ok s := if_pos rfl

theorem moveProgram_of_assignable {old new : Option (Fin 16)} (h : s.assignable new) :
    moveProgram old new s = .ok (s.withPrograms (moveRef old new s.programs)) := by
  unfold moveProgram moveRef
  split
  · rfl
  · rw [takeProgram_of_assignable h]
    exact congrArg Except.ok (releaseProgram_eq ..)

theorem moveProgram_of_error {old new : Option (Fin 16)} {e : Result} (other : old ≠ new)
    (h : takeProgram new s = .error e) : moveProgram old new s = .error e := by
  rw [moveProgram, if_neg other, h]

/-- R32: only reference counts have changed. -/
structure OnlyRefs (p q : Vector Slot 16) : Prop where
  each : ∀ k : Fin 16, ∃ n, q[k] = { p[k] with refs := n }

theorem OnlyRefs.refl (p : Vector Slot 16) : OnlyRefs p p := ⟨fun k => ⟨p[k].refs, rfl⟩⟩

theorem OnlyRefs.trans {p q r : Vector Slot 16} (h : OnlyRefs p q) (g : OnlyRefs q r) : OnlyRefs p r := ⟨fun k => by
  obtain ⟨m, hm⟩ := h.each k
  obtain ⟨n, hn⟩ := g.each k
  exact ⟨n, by rw [hn, hm]⟩⟩

theorem OnlyRefs.of_eq {o p q : Vector Slot 16} (h : OnlyRefs p q) (same : p = o) : OnlyRefs o q := same ▸ h

theorem onlyRefs_addRef (slot : Option (Fin 16)) (p : Vector Slot 16) : OnlyRefs p (addRef slot p) :=
  ⟨fun k => ⟨_, addRef_get slot p k⟩⟩

theorem onlyRefs_dropRef (slot : Option (Fin 16)) (p : Vector Slot 16) : OnlyRefs p (dropRef slot p) :=
  ⟨fun k => ⟨_, dropRef_get slot p k⟩⟩

theorem onlyRefs_moveRef (old new : Option (Fin 16)) (p : Vector Slot 16) : OnlyRefs p (moveRef old new p) := by
  unfold moveRef
  split
  · exact .refl p
  · exact (onlyRefs_addRef ..).trans (onlyRefs_dropRef ..)

/-! ### Arrivals (R61) -/

theorem removeRecord_programs (r : Record) (s : State) : (removeRecord r s).programs = dropRef r.slot s.programs := by
  rw [removeRecord, releaseProgram_eq]
  rfl

theorem displaceRecord_programs (r : Record) (s : State) : (displaceRecord r s).programs = dropRef r.slot s.programs := by
  rw [displaceRecord]
  exact removeRecord_programs r s

theorem TakesDefault.programs {slot : Option (Fin 16)} {u : State} (h : TakesDefault s slot u) :
    u.programs = addRef slot s.programs := by
  rcases h with ⟨rfl, taken⟩ | ⟨rfl, -, rfl⟩
  · obtain ⟨-, rfl⟩ := takeProgram_ok taken
    rfl
  · rfl

theorem onlyRefs_admitCarrier (s : State) : OnlyRefs s.programs (admitCarrier s).programs := by
  unfold admitCarrier
  split
  · exact .refl _
  · rename_i i g next
    dsimp only
    rw [(exitWindowWatch_keeps ..).2.1, (platingEndWatch_keeps ..).2.1, (clipRearmost_keeps ..).2.1]
    split
    · rw [(bindAnnouncement_keeps ..).2.1]
      exact .refl _
    · obtain ⟨slot, u, takes, made⟩ := makeUnannounced_eq i g s
      rw [made, (raise_keeps ..).2.1, (putRecord_keeps ..).2.1, takes.programs]
      exact onlyRefs_addRef ..

theorem onlyRefs_entryArrival (s : State) : OnlyRefs s.programs (entryArrival s).programs := by
  unfold entryArrival
  split
  · exact .refl _
  · split
    · exact onlyRefs_admitCarrier s
    · split
      · rename_i r _
        exact (displaceRecord_programs r s ▸ onlyRefs_dropRef ..).trans (onlyRefs_admitCarrier _)
      · unfold loseCarrier
        split
        · exact .refl _
        · rw [releaseProgram_eq]
          exact onlyRefs_dropRef ..

theorem onlyRefs_takeEdge (which : Sensor) (s : State) : OnlyRefs s.programs (takeEdge which s).programs := by
  unfold takeEdge
  dsimp only
  split
  · cases which with
    | entry =>
      simp only [arrival]
      exact (onlyRefs_entryArrival _).of_eq rfl
    | exit =>
      simp only [arrival]
      rw [(exitArrival_keeps _).2.1]
      exact .refl _
  · exact .refl _

/-- Of the events, a sensor's edge alone reaches the Program Store. -/
theorem Happened.onlyRefs (h : Happened s t) : OnlyRefs s.programs t.programs := by
  cases h with
  | edge which => exact onlyRefs_takeEdge which s
  | _ => simpa using OnlyRefs.refl _

end Sys2Proof.Machine

/-! The ranges of what the part counts and holds, and the laws of the state after reset. -/

namespace Sys2Proof.Machine

/-! ### The state after reset -/

theorem restartTimer_reset (z : Fin 16) : State.reset.zones[z].restartTimer = none := by revert z; decide

theorem state_reset (z : Fin 16) : State.reset.zones[z].state = .disabled := by revert z; decide

theorem haltLaw_reset : HaltLaw State.reset where
  active := nofun
  held := nofun
  timers z running := absurd (restartTimer_reset z) running

theorem motionLaw_reset : MotionLaw State.reset where
  stopTimer := by decide
  parkTimer := by decide
  stopMark := by decide
  running := by decide
  protect := by decide
  timers z running := absurd (restartTimer_reset z) running

theorem mapLaw_reset : MapLaw State.reset where
  valid := powerOn_map_valid
  enableable z := by
    have out : State.reset.inService z = false := by revert z; decide
    rw [out]
    nofun

theorem serviceLaw_reset (z : Fin 16) : ServiceLaw State.reset.zones[z] := by
  have idle : State.reset.zones[z] = Sequencer.powerOn := by revert z; decide
  rw [idle]
  exact serviceLaw_of_out (by simp [Sequencer.InRun, Sequencer.powerOn]) ⟨rfl, nofun⟩ (by decide) rfl rfl

theorem referenceLaw_reset : ReferenceLaw State.reset where
  counts := by decide
  empty := by decide

theorem attentionLaw_reset : AttentionLaw State.reset := by
  obtain ⟨timed, major, minor⟩ := powerOn_latches ⟨false, false, false, false, true, 0, 0⟩ []
  exact attentionLaw_iff.2 ⟨timed, major ▸ lawful_empty, minor ▸ lawful_empty⟩

theorem rangeLaw_reset : RangeLaw State.reset where
  line := by constructor <;> decide
  densities := by decide
  ratings := by decide
  profiles := by decide
  programs := by decide
  link := by decide
  ignored := by decide
  channels := by decide
  zones := by decide
  accounts := by decide
  records := by decide
  announced := by decide
  speed := by decide
  station := by decide
  interval := by decide

theorem live_reset {r : Record} (live : r ∈ State.reset.table.live) : False := List.not_mem_nil live

theorem holdLaw_reset : HoldLaw State.reset := by
  have none (z : Fin 16) : State.reset.zones[z].pending = [] := by revert z; decide
  refine ⟨fun _ live => (live_reset live).elim, fun z n pending => ?_, fun z n pending => ?_⟩
  · rw [none z] at pending
    cases pending
  · rw [none z] at pending
    cases pending

/-- Settles O60. -/
theorem lawsHoldAtReset : Obligations.LawsHoldAtReset :=
  ⟨haltLaw_reset, motionLaw_reset, mapLaw_reset, serviceLaw_reset, ⟨List.nodup_nil, fun _ waits => absurd rfl waits⟩,
    tableLaw_empty rfl rfl, referenceLaw_reset, watchLaw_empty rfl, attentionLaw_reset, rangeLaw_reset,
    ⟨.nil, fun _ live => (live_reset live).elim⟩, holdLaw_reset⟩

/-! ### A length beyond its range (R54, R61) -/

/-- A record of the counterexample to the law of ranges: of index 0 and generation 0, and with no area. -/
def twin (entryMark : Count) (length : Nat) : Record :=
  { Record.fresh 0 0 entryMark .placed with length := length }

/-- Two live records of one index and generation, the first with a lead of 5000 mm and the second with one of 600 mm,
and an entry edge that waits: the clip of R61 step 5 names the second and finds the first. -/
def State.twinned : State :=
  { State.reset with
    pos := { Position.powerOn false false false false with count := 5000 }
    table := { CarrierTable.powerOn with live := [twin 0 700, twin 4400 700] }
    pending := [.sensorEdge .entry] }

theorem rangeLaw_twinned : RangeLaw State.twinned :=
  { rangeLaw_reset with accounts := by decide, records := by decide, announced := by decide }

theorem twinned_step : step State.twinned = .next (takeEdge .entry { State.twinned with pending := [] }) :=
  (frontCommandIsRun.1 (.sensorEdge .entry) [] State.twinned).trans (next_awake rfl _)

theorem twinned_length :
    (takeEdge .entry { State.twinned with pending := [] }).table.live.map Record.length = [5000, 700, 600] := by
  decide

/-- Refutes O59: the law of ranges asks nothing of indexes, and where two live records bear one index and generation an
entry arrival clips the wrong one of them to a length of 5000 mm. (Under the law of tags no two do.) -/
theorem not_rangeLawIsKept : ¬ Obligations.RangeLawIsKept := by
  intro kept
  have law := kept _ _ rangeLaw_twinned twinned_step
  have long : 5000 ∈ (takeEdge .entry { State.twinned with pending := [] }).table.live.map Record.length := by
    rw [twinned_length]
    exact List.mem_cons_self ..
  obtain ⟨r, live, length⟩ := List.mem_map.1 long
  obtain ⟨-, within, -⟩ := law.records r live
  omega

end Sys2Proof.Machine

/-! The requests about announcements and records (R59, R69 to R72). -/

namespace Sys2Proof.Machine

variable {s t u : State}

/-! ### ANNOUNCE (R59) -/

theorem ownAnnounce_refused {f : AnnounceFields} {a : Announcement} {e : Result}
    (carried : announcementOf s.map.line.lMin f = some a) (fresh : s.tagHeld a.tag = false)
    (room : s.table.queue.length < 8) (refused : takeProgram a.slot s = .error e) :
    ownAnnounce f s = refuse s e := by
  have notFull : ¬ Config.queueSize ≤ s.table.queue.length := Nat.not_le.2 room
  simp only [ownAnnounce, carried, fresh, notFull, Bool.false_eq_true, if_false, refused]

theorem ownAnnounce_taken {f : AnnounceFields} {a : Announcement} (carried : announcementOf s.map.line.lMin f = some a)
    (fresh : s.tagHeld a.tag = false) (room : s.table.queue.length < 8) (taken : s.assignable a.slot) :
    ownAnnounce f s = accept ((s.withPrograms (addRef a.slot s.programs)).withTable
      { s.table with queue := s.table.queue ++ [a] }) (nat1 (s.table.queue.length + 1)) := by
  have notFull : ¬ Config.queueSize ≤ s.table.queue.length := Nat.not_le.2 room
  simp only [ownAnnounce, carried, fresh, notFull, Bool.false_eq_true, if_false, takeProgram_of_assignable taken,
    State.withPrograms_table]

/-- Settles O20. -/
theorem announceRequest : Obligations.AnnounceRequest := by
  intro addr f s listening
  refine ⟨fun carried => ?_, fun a carried => ⟨fun held => ?_, fun fresh full => ?_, fun fresh room => ⟨fun noProgram => ?_,
    fun k program => ⟨fun empty => ?_, fun withdrawn => ?_, fun free => ?_⟩⟩⟩⟩
  · exact exec_refused listening (r := .announce f) (by simp [serve, ownAnnounce, carried])
  · exact exec_refused listening (r := .announce f) (by simp [serve, ownAnnounce, carried, held])
  · exact exec_refused listening (r := .announce f) (by simp [serve, ownAnnounce, carried, fresh, Config.queueSize, full])
  · have taken : s.assignable a.slot := noProgram ▸ assignable_none s
    have done := exec_accepted listening (r := .announce f) (ownAnnounce_taken carried fresh room taken)
    rw [noProgram] at done
    exact done
  · exact exec_refused listening (r := .announce f)
      (ownAnnounce_refused carried fresh room (program ▸ takeProgram_of_empty empty))
  · exact exec_refused listening (r := .announce f)
      (ownAnnounce_refused carried fresh room (program ▸ takeProgram_of_withdrawn withdrawn))
  · have taken : s.assignable a.slot := fun j same => Option.some.inj (program.symm.trans same) ▸ free
    have done := exec_accepted listening (r := .announce f) (ownAnnounce_taken carried fresh room taken)
    rw [program] at done
    exact done

/-! ### AMEND (R69) -/

theorem ownAmend_refused {f : AmendFields} {a : Amendment} {r : Record} {e : Result}
    (carried : amendmentOf s.map.line.lMin f = some a)
    (found : (s.table.live.find? fun r => r.tag == a.tag) = some r) (clear : s.lengthOverlaps r a.length = false)
    (refused : moveProgram r.slot (a.program.getD r.slot) s = .error e) : ownAmend f s = refuse s e := by
  simp only [ownAmend, carried, findTag, found, clear, Bool.false_eq_true, if_false, refused]

theorem ownAmend_taken {f : AmendFields} {a : Amendment} {r : Record} (carried : amendmentOf s.map.line.lMin f = some a)
    (found : (s.table.live.find? fun r => r.tag == a.tag) = some r) (clear : s.lengthOverlaps r a.length = false)
    (moved : moveProgram r.slot (a.program.getD r.slot) s = .ok u) :
    ownAmend f s = acceptRecord r.index r.generation (applyAmend r a u) := by
  simp only [ownAmend, carried, findTag, found, clear, Bool.false_eq_true, if_false, moved]

theorem applyAmend_eq (r : Record) (a : Amendment) (s : State) :
    applyAmend r a s = if a.length = none then modifyRecord r.index r.generation (fun q => q.amendedBy a) s
      else platingEndWatch r.index r.generation (modifyRecord r.index r.generation (fun q => q.amendedBy a) s) := by
  unfold applyAmend
  cases a.length <;> rfl

/-- Settles O22. -/
theorem amendRequest : Obligations.AmendRequest := by
  intro addr f s listening
  refine ⟨fun carried => ?_, fun a carried => ⟨fun found => ?_, fun r found => ⟨fun overlap => ?_, fun clear =>
    ⟨fun e refused => ?_, fun u moved => ?_⟩⟩⟩⟩
  · exact exec_refused listening (r := .amend f) (by simp [serve, ownAmend, carried])
  · exact exec_refused listening (r := .amend f) (by simp only [serve, ownAmend, carried, findTag, found])
  · exact exec_refused listening (r := .amend f) (by simp only [serve, ownAmend, carried, findTag, found, overlap, if_true])
  · exact exec_refused listening (r := .amend f) (ownAmend_refused carried found clear refused)
  · have owner : serve (.amend f) s = acceptRecord r.index r.generation (applyAmend r a u) :=
      ownAmend_taken carried found clear moved
    rw [applyAmend_eq] at owner
    exact exec_accepted listening owner

/-! ### IDENTIFY (R70) -/

/-- R70: the program that an IDENTIFY leaves the record with. -/
def identifiedSlot (r : Record) (k : Option (Fin 16)) : Option (Fin 16) := if k = none then r.slot else k

theorem ownIdentify_refused {index generation : Byte} {tag : Half} {slot : Option Byte} {i : Fin 64} {t : Nat}
    {k : Option (Fin 16)} {r : Record} {e : Result} (carried : identityOf index tag slot = some (i, t, k))
    (found : (s.table.live.find? fun r => r.index == i && r.generation == generation) = some r) (untagged : r.tag = 0)
    (fresh : s.tagHeld t = false) (refused : moveProgram r.slot (identifiedSlot r k) s = .error e) :
    ownIdentify index generation tag slot s = refuse s e := by
  cases k with
  | none =>
    replace refused : moveProgram r.slot r.slot s = .error e := refused
    simp only [ownIdentify, carried, findRecord, Record.named, found, untagged, fresh, ne_eq, not_true_eq_false, if_false,
      Bool.false_eq_true, refused]
  | some k =>
    replace refused : moveProgram r.slot (some k) s = .error e := refused
    simp only [ownIdentify, carried, findRecord, Record.named, found, untagged, fresh, ne_eq, not_true_eq_false, if_false,
      Bool.false_eq_true, refused]

theorem ownIdentify_taken {index generation : Byte} {tag : Half} {slot : Option Byte} {i : Fin 64} {t : Nat}
    {k : Option (Fin 16)} {r : Record} (carried : identityOf index tag slot = some (i, t, k))
    (found : (s.table.live.find? fun r => r.index == i && r.generation == generation) = some r) (untagged : r.tag = 0)
    (fresh : s.tagHeld t = false) (moved : moveProgram r.slot (identifiedSlot r k) s = .ok u) :
    ownIdentify index generation tag slot s
      = acceptRecord r.index r.generation (applyIdentify r t (identifiedSlot r k) u) := by
  cases k with
  | none =>
    replace moved : moveProgram r.slot r.slot s = .ok u := moved
    simp only [ownIdentify, carried, findRecord, Record.named, found, untagged, fresh, ne_eq, not_true_eq_false, if_false,
      Bool.false_eq_true, moved, identifiedSlot, if_true]
  | some k =>
    replace moved : moveProgram r.slot (some k) s = .ok u := moved
    simp only [ownIdentify, carried, findRecord, Record.named, found, untagged, fresh, ne_eq, not_true_eq_false, if_false,
      Bool.false_eq_true, moved, identifiedSlot, reduceCtorEq]

/-- Settles O23. -/
theorem identifyRequest : Obligations.IdentifyRequest := by
  intro addr index generation tag slot s listening
  refine ⟨fun carried => ?_, fun i t k carried => ⟨fun found => ?_, fun r found => ⟨fun tagged => ?_, fun untagged held => ?_,
    fun untagged fresh => ⟨fun e refused => ?_, fun u moved => ?_⟩⟩⟩⟩
  · exact exec_refused listening (r := .identify index generation tag slot) (by simp [serve, ownIdentify, carried])
  · exact exec_refused listening (r := .identify index generation tag slot)
      (by simp only [serve, ownIdentify, carried, findRecord, Record.named, found])
  · exact exec_refused listening (r := .identify index generation tag slot)
      (by simp only [serve, ownIdentify, carried, findRecord, Record.named, found, ne_eq, tagged, not_false_eq_true, if_true])
  · exact exec_refused listening (r := .identify index generation tag slot)
      (by simp only [serve, ownIdentify, carried, findRecord, Record.named, found, ne_eq, untagged, not_true_eq_false,
        if_false, held, if_true])
  · exact exec_refused listening (r := .identify index generation tag slot)
      (ownIdentify_refused carried found untagged fresh refused)
  · exact exec_accepted listening (r := .identify index generation tag slot)
      (ownIdentify_taken carried found untagged fresh moved)

/-! ### PLACE (R71) -/

/-- R71, check 2: no tag is carried, or one that is not held. -/
theorem tag_fits {tag : Nat} (fresh : tag = 0 ∨ s.tagHeld tag = false) : ¬ (tag ≠ 0 ∧ s.tagHeld tag = true) := by
  rintro ⟨tagged, held⟩
  rcases fresh with untagged | free
  · exact tagged untagged
  · exact absurd (held.symm.trans free) (by simp)

section
variable {f : PlaceFields} {p : Placement} {i : Fin 64} (carried : placementOf s.map.line.lMin f = some p)
  (fresh : p.tag = 0 ∨ s.tagHeld p.tag = false) (room : s.table.live.length < 64) (free : freeIndex s.table.live = some i)
include carried fresh room free

/-- R71: the record that the PLACE would make. -/
theorem ownPlace_overlaps
    (overlap : s.placeOverlaps (placedRecord p i (s.table.generations[i] + 1) (s.placedMark p.lead)) = true) :
    ownPlace f s = refuse s .overlap := by
  have notFull : ¬ Config.tableSize ≤ s.table.live.length := Nat.not_le.2 room
  have next : s.nextIndex = some (i, s.table.generations[i] + 1) := by rw [State.nextIndex, free]; rfl
  simp only [ownPlace, carried, tag_fits fresh, if_false, next, notFull, overlap, if_true]

theorem ownPlace_refused {e : Result}
    (clear : s.placeOverlaps (placedRecord p i (s.table.generations[i] + 1) (s.placedMark p.lead)) = false)
    (refused : takeProgram p.slot s = .error e) : ownPlace f s = refuse s e := by
  have notFull : ¬ Config.tableSize ≤ s.table.live.length := Nat.not_le.2 room
  have next : s.nextIndex = some (i, s.table.generations[i] + 1) := by rw [State.nextIndex, free]; rfl
  simp only [ownPlace, carried, tag_fits fresh, if_false, next, notFull, clear, Bool.false_eq_true, refused]

theorem ownPlace_taken
    (clear : s.placeOverlaps (placedRecord p i (s.table.generations[i] + 1) (s.placedMark p.lead)) = false)
    (taken : takeProgram p.slot s = .ok u) :
    ownPlace f s = accept (applyPlace (placedRecord p i (s.table.generations[i] + 1) (s.placedMark p.lead)) u)
      (nat1 i ++ [s.table.generations[i] + 1]
        ++ position4 (s.lead (placedRecord p i (s.table.generations[i] + 1) (s.placedMark p.lead)))) := by
  have notFull : ¬ Config.tableSize ≤ s.table.live.length := Nat.not_le.2 room
  have next : s.nextIndex = some (i, s.table.generations[i] + 1) := by rw [State.nextIndex, free]; rfl
  simp only [ownPlace, carried, tag_fits fresh, if_false, next, notFull, clear, Bool.false_eq_true, taken]

end

theorem ownPlace_full {f : PlaceFields} {p : Placement} (carried : placementOf s.map.line.lMin f = some p)
    (fresh : p.tag = 0 ∨ s.tagHeld p.tag = false) (full : 64 ≤ s.table.live.length) :
    ownPlace f s = refuse s .tableFull := by
  have tableFull : Config.tableSize ≤ s.table.live.length := full
  simp only [ownPlace, carried, tag_fits fresh, if_false]
  split
  · rfl
  · rw [if_pos tableFull]

/-- R71, R52: a placed record is put in line, and then only worked on. -/
theorem works_applyPlace (r : Record) (s : State) : Works [.target, .shortfall, .missedExit]
    (putRecord (insertInLine s.map.line.scale r s.table.live) r s) (applyPlace r s) :=
  .trans (.trans (.trans ((works_testTarget ..).mono (by simp)) ((works_testTarget ..).mono (by simp)))
    ((works_platingEndWatch ..).mono (by simp))) ((works_exitWindowWatch ..).mono (by simp))

theorem length_insertInLine (scale : Nat) (r : Record) (live : List Record) :
    (insertInLine scale r live).length = live.length + 1 := by
  obtain ⟨ahead, behind, line, inserted⟩ := insertInLine_split scale r live
  rw [inserted, line]
  simp [Nat.add_assoc]

theorem applyPlace_length (r : Record) (s : State) :
    (applyPlace r s).table.live.length = s.table.live.length + 1 := by
  rw [← (works_applyPlace r s).table.live.length_eq]
  exact length_insertInLine ..

theorem applyPlace_generations (r : Record) (s : State) :
    (applyPlace r s).table.generations = bankSet s.table.generations r.index r.generation := by
  rw [(works_applyPlace r s).generations]
  rfl

/-- Settles O24. -/
theorem placeRequest : Obligations.PlaceRequest := by
  intro addr f s listening
  refine ⟨fun carried => ?_, fun p carried => ⟨fun tagged held => ?_, fun fresh => ⟨fun full => ?_, fun i room free =>
    ⟨fun overlap => ?_, fun clear => ⟨fun e refused => ?_, fun u taken => ?_⟩⟩⟩⟩⟩
  · exact exec_refused listening (r := .place f) (by simp [serve, ownPlace, carried])
  · exact exec_refused listening (r := .place f) (by simp [serve, ownPlace, carried, tagged, held])
  · exact exec_refused listening (r := .place f) (ownPlace_full carried fresh full)
  · exact exec_refused listening (r := .place f) (ownPlace_overlaps carried fresh room free overlap)
  · exact exec_refused listening (r := .place f) (ownPlace_refused carried fresh room free clear refused)
  · have owner := ownPlace_taken carried fresh room free clear taken
    obtain ⟨map, pos, table, zones, drive, -⟩ := takeProgram_keeps taken
    refine ⟨_, exec_accepted listening (r := .place f) owner, rfl, ?_, ?_, ?_, ?_, ?_, ?_⟩
    · rw [applyPlace_generations, table]
      rfl
    · rw [applyPlace_length, table]
    · simp [zones]
    · simp [drive]
    · simp [pos]
    · simp [map]

/-! ### RETIRE (R72, R73) -/

theorem named_iff (r : Record) (i : Fin 64) (g : BitVec 8) : r.named i g = true ↔ r.index = i ∧ r.generation = g := by
  simp [Record.named]

/-- R73: the cursor ahead of the first of these records. -/
def Cursor.aheadOfFirst : List Record → Cursor
  | q :: _ => .aheadOf q.index q.generation
  | [] => .nowhere

/-- R73: a cursor that points at a record moves off it to the record behind, and any other stays. -/
theorem cursor_without {live ahead behind : List Record} {r : Record} (line : live = ahead ++ r :: behind)
    (first : ∀ q ∈ ahead, q.named r.index r.generation = false) (c : Cursor) :
    c.without r.index r.generation live
      = if c = .atRecord r.index r.generation ∨ c = .aheadOf r.index r.generation then .aheadOfFirst behind else c := by
  have next : successorOf r.index r.generation live = behind.head? := by
    rw [line, successorOf_append_cons]
    simpa [Record.named] using first
  unfold Cursor.without
  rw [next]
  cases c with
  | nowhere => simp
  | atRecord i g =>
    simp only [Cursor.atRecord.injEq, reduceCtorEq, or_false, Bool.and_eq_true, beq_iff_eq]
    cases behind <;> rfl
  | aheadOf i g =>
    simp only [Cursor.aheadOf.injEq, reduceCtorEq, false_or, Bool.and_eq_true, beq_iff_eq]
    cases behind <;> rfl

/-- R72: the record is taken out of the line where it stands. -/
theorem removeRecord_at {ahead behind : List Record} {r : Record} (line : s.table.live = ahead ++ r :: behind)
    (first : ∀ q ∈ ahead, q.named r.index r.generation = false) :
    removeRecord r s = (s.withTable { s.table with
      live := ahead ++ behind
      cursor := s.table.cursor.without r.index r.generation s.table.live }).withPrograms
        (dropRef r.slot s.programs) := by
  rw [removeRecord, releaseProgram_eq, line, removeFirst_append first r.named_self]
  rfl

/-- Settles O25. -/
theorem retireRequest : Obligations.RetireRequest := by
  intro addr selector key s listening
  refine ⟨fun e refused => ?_, fun r ahead behind target line first => ?_, fun tag => ⟨fun zero => ?_, fun tagged => ?_⟩⟩
  · exact exec_refused listening (r := .retire selector key) (by simp only [serve, ownRetire, refused])
  · have notNamed : ∀ q ∈ ahead, q.named r.index r.generation = false := fun q mem => by
      rw [Bool.eq_false_iff, Ne, named_iff]
      rintro ⟨index, generation⟩
      rcases first q mem with other | other
      · exact other index
      · exact other generation
    have owner : serve (.retire selector key) s = accept (removeRecord r s) (s.recordPayload r) := by
      simp only [serve, ownRetire, target]
    rw [removeRecord_at line notNamed, cursor_without line notNamed] at owner
    refine (exec_accepted listening owner).trans ?_
    cases r.slot <;> cases behind <;> rfl
  · have chosen : (0 : Byte).toNat = 0 := rfl
    subst zero
    simp only [State.retireTarget, chosen, tagOf_zero]
  · have chosen : (0 : Byte).toNat = 0 := rfl
    simp only [State.retireTarget, chosen, tagOf_of_ne_zero tagged, findTag] <;> rfl

end Sys2Proof.Machine

/-! A taken map edit (R16, R17, R21, R52). -/

namespace Sys2Proof.Machine

variable {s t : State}

/-! ### What raises leave of the Attention Unit (R178, R182) -/

/-- R178, R182: raises change the flags, the pulse and the reminder timer alone. -/
def Attention.Reflagged (a b : Attention) : Prop :=
  b = { a with flags := b.flags, pulseOn := b.pulseOn, reminderTimer := b.reminderTimer }

theorem Attention.Reflagged.trans {a b c : Attention} (h : a.Reflagged b) (k : b.Reflagged c) : a.Reflagged c := by
  unfold Attention.Reflagged at *
  rw [k, h]

theorem reflagged_raiseFlag (a : Attention) (e : Event) : a.Reflagged (a.raiseFlag e) := by
  unfold Attention.raiseFlag
  split
  · rfl
  · dsimp only
    split
    · rw [requestPulse_eq, syncReminder_eq]
      rfl
    · rw [syncReminder_eq]
      rfl

theorem Raises.reflagged {events : List Event} {a b : Attention} (h : Raises events a b) : a.Reflagged b :=
  h.induct a.Reflagged rfl fun e _ c k => k.trans (reflagged_raiseFlag c e)

theorem mask_bits (e : Event) (m : BitVec 18) : (e.mask &&& m != 0) = m.getLsbD e.bit := by
  rw [ne_zero_iff_bit, Bool.eq_iff_iff, List.any_eq_true]
  constructor
  · rintro ⟨i, small, bit⟩
    obtain ⟨f, -, rfl⟩ := List.mem_map.1 (eventTable_bits ▸ small)
    rw [BitVec.getLsbD_and, mask_getLsbD, Bool.and_eq_true, decide_eq_true_eq] at bit
    exact bit.1 ▸ bit.2
  · intro bit
    refine ⟨e.bit, List.mem_range.2 (bit_lt e), ?_⟩
    rw [BitVec.getLsbD_and, mask_getLsbD, bit]
    simp

theorem or_ne_zero {n : Nat} (x y : BitVec n) : (x ||| y != 0) = ((x != 0) || (y != 0)) := by
  have zero : x ||| y = 0 ↔ x = 0 ∧ y = 0 := BitVec.or_eq_zero_iff
  by_cases hx : x = 0
  · simp [hx]
  · have nonzero : x ||| y ≠ 0 := fun h => hx (zero.1 h).1
    rw [bne_iff_ne.2 nonzero, bne_iff_ne.2 hx, Bool.true_or]

/-- R178, R182: the flag that is newly set requests a pulse. -/
theorem raiseFlag_pulseOn {a : Attention} {e : Event} (clear : a.isSet e = false) :
    (a.raiseFlag e).pulseOn = (a.pulseOn || (a.mode == .pulse && a.isEnabled e)) := by
  unfold Attention.raiseFlag
  simp only [clear, Bool.false_eq_true, if_false]
  split
  · rename_i request
    rw [requestPulse_eq, Bool.and_comm, request, Bool.or_true]
  · rename_i quiet
    have quiet : (a.isEnabled e && a.mode == .pulse) = false := by simpa using quiet
    rw [syncReminder_eq, Bool.and_comm, quiet, Bool.or_false]

/-- R178, R182: in PULSE mode an enabled flag newly set has requested a pulse. -/
def Attention.Pulsed (a b : Attention) : Prop :=
  b.pulseOn = (a.pulseOn || (a.mode == .pulse && b.flags &&& ~~~a.flags &&& a.enables != 0))

theorem pulsed_self (a : Attention) : a.Pulsed a := by
  have none : a.flags &&& ~~~a.flags &&& a.enables = 0 := by simp
  rw [Attention.Pulsed, none]
  simp

theorem pulsed_raiseFlag {a c : Attention} {e : Event} (frame : a.Reflagged c)
    (grown : a.isSet e = true → c.isSet e = true) (pulsed : a.Pulsed c) : a.Pulsed (c.raiseFlag e) := by
  cases set : c.isSet e with
  | true => rwa [raiseFlag_of_isSet set]
  | false =>
    have mode : c.mode = a.mode := by rw [frame]
    have enabled : c.isEnabled e = a.isEnabled e := by rw [Attention.isEnabled, frame]; rfl
    have fresh : a.isSet e = false := by
      rw [Bool.eq_false_iff]
      exact fun before => absurd (set.symm.trans (grown before)) (by simp)
    have bit : (~~~a.flags &&& a.enables).getLsbD e.bit = a.isEnabled e := by
      rw [BitVec.getLsbD_and, BitVec.getLsbD_not, decide_eq_true (bit_lt e), Bool.true_and, ← Attention.isSet, fresh]
      rfl
    have split : (c.flags ||| e.mask) &&& ~~~a.flags &&& a.enables
        = (c.flags &&& ~~~a.flags &&& a.enables) ||| (e.mask &&& (~~~a.flags &&& a.enables)) := by
      rw [BitVec.and_or_distrib_right, BitVec.and_or_distrib_right, BitVec.and_assoc e.mask]
    rw [Attention.Pulsed, raiseFlag_pulseOn set, raiseFlag_flags, split, or_ne_zero, mask_bits, bit, pulsed, mode, enabled,
      Bool.or_assoc, Bool.and_or_distrib_left]

theorem Raises.pulsed {events : List Event} {a b : Attention} (h : Raises events a b) : a.Pulsed b := by
  refine (h.induct (fun c => a.Reflagged c ∧ (∀ f, a.isSet f = true → c.isSet f = true) ∧ a.Pulsed c)
    ⟨rfl, fun _ => id, pulsed_self a⟩ fun e _ c => ?_).2.2
  rintro ⟨frame, grown, pulsed⟩
  refine ⟨frame.trans (reflagged_raiseFlag c e), fun f set => ?_, pulsed_raiseFlag frame (grown e) pulsed⟩
  rw [isSet_raiseFlag, grown f set, Bool.true_or]

theorem isSet_raised (b : Bool) (a : Attention) (e f : Event) :
    (if b then a.raiseFlag e else a).isSet f = (a.isSet f || (b && decide (f = e))) := by
  cases b
  · simp
  · simp [isSet_raiseFlag]

/-! ### A taken edit (R16, R52) -/

/-- Two states are one where every block is. -/
theorem state_eq {s t : State} (map : t.map = s.map) (programs : t.programs = s.programs) (pos : t.pos = s.pos)
    (table : t.table = s.table) (zones : t.zones = s.zones) (drive : t.drive = s.drive) (monitor : t.monitor = s.monitor)
    (sup : t.sup = s.sup) (link : t.link = s.link) (attn : t.attn = s.attn) (inReset : t.inReset = s.inReset)
    (pending : t.pending = s.pending) : t = s := by
  cases s
  cases t
  simp_all only

/-- R52: the watches that are tested, one after the other. -/
def testWatches (plating exits : Bool) (s : State) : State :=
  let tested := if plating then platingEndWatchAll s else s
  if exits then exitWindowWatchAll tested else tested

/-- R65: a record after the plating-end watch has tested it, where it is tested. -/
def State.platedIf (s : State) (plating : Bool) (r : Record) : Record := if plating then s.plated r else r

/-- R64, R65: a record after the watches that are tested have tested it. -/
def State.watchedBy (s : State) (plating exits : Bool) (r : Record) : Record :=
  if exits && s.losesSight r then { s.platedIf plating r with state := .lost } else s.platedIf plating r

theorem platedIf_false (s : State) : s.platedIf false = id := rfl

theorem watchedBy_false (s : State) (plating : Bool) : s.watchedBy plating false = s.platedIf plating := rfl

/-- R65: the plating-end watch, where it is tested, decides a SHORT outcome. -/
def State.shortened (s : State) (plating : Bool) : Bool :=
  plating && s.table.live.any fun r => s.plates r && ({ r with platingClosed := true } : Record).fallsShort

theorem plated_fields (s : State) (r : Record) : (s.plated r).state = r.state ∧ s.lead (s.plated r) = s.lead r := by
  have worked := plated_worked s r
  refine ⟨?_, worked.lead s⟩
  unfold State.plated
  split
  · unfold Record.settled
    split <;> rfl
  · rfl

theorem losesSight_plated (s : State) (r : Record) : s.losesSight (s.plated r) = s.losesSight r := by
  obtain ⟨state, lead⟩ := plated_fields s r
  rw [State.losesSight, state, lead]
  rfl

theorem losesSight_of_same {s t : State} (map : t.map = s.map) (pos : t.pos = s.pos) : t.losesSight = s.losesSight := by
  funext r
  rw [State.losesSight, State.lead, map, pos]
  rfl

theorem plates_of_same {s t : State} (map : t.map = s.map) (pos : t.pos = s.pos) : t.plates = s.plates := by
  funext r
  rw [State.plates, State.trail, State.lead, map, pos]
  rfl

theorem plated_of_same {s t : State} (map : t.map = s.map) (pos : t.pos = s.pos) : t.plated = s.plated := by
  funext r
  rw [State.plated, plates_of_same map pos]
  rfl

theorem platedIf_index (s : State) (plating : Bool) (r : Record) : (s.platedIf plating r).index = r.index := by
  cases plating
  · rfl
  · exact plated_index s r

theorem losesSight_platedIf (s : State) (plating : Bool) (r : Record) :
    s.losesSight (s.platedIf plating r) = s.losesSight r := by
  cases plating
  · rfl
  · exact losesSight_plated s r

/-- R50 to R52, R64, R65: what the watches that are tested make of the Carrier Table, and what they raise. -/
theorem testWatches_eq {s : State} (distinct : (s.table.live.map Record.index).Nodup) (plating exits : Bool) :
    testWatches plating exits s = raiseIf (exits && s.table.live.any s.losesSight) .missedExit
      (raiseIf (s.shortened plating) .shortfall (s.withLive (s.table.live.map (s.watchedBy plating exits)))) := by
  have tested : (if plating then platingEndWatchAll s else s) = raiseIf (s.shortened plating) .shortfall
      (s.withLive (s.table.live.map (s.platedIf plating))) := by
    cases plating with
    | true => exact platingEndWatchAll_eq distinct
    | false => simp [State.shortened, platedIf_false]
  unfold testWatches
  rw [tested]
  cases exits with
  | false => simp [watchedBy_false]
  | true =>
    simp only [if_true, Bool.true_and]
    generalize same : raiseIf (s.shortened plating) .shortfall (s.withLive (s.table.live.map (s.platedIf plating))) = u
    have map : u.map = s.map := by simp [← same]
    have pos : u.pos = s.pos := by simp [← same]
    have live : u.table.live = s.table.live.map (s.platedIf plating) := by simp [← same, State.withLive]
    have distinctU : (u.table.live.map Record.index).Nodup := by
      have same : Record.index ∘ s.platedIf plating = Record.index := funext (platedIf_index s plating)
      rw [live, List.map_map, same]
      exact distinct
    have sights : u.losesSight ∘ s.platedIf plating = s.losesSight :=
      funext fun r => (congrFun (losesSight_of_same map pos) _).trans (losesSight_platedIf s plating r)
    have sighted : u.sighted ∘ s.platedIf plating = s.watchedBy plating true := by
      funext r
      simp only [Function.comp, State.sighted, losesSight_of_same map pos, losesSight_platedIf, State.watchedBy,
        Bool.true_and]
    rw [exitWindowWatchAll_eq distinctU, live, List.any_map, sights, List.map_map, sighted, ← same, raiseIf_withLive]
    rfl

/-- R52: the plating-end watch is tested where E_plate moved. -/
def platingOf (m : LineMap) (s : State) : Bool := decide (m.ePlate ≠ s.map.ePlate)

/-- R52: the exit-window watch is tested where X_exit or W moved. -/
def exitsOf (m : LineMap) (s : State) : Bool :=
  decide (m.line.xExit ≠ s.map.line.xExit ∨ m.line.window ≠ s.map.line.window)

theorem applyEdit_eq (m : LineMap) (s : State) :
    applyEdit m s = testWatches (platingOf m s) (exitsOf m s) (s.withMap m) := by
  unfold applyEdit testWatches platingOf exitsOf
  by_cases plate : m.ePlate = s.map.ePlate <;>
    by_cases exit : m.line.xExit = s.map.line.xExit ∧ m.line.window = s.map.line.window
  all_goals simp [plate, exit, ← not_and_or]

/-- R16: a taken edit replaces the map, and the watches do the rest. -/
theorem mapReplaced_applyEdit (m : LineMap) (s : State) : MapReplaced s (applyEdit m s) m where
  frame := by
    obtain ⟨programs, pos, zones, drive, monitor, sup, link, inReset, pending⟩ := applyEdit_keeps m s
    exact state_eq (applyEdit_map m s) programs pos (works_applyEdit m s).table.rest zones drive monitor sup link
      (works_applyEdit m s).attn.reflagged inReset pending
  watches law := by
    have map : (applyEdit m s).map = (s.withMap m).map := applyEdit_map m s
    have pos : (applyEdit m s).pos = (s.withMap m).pos := by simp
    have sight := losesSight_of_same map pos
    have plates := plates_of_same map pos
    have plated := plated_of_same map pos
    have edited := (applyEdit_eq m s).trans
      (testWatches_eq (s := s.withMap m) law.indexes (platingOf m s) (exitsOf m s))
    have live : (applyEdit m s).table.live
        = s.table.live.map ((s.withMap m).watchedBy (platingOf m s) (exitsOf m s)) := by
      rw [edited]
      simp [State.withLive]
    have attn : (applyEdit m s).attn = if exitsOf m s && s.table.live.any (s.withMap m).losesSight
        then ((if (s.withMap m).shortened (platingOf m s) then s.attn.raiseFlag .shortfall else s.attn).raiseFlag .missedExit)
        else if (s.withMap m).shortened (platingOf m s) then s.attn.raiseFlag .shortfall else s.attn := by
      rw [edited, raiseIf_attn, raiseIf_attn]
      rfl
    dsimp only
    rw [sight, plates, plated]
    refine ⟨live, attn, ?_, ?_⟩
    · rw [attn, isSet_raised, isSet_raised, decide_eq_true rfl, decide_eq_false (by decide), Bool.and_true,
        Bool.and_false, Bool.or_false]
      rfl
    · rw [attn, isSet_raised, isSet_raised, decide_eq_true rfl, decide_eq_false (by decide), Bool.and_true,
        Bool.and_false, Bool.or_false]
      rfl
  flags e notExit notShort := (works_applyEdit m s).attn.isSet_other (by simp [notExit, notShort])
  pulse := (works_applyEdit m s).attn.pulsed
  still plate exit window := by
    have idle : applyEdit m s = s.withMap m := by
      rw [applyEdit_eq, platingOf, exitsOf]
      simp [plate, exit, window, testWatches]
    exact idle

theorem takeEdit_taken {m : LineMap} (free : s.accessRefusal = none) (keeps : s.keepsRunning m = true)
    (valid : m.valid s.table.live = true) : takeEdit (some m) s = accept (applyEdit m s) [] := by
  simp [takeEdit, free, keeps, valid]

/-- Settles O11. -/
theorem mapEditIsTaken : Obligations.MapEditIsTaken := by
  intro addr s listening admits
  have free := accessRefusal_open admits
  have taken (r : Request) {m : LineMap} (carried : s.mapEdit r = some (some m)) (keeps : s.keepsRunning m = true)
      (valid : m.valid s.table.live = true) :
      ∃ t : State, exec (requestCommand addr r) s = .next (t.answering addr (requestCode r) .accepted [])
        ∧ MapReplaced s t m :=
    ⟨_, exec_accepted listening ((serve_mapEdit carried).trans (takeEdit_taken free keeps valid)), mapReplaced_applyEdit m s⟩
  refine ⟨fun f z e carried => ?_, fun c iFmax iRmax => ?_, fun f l carried => ?_, ?_⟩
  · exact taken (.setZone f) (by simp [State.mapEdit, carried])
  · exact taken (.setChannel (byteOf c) iFmax iRmax) (by simp [State.mapEdit, indexOf_byteOf (n := 32) (by omega) c])
  · exact taken (.setLine f) (by simp [State.mapEdit, carried])
  · intro f i index lowTF highTF tO1 tR tO2 lowRho highRho period phi net
    have number : f.profile.toNat ≤ 7 := by
      have small := indexOf_some (index ▸ indexOf_byteOf (n := 8) (by omega) i)
      omega
    have carried := profileOf_eq index ⟨number, lowTF, highTF, tO1, tR, tO2, lowRho, highRho, phi, net⟩
    exact exec_accepted listening (r := .setProfile f) (by simp only [serve, ownSetProfile, free, carried]; rfl)

end Sys2Proof.Machine

/-! Posts into empty places (R127, R128, R131), RESET LINE (R156 to R158), and the filter of a sensor's edge (R44 to
R49). -/

namespace Sys2Proof.Machine

variable {s t : State}

/-! ### Posts into empty places -/

/-- R127: no item of the queue stands in the item's place. -/
def DriveBus.Vacant (d : DriveBus) (item : DriveItem) : Prop := ∀ i ∈ d.queue, i.place ≠ item.place

theorem postItem_vacant {item : DriveItem} (vacant : s.drive.Vacant item) : postItem item s =
    if s.drive.bus.isNone && s.drive.queue.isEmpty
      then beginTransaction (s.withDrive { s.drive with queue := s.drive.queue ++ [item] })
      else s.withDrive { s.drive with queue := s.drive.queue ++ [item] } := by
  have free : ¬ (s.drive.queue.any fun i => i.place = item.place) = true := by
    simpa [DriveBus.Vacant] using vacant
  rw [postItem, if_neg free]

/-- R128: while a transaction is on the bus, an item enters its empty place as the youngest. -/
theorem postItem_waits {item : DriveItem} (vacant : s.drive.Vacant item) (busy : s.drive.bus ≠ none) :
    postItem item s = s.withDrive { s.drive with queue := s.drive.queue ++ [item] } := by
  have notFree : s.drive.bus.isNone = false := by
    cases bus : s.drive.bus with
    | none => exact absurd bus busy
    | some b => rfl
  rw [postItem_vacant vacant, notFree]
  rfl

/-- R131: on a free bus with an empty queue, its transaction begins. -/
theorem postItem_begins {item : DriveItem} (free : s.drive.bus = none) (empty : s.drive.queue = []) :
    postItem item s = s.withDrive { s.drive with
      bus := some { item := item, window := s.map.line.replyWindow, phase := .sending } } := by
  have vacant : s.drive.Vacant item := by simp [DriveBus.Vacant, empty]
  have chosen : chooseItem [item] = some item := by
    cases item <;> rfl
  rw [postItem_vacant vacant, free, empty]
  simp [beginTransaction, free, chosen, State.withDrive, removeFirst, empty]

/-- R158: STOPs for different channels in empty places wait in their order. -/
theorem postStops_wait {cs : List (Fin 32)} (poster : Option (Fin 16)) (distinct : cs.Nodup)
    (vacant : ∀ c ∈ cs, s.drive.Vacant (.stop c poster)) (busy : s.drive.bus ≠ none) :
    postStops cs poster s
      = s.withDrive { s.drive with queue := s.drive.queue ++ cs.map fun c => .stop c poster } := by
  induction cs generalizing s with
  | nil => simp [postStops, State.withDrive]
  | cons c cs ih =>
    obtain ⟨fresh, distinct⟩ := List.nodup_cons.1 distinct
    have posted := postItem_waits (vacant c (List.mem_cons_self ..)) busy
    change postStops cs poster (postItem (.stop c poster) s) = _
    have vacant' : ∀ d ∈ cs, DriveBus.Vacant { s.drive with queue := s.drive.queue ++ [.stop c poster] }
        (.stop d poster) := fun d mem i queued => by
      rcases List.mem_append.1 queued with old | new
      · exact vacant d (List.mem_cons_of_mem _ mem) i old
      · rw [List.mem_singleton.1 new]
        intro same
        have same : c = d := QueuePlace.order.inj same
        exact fresh (same ▸ mem)
    rw [posted]
    refine (ih (s := s.withDrive { s.drive with queue := s.drive.queue ++ [.stop c poster] }) distinct vacant' busy).trans ?_
    simp [State.withDrive]

/-- R158, R131: on an idle bus the first STOP is sent and the others wait. -/
theorem postStops_begin {c : Fin 32} {cs : List (Fin 32)} (poster : Option (Fin 16)) (distinct : (c :: cs).Nodup)
    (free : s.drive.bus = none) (empty : s.drive.queue = []) :
    postStops (c :: cs) poster s = s.withDrive { s.drive with
      queue := cs.map fun c => .stop c poster
      bus := some { item := .stop c poster, window := s.map.line.replyWindow, phase := .sending } } := by
  change postStops cs poster (postItem (.stop c poster) s) = _
  rw [postItem_begins free empty, postStops_wait poster (List.nodup_cons.1 distinct).2]
  · simp [State.withDrive, empty]
  · simp [DriveBus.Vacant, empty]
  · simp

/-! ### RESET LINE (R156 to R158) -/

theorem clearFlags_all (a : Attention) :
    a.clearFlags (BitVec.allOnes 18) = { a with flags := 0, reminderTimer := none } := by
  have cleared : a.flags &&& ~~~BitVec.allOnes 18 = 0 := by simp
  have idle : ({ a with flags := 0 } : Attention).reminderHolds = false := by
    rw [Bool.eq_false_iff, Ne, reminderHolds_iff]
    rintro ⟨-, -, pending⟩
    exact pending (BitVec.zero_and ..)
  rw [Attention.clearFlags, cleared, syncReminder_eq, idle]
  rfl

theorem resetLineNow_busy (distinct : s.map.channelUses.Nodup) (busy : s.drive.bus ≠ none) :
    resetLineNow s = (clearForReset s).withDrive { DriveBus.powerOn with
      bus := s.drive.bus, queue := s.map.channelUses.map fun c => .stop c none } :=
  postStops_wait (s := clearForReset s) none distinct (fun _ _ => nofun) busy

theorem resetLineNow_unused (unused : s.map.channelUses = []) : resetLineNow s = clearForReset s := by
  have uses : (clearForReset s).map.channelUses = [] := unused
  rw [resetLineNow, uses]
  rfl

theorem resetLineNow_idle {c : Fin 32} {cs : List (Fin 32)} (used : s.map.channelUses = c :: cs)
    (distinct : s.map.channelUses.Nodup) (free : s.drive.bus = none) :
    resetLineNow s = (clearForReset s).withDrive { DriveBus.powerOn with
      queue := cs.map fun c => .stop c none
      bus := some { item := .stop c none, window := s.map.line.replyWindow, phase := .sending } } := by
  have uses : (clearForReset s).map.channelUses = c :: cs := used
  rw [resetLineNow, uses]
  exact postStops_begin none (used ▸ distinct) free rfl

/-- R156, R157: what RESET LINE clears and keeps, whatever stands on the drive bus. -/
structure LineCleared (s t : State) : Prop where
  map : t.map = { s.map with access := s.map.access.lineReset }
  programs : ∀ k : Fin 16, t.programs[k] = { s.programs[k] with refs := 0 }
  pos : t.pos = { s.pos with entry := s.pos.entry.lineReset, exit := s.pos.exit.lineReset }
  table : t.table = { CarrierTable.powerOn with generations := s.table.generations }
  zones : ∀ z : Fin 16, t.zones[z] = s.zones[z].lineReset
  channels : ∀ c : Fin 32, t.drive.channels[c] = ChannelState.powerOn
  monitor : t.monitor = Monitor.empty
  sup : t.sup = s.sup
  link : t.link = s.link
  attn : t.attn = { s.attn with flags := 0, reminderTimer := none }

theorem lineCleared_clearForReset {d : DriveBus} (channels : d.channels = DriveBus.powerOn.channels) :
    LineCleared s ((clearForReset s).withDrive d) where
  map := rfl
  programs k := by simp [clearForReset]
  pos := rfl
  table := rfl
  zones z := by simp [clearForReset]
  channels c := by
    change d.channels[c] = _
    simp [channels, DriveBus.powerOn]
  monitor := rfl
  sup := rfl
  link := rfl
  attn := clearFlags_all s.attn

theorem lineCleared_resetLineNow (distinct : s.map.channelUses.Nodup) : LineCleared s (resetLineNow s) := by
  by_cases free : s.drive.bus = none
  · cases used : s.map.channelUses with
    | nil =>
      rw [resetLineNow_unused used]
      exact lineCleared_clearForReset (d := (clearForReset s).drive) rfl
    | cons c cs =>
      rw [resetLineNow_idle used distinct free]
      exact lineCleared_clearForReset rfl
  · rw [resetLineNow_busy distinct free]
    exact lineCleared_clearForReset rfl

/-- Settles O31. -/
theorem resetLineRequest : Obligations.ResetLineRequest := by
  intro addr s listening distinct
  have cleared := lineCleared_resetLineNow distinct
  refine ⟨resetLineNow s, exec_accepted listening (r := .resetLine) rfl, cleared.map.trans ?_, cleared.programs, cleared.pos,
    cleared.table, cleared.zones, cleared.channels, fun busy => ?_, fun free => ?_, cleared.monitor, cleared.sup,
    cleared.link, cleared.attn⟩
  · cases access : s.map.access <;> simp [MapAccess.lineReset]
  · rw [resetLineNow_busy distinct busy]
    exact ⟨rfl, rfl⟩
  · cases used : s.map.channelUses with
    | nil =>
      rw [resetLineNow_unused used]
      exact ⟨free, rfl⟩
    | cons c cs =>
      rw [resetLineNow_idle used distinct free]
      exact ⟨rfl, rfl⟩

/-! ### The filter of a sensor's edge (R44 to R49) -/

/-- R46: the hold-off distance since the last accepted edge has not passed. -/
theorem heldOff_iff (s : State) (mark : Option (Count × Nat)) : s.heldOff mark = true ↔
    ∃ c d, mark = some (c, d) ∧ (s.pos.count - c).toInt * 1000 / (s.map.line.scale : Int) < (d : Int) := by
  match mark with
  | none => simp [State.heldOff]
  | some (c, d) => simp [State.heldOff, positionDifference, pulsesBetween]

theorem levelAfter_eq (e : Edge) : e.levelAfter = decide (e = .rising) := by cases e <;> rfl

/-- R45, R46: an edge passes both filters. -/
theorem acceptsEdge_iff (s : State) (which : Sensor) : s.acceptsEdge which = true ↔
    s.pos.direction = .forward ∧ s.heldOff (s.pos.sensor which).mark = false := by
  simp [State.acceptsEdge]

theorem takeEdge_accepted {which : Sensor} (forward : s.pos.direction = .forward)
    (free : ¬ s.heldOff (s.pos.sensor which).mark = true) :
    takeEdge which s = arrival which (s.withPos (s.pos.withSensor which { s.pos.sensor which with
      high := decide (s.map.line.edge which = .rising), mark := some (s.pos.count, s.map.line.holdOff) })) := by
  have accepted := (acceptsEdge_iff s which).2 ⟨forward, by simpa using free⟩
  rw [takeEdge, levelAfter_eq]
  exact if_pos accepted

theorem takeEdge_ignored {which : Sensor}
    (ignored : s.pos.direction = .reverse ∨ s.heldOff (s.pos.sensor which).mark = true) :
    takeEdge which s = s.withPos (s.pos.withSensor which { s.pos.sensor which with
      high := decide (s.map.line.edge which = .rising)
      ignored := min 255 ((s.pos.sensor which).ignored + 1) }) := by
  have refused : ¬ s.acceptsEdge which = true := by
    rw [acceptsEdge_iff]
    rintro ⟨forward, free⟩
    rcases ignored with reverse | held
    · exact absurd (forward.symm.trans reverse) (by simp)
    · exact absurd (held.symm.trans free) (by simp)
  rw [takeEdge, levelAfter_eq]
  exact if_neg refused

/-- Settles O39. -/
theorem sensorEdgeIsFiltered : Obligations.SensorEdgeIsFiltered := by
  intro s awake
  have taken (which : Sensor) : exec (.sensorEdge which) s = .next (takeEdge which s) := next_awake awake _
  refine ⟨fun ignored => (taken .entry).trans (congrArg _ ?_), fun ignored => (taken .exit).trans (congrArg _ ?_),
    fun forward free => (taken .entry).trans (congrArg _ ?_), fun forward free => (taken .exit).trans (congrArg _ ?_)⟩
  · exact takeEdge_ignored (which := .entry) (ignored.imp_right (heldOff_iff s _).2)
  · exact takeEdge_ignored (which := .exit) (ignored.imp_right (heldOff_iff s _).2)
  · exact takeEdge_accepted (which := .entry) forward fun held => free ((heldOff_iff s _).1 held)
  · exact takeEdge_accepted (which := .exit) forward fun held => free ((heldOff_iff s _).1 held)

end Sys2Proof.Machine

/-! Entry and exit arrivals (R61 to R65). -/

namespace Sys2Proof.Machine

variable {s t u : State}

/-! ### The new record -/

/-- R61, step 3: the record of an announced carrier. -/
def State.boundRecord (s : State) (a : Announcement) (i : Fin 64) (g : BitVec 8) : Record :=
  { Record.fresh i g s.pos.count .announced with
    tag := a.tag
    length := max a.length s.map.line.lMin
    areaA := a.areaA
    areaB := a.areaB
    slot := a.slot
    marks := { clipped := false, estimated := false, gap := false, amended := decide (a.length < s.map.line.lMin) } }

theorem bindAnnouncement_eq (a : Announcement) (rest : List Announcement) (i : Fin 64) (g : BitVec 8) (s : State) :
    bindAnnouncement a rest i g s = raise .entry (putRecord (s.table.live ++ [s.boundRecord a i g])
      (s.boundRecord a i g) (s.withTable { s.table with queue := rest })) := by
  have length : (if decide (a.length < s.map.line.lMin) = true then s.map.line.lMin else a.length)
      = max a.length s.map.line.lMin := by
    by_cases short : a.length < s.map.line.lMin
    · simp [short, Nat.le_of_lt short]
    · simp [short, Nat.le_of_not_lt short]
  unfold bindAnnouncement
  dsimp only
  rw [length]
  rfl

theorem lead_here {r : Record} (here : r.entryMark = s.pos.count) : s.lead r = 0 := by
  rw [State.lead, here, positionDifference, pulsesBetween, BitVec.sub_self]
  simp

theorem lead_of_same (map : t.map = s.map) (pos : t.pos = s.pos) : t.lead = s.lead := by
  funext r
  rw [State.lead, map, pos]
  rfl

theorem trail_of_same (map : t.map = s.map) (pos : t.pos = s.pos) : t.trail = s.trail := by
  funext r
  rw [State.trail, lead_of_same map pos]
  rfl

/-- R65: the plating-end watch writes the plating-closed mark and the outcome alone. -/
theorem plated_writes (s : State) (r : Record) :
    s.plated r = { r with platingClosed := (s.plated r).platingClosed, outcome := (s.plated r).outcome } := by
  unfold State.plated
  split
  · unfold Record.settled
    split <;> rfl
  · rfl

/-- R50: a record of some length at the sensor is not reported by the plating-end watch. -/
theorem plated_at_sensor {r : Record} (here : r.entryMark = s.pos.count) (long : 0 < r.length) : s.plated r = r := by
  have behind : ¬ s.plates r = true := by
    rw [State.plates, State.trail, lead_here here]
    simp only [Bool.and_eq_true, decide_eq_true_eq]
    omega
  exact if_neg behind

/-! ### The rearmost record (R61, step 5) -/

/-- R61, step 5: the record cut to its lead. -/
def State.clipped (s : State) (r : Record) : Record :=
  { r with length := (s.lead r).toNat, marks := { r.marks with clipped := true } }

theorem clipRearmost_clear {r : Record} (clear : 0 ≤ s.trail r) : clipRearmost (some r) s = s :=
  if_neg (not_lt.2 clear)

theorem clipRearmost_over {ahead behind : List Record} {r : Record} (place : AtPlace s ahead r behind)
    (over' : s.trail r < 0) : clipRearmost (some r) s
      = raiseIf (s.plates (s.clipped r) && ({ s.clipped r with platingClosed := true } : Record).fallsShort) .shortfall
          ((raise .clipped s).withLive (ahead ++ s.plated (s.clipped r) :: behind)) := by
  have cut : AtPlace ((raise .clipped s).withLive (ahead ++ s.clipped r :: behind)) ahead (s.clipped r) behind :=
    ⟨rfl, place.others⟩
  have watched := cut.platingEnd
  have plates : ((raise .clipped s).withLive (ahead ++ s.clipped r :: behind)).plates = s.plates :=
    plates_of_same rfl rfl
  have plated : ((raise .clipped s).withLive (ahead ++ s.clipped r :: behind)).plated = s.plated :=
    plated_of_same rfl rfl
  rw [plates, plated] at watched
  have marked : raise .clipped (modifyRecord r.index r.generation
      (fun q => { q with length := (s.lead q).toNat, marks := { q.marks with clipped := true } }) s)
      = (raise .clipped s).withLive (ahead ++ s.clipped r :: behind) := by
    rw [place.modify]
    rfl
  refine (if_pos over').trans ?_
  rw [marked]
  exact watched

/-- R61, step 5: what stands ahead of the new record after the clip, and whether CLIPPED is raised. -/
structure Clips (s : State) (line front : List Record) (a : Attention) : Prop where
  empty : line = [] → front = []
  clear : ∀ ahead r, line = ahead ++ [r] → 0 ≤ s.trail r → front = line
  over' : ∀ ahead r, line = ahead ++ [r] → s.trail r < 0 →
    a.isSet .clipped = true ∧ front = ahead ++ [s.plated (s.clipped r)]

/-- R61, step 5: the clip leaves the new record at the rear, behind records of the indexes that stood there. -/
theorem clipRearmost_line {line : List Record} {new : Record} (made : s.table.live = line ++ [new])
    (distinct : (s.table.live.map Record.index).Nodup) :
    ∃ front, (clipRearmost line.getLast? s).table = { s.table with live := front ++ [new] }
      ∧ front.map Record.index = line.map Record.index
      ∧ Clips s line front (clipRearmost line.getLast? s).attn
      ∧ Raises [.clipped, .shortfall] s.attn (clipRearmost line.getLast? s).attn := by
  rcases List.eq_nil_or_concat line with rfl | ⟨ahead, r, rfl⟩
  · refine ⟨[], by rw [← made]; rfl, rfl, ⟨fun _ => rfl, fun ahead r absurd' => ?_, fun ahead r absurd' => ?_⟩, .refl _ _⟩
    · simp at absurd'
    · simp at absurd'
  · rw [List.concat_eq_append] at *
    have last : (ahead ++ [r]).getLast? = some r := by simp
    have place : AtPlace s ahead r [new] := by
      refine ⟨by rw [made]; simp, fun q mem same => ?_⟩
      rw [made, List.map_append, List.map_append] at distinct
      have apart := (List.nodup_append.1 (List.nodup_append.1 distinct).1).2.2
      exact apart _ (List.mem_map_of_mem mem) r.index (by simp) same
    rw [last]
    by_cases over' : s.trail r < 0
    · rw [clipRearmost_over place over']
      refine ⟨ahead ++ [s.plated (s.clipped r)], ?_, ?_, ⟨by simp, fun ahead' r' line' clear => ?_, fun ahead' r' line' _ => ?_⟩,
        ?_⟩
      · simp [State.withLive]
      · simp [State.clipped]
      · obtain ⟨-, same⟩ := List.append_inj' line' rfl
        obtain rfl := (List.cons.inj same).1
        omega
      · obtain ⟨rfl, same⟩ := List.append_inj' line' rfl
        obtain rfl := (List.cons.inj same).1
        refine ⟨?_, rfl⟩
        rw [raiseIf_attn, isSet_raised]
        simp [State.withLive, raise]
      · rw [raiseIf_attn]
        have clipped : Raises [.clipped, .shortfall] s.attn (s.attn.raiseFlag .clipped) := .raise (by simp) _
        split
        · exact clipped.trans (.raise (by simp) _)
        · exact clipped
    · rw [clipRearmost_clear (not_lt.1 over')]
      refine ⟨ahead ++ [r], by rw [← made], rfl, ⟨by simp, fun _ _ _ _ => rfl, fun ahead' r' line' over'' => ?_⟩, .refl _ _⟩
      obtain ⟨-, same⟩ := List.append_inj' line' rfl
      obtain rfl := (List.cons.inj same).1
      exact absurd over'' over'

/-- R52: the watches' test of the new record, which stands at the sensor. -/
theorem watch_newRecord {front : List Record} {new : Record} (place : AtPlace s front new [])
    (here : new.entryMark = s.pos.count) :
    ∃ b, exitWindowWatch new.index new.generation (platingEndWatch new.index new.generation s)
      = raiseIf b .shortfall (s.withLive (front ++ [s.plated new])) := by
  refine ⟨s.plates new && ({ new with platingClosed := true } : Record).fallsShort, ?_⟩
  rw [place.platingEnd]
  generalize (s.plates new && ({ new with platingClosed := true } : Record).fallsShort) = b
  have plated : AtPlace (raiseIf b .shortfall (s.withLive (front ++ [s.plated new]))) front (s.plated new) [] :=
    ⟨by simp [State.withLive], (plated_index s new).symm ▸ place.others⟩
  have names : (s.plated new).index = new.index ∧ (s.plated new).generation = new.generation :=
    ⟨plated_index s new, (plated_worked s new).generation⟩
  have lead : (raiseIf b .shortfall (s.withLive (front ++ [s.plated new]))).lead = s.lead :=
    lead_of_same (by simp) (by simp)
  have inSight : (raiseIf b .shortfall (s.withLive (front ++ [s.plated new]))).losesSight (s.plated new) = false := by
    rw [losesSight_of_same (s := s) (by simp) (by simp), losesSight_plated, State.losesSight, lead_here here,
      decide_eq_false]
    omega
  have watched := plated.exitWindow
  rw [names.1, names.2, inSight, State.sighted, inSight] at watched
  rw [watched, raiseIf_withLive]
  rfl

/-- R61, R52: what a made record's admission leaves: the line with its rearmost record clipped, and the new record
tested. -/
theorem admitted {line : List Record} {new : Record} (made : s.table.live = line ++ [new])
    (distinct : (s.table.live.map Record.index).Nodup) (here : new.entryMark = s.pos.count) :
    let t := exitWindowWatch new.index new.generation
      (platingEndWatch new.index new.generation (clipRearmost line.getLast? s))
    ∃ front, t.table = { s.table with live := front ++ [s.plated new] } ∧ Clips s line front t.attn
      ∧ Raises [.clipped, .shortfall] s.attn t.attn := by
  obtain ⟨front, table, indexes, clips, raises⟩ := clipRearmost_line made distinct
  obtain ⟨map, programs, pos, -⟩ := clipRearmost_keeps line.getLast? s
  have place : AtPlace (clipRearmost line.getLast? s) front new [] := by
    refine ⟨by rw [table], fun q mem same => ?_⟩
    rw [made, List.map_append, ← indexes] at distinct
    exact (List.nodup_append.1 distinct).2.2 _ (List.mem_map_of_mem mem) new.index (by simp) same
  obtain ⟨b, watched⟩ := watch_newRecord place (by rw [pos, here])
  have plated : (clipRearmost line.getLast? s).plated = s.plated := plated_of_same map pos
  dsimp only
  rw [watched, plated]
  refine ⟨front, by simp [State.withLive, table], ?_, ?_⟩
  · refine ⟨clips.empty, clips.clear, fun ahead r line' over' => ?_⟩
    obtain ⟨set, cut⟩ := clips.over' ahead r line' over'
    refine ⟨?_, cut⟩
    rw [raiseIf_attn, isSet_raised]
    exact (congrArg (· || _) set).trans (Bool.true_or _)
  · refine raises.trans ?_
    rw [raiseIf_attn]
    cases b
    · exact .refl _ _
    · exact .raise (by simp) _

/-- R61, steps 3 and 4: the record is made, of the oldest announcement or of the defaults. -/
def State.madeRecord (s : State) (i : Fin 64) (g : BitVec 8) : State :=
  match s.table.queue with
  | a :: rest => bindAnnouncement a rest i g s
  | [] => makeUnannounced i g s

theorem admitCarrier_eq {i : Fin 64} (free : freeIndex s.table.live = some i) :
    admitCarrier s = exitWindowWatch i (s.table.generations[i] + 1) (platingEndWatch i (s.table.generations[i] + 1)
      (clipRearmost s.table.live.getLast? (s.madeRecord i (s.table.generations[i] + 1)))) := by
  have next : s.nextIndex = some (i, s.table.generations[i] + 1) := by rw [State.nextIndex, free]; rfl
  rw [admitCarrier, next]
  rfl

/-- R61: the new record and the state in which it has been made. -/
structure Makes (s : State) (i : Fin 64) (new : Record) (u : State) : Prop where
  index : new.index = i
  generation : new.generation = s.table.generations[i] + 1
  here : new.entryMark = s.pos.count
  tracking : new.state = .tracking
  accounts : new.fwdA = 0 ∧ new.revA = 0 ∧ new.fwdB = 0 ∧ new.revB = 0 ∧ new.pendingCount = 0
    ∧ new.reachedA = none ∧ new.reachedB = none ∧ new.platingClosed = false ∧ new.outcome = none
  table : u.table = { s.table with
    live := s.table.live ++ [new]
    generations := bankSet s.table.generations i (s.table.generations[i] + 1)
    queue := s.table.queue.tail }

theorem makes_bound {a : Announcement} {rest : List Announcement} {i : Fin 64} (queued : s.table.queue = a :: rest) :
    Makes s i (s.boundRecord a i (s.table.generations[i] + 1)) (s.madeRecord i (s.table.generations[i] + 1)) where
  index := rfl
  generation := rfl
  here := rfl
  tracking := rfl
  accounts := ⟨rfl, rfl, rfl, rfl, rfl, rfl, rfl, rfl, rfl⟩
  table := by
    rw [State.madeRecord, queued]
    simp only [bindAnnouncement_eq]
    rfl

theorem makes_unannounced {i : Fin 64} (empty : s.table.queue = []) :
    ∃ slot w, TakesDefault s slot w
      ∧ s.madeRecord i (s.table.generations[i] + 1) = raise .unannounced
        (putRecord (s.table.live ++ [s.unannouncedRecord i (s.table.generations[i] + 1) slot])
          (s.unannouncedRecord i (s.table.generations[i] + 1) slot) w)
      ∧ Makes s i (s.unannouncedRecord i (s.table.generations[i] + 1) slot)
        (s.madeRecord i (s.table.generations[i] + 1)) := by
  obtain ⟨slot, w, takes, made⟩ := makeUnannounced_eq i (s.table.generations[i] + 1) s
  obtain ⟨-, -, table, -⟩ := takes.keeps
  have unannounced : s.madeRecord i (s.table.generations[i] + 1) = makeUnannounced i (s.table.generations[i] + 1) s := by
    rw [State.madeRecord, empty]
  refine ⟨slot, w, takes, unannounced.trans made, rfl, rfl, rfl, rfl, ⟨rfl, rfl, rfl, rfl, rfl, rfl, rfl, rfl, rfl⟩, ?_⟩
  rw [unannounced, made, (raise_keeps ..).2.2.2.1, putRecord]
  simp only [State.withTable_table, table]
  rw [empty]
  rfl

theorem makes_distinct {i : Fin 64} {new : Record} (law : TableLaw s) (free : freeIndex s.table.live = some i)
    (makes : Makes s i new u) : (u.table.live.map Record.index).Nodup := by
  rw [makes.table, List.map_append]
  refine List.nodup_append.2 ⟨law.indexes, by simp, fun j mem k mem' same => ?_⟩
  obtain ⟨q, live, rfl⟩ := List.mem_map.1 mem
  have k_is : k = new.index := by simpa using mem'
  exact freeIndex_some free q live (same.trans (k_is.trans makes.index))

/-- R61: what a carrier that enters leaves of the part and of the new record. -/
structure Admits (s : State) (i : Fin 64) (new : Record) (made t : State) (front : List Record) : Prop where
  makes : Makes s i new made
  line : t.table.live = front ++ [s.plated new]
  table : t.table = { made.table with live := t.table.live }
  clips : Clips s s.table.live front t.attn
  attn : Raises [.clipped, .shortfall] made.attn t.attn
  programs : t.programs = made.programs

theorem admits_of_makes {i : Fin 64} {new : Record} (law : TableLaw s) (free : freeIndex s.table.live = some i)
    (makes : Makes s i new (s.madeRecord i (s.table.generations[i] + 1))) :
    ∃ front, Admits s i new (s.madeRecord i (s.table.generations[i] + 1)) (admitCarrier s) front := by
  have sameMap : (s.madeRecord i (s.table.generations[i] + 1)).map = s.map := by
    unfold State.madeRecord
    split <;> simp
  have samePos : (s.madeRecord i (s.table.generations[i] + 1)).pos = s.pos := by
    unfold State.madeRecord
    split <;> simp
  have line : (s.madeRecord i (s.table.generations[i] + 1)).table.live = s.table.live ++ [new] := by rw [makes.table]
  obtain ⟨front, table, clips, raises⟩ :=
    admitted line (makes_distinct law free makes) (makes.here.trans (congrArg Position.count samePos).symm)
  rw [makes.index, makes.generation, ← admitCarrier_eq free] at table clips raises
  rw [plated_of_same sameMap samePos] at table
  have clips : Clips s s.table.live front (admitCarrier s).attn := by
    have trail := trail_of_same sameMap samePos
    have lead := lead_of_same sameMap samePos
    have plated := plated_of_same sameMap samePos
    refine ⟨clips.empty, fun ahead r line' clear => clips.clear ahead r line' (trail ▸ clear), fun ahead r line' over' => ?_⟩
    obtain ⟨set, cut⟩ := clips.over' ahead r line' (trail ▸ over')
    rw [State.clipped, lead, plated] at cut
    exact ⟨set, cut⟩
  have programs : (admitCarrier s).programs = (s.madeRecord i (s.table.generations[i] + 1)).programs := by
    rw [admitCarrier_eq free, (exitWindowWatch_keeps ..).2.1, (platingEndWatch_keeps ..).2.1, (clipRearmost_keeps ..).2.1]
  exact ⟨front, makes, by rw [table], by rw [table], clips, raises, programs⟩

/-- R61: what an entry arrival with room leaves, in the words of the manual's table of the new record. -/
theorem admitCarrier_entered {i : Fin 64} (law : TableLaw s) (free : freeIndex s.table.live = some i) :
    ∃ (new : Record) (front : List Record),
      Admits s i new (s.madeRecord i (s.table.generations[i] + 1)) (admitCarrier s) front
      ∧ (∀ a rest, s.table.queue = a :: rest → new = s.boundRecord a i (s.table.generations[i] + 1)
          ∧ (admitCarrier s).programs = s.programs ∧ (admitCarrier s).attn.isSet .entry = true)
      ∧ (s.table.queue = [] → ∃ slot w, TakesDefault s slot w
          ∧ new = s.unannouncedRecord i (s.table.generations[i] + 1) slot
          ∧ (admitCarrier s).programs = addRef slot s.programs ∧ (admitCarrier s).attn.isSet .unannounced = true) := by
  cases queued : s.table.queue with
  | cons a rest =>
    obtain ⟨front, admits⟩ := admits_of_makes law free (makes_bound queued)
    have bound : s.madeRecord i (s.table.generations[i] + 1)
        = bindAnnouncement a rest i (s.table.generations[i] + 1) s := by rw [State.madeRecord, queued]
    refine ⟨_, front, admits, fun a' rest' same => ?_, nofun⟩
    obtain ⟨rfl, rfl⟩ := List.cons.inj same
    refine ⟨rfl, by rw [admits.programs, bound, (bindAnnouncement_keeps ..).2.1], admits.attn.isSet_stays ?_⟩
    rw [bound, bindAnnouncement_eq]
    exact raiseFlag_isSet ..
  | nil =>
    obtain ⟨slot, w, takes, made, makes⟩ := makes_unannounced (i := i) queued
    obtain ⟨front, admits⟩ := admits_of_makes law free makes
    refine ⟨_, front, admits, nofun, fun _ => ⟨slot, w, takes, rfl, ?_, admits.attn.isSet_stays ?_⟩⟩
    · rw [admits.programs, made, (raise_keeps ..).2.1, (putRecord_keeps ..).2.1, takes.programs]
    · rw [made]
      exact raiseFlag_isSet ..

/-- R31, R61 step 4: the default program is taken where its slot takes a new reference, and otherwise the record has
none. -/
theorem TakesDefault.slot_none {slot : Option (Fin 16)} (takes : TakesDefault s slot u)
    (default : s.map.line.defaultSlot = none) : slot = none := by
  rcases takes with ⟨rfl, -⟩ | ⟨none, -⟩
  · exact default
  · exact none

theorem TakesDefault.slot_free {slot : Option (Fin 16)} {k : Fin 16} (takes : TakesDefault s slot u)
    (default : s.map.line.defaultSlot = some k) (free : s.programs[k].state = .opened ∨ s.programs[k].state = .frozen) :
    slot = some k := by
  rcases takes with ⟨rfl, -⟩ | ⟨-, ⟨e, refused⟩, -⟩
  · exact default
  · rw [default, takeProgram_of_assignable (fun j same => Option.some.inj same ▸ free)] at refused
    cases refused

theorem TakesDefault.slot_refused {slot : Option (Fin 16)} {k : Fin 16} (takes : TakesDefault s slot u)
    (default : s.map.line.defaultSlot = some k)
    (held : ¬ (s.programs[k].state = .opened ∨ s.programs[k].state = .frozen)) : slot = none := by
  rcases takes with ⟨rfl, taken⟩ | ⟨none, -⟩
  · exact absurd ((takeProgram_ok taken).1 k default) held
  · exact none

/-! ### An arrival that is rejected, lost, or displaces a record (R61, steps 1 and 2) -/

theorem tooClose_of_last {r : Record} (last : s.table.live.getLast? = some r) :
    s.tooClose = decide (s.lead r < s.map.line.lMin) := by rw [State.tooClose, last]

theorem not_tooClose (apart : ∀ r, s.table.live.getLast? = some r → (s.map.line.lMin : Int) ≤ s.lead r) :
    s.tooClose = false := by
  cases last : s.table.live.getLast? with
  | none => rw [State.tooClose, last]
  | some r =>
    rw [tooClose_of_last last]
    exact decide_eq_false (not_lt.2 (apart r last))

theorem loseCarrier_eq (s : State) : loseCarrier s = { s with
    attn := s.attn.raiseFlag .trackLost
    programs := dropRef (s.table.queue.head?.bind Announcement.slot) s.programs
    table := { s.table with queue := s.table.queue.tail } } := by
  unfold loseCarrier
  split
  · rename_i empty
    rw [empty]
    have same : { s.table with queue := [] } = s.table := by rw [← empty]
    simp only [List.head?_nil, Option.bind_none, dropRef_none, List.tail_nil, same]
    rfl
  · rename_i a rest queued
    rw [releaseProgram_eq, queued]
    rfl

theorem displaceRecord_at {ahead behind : List Record} {r : Record} (line : s.table.live = ahead ++ r :: behind)
    (first : ∀ q ∈ ahead, q.named r.index r.generation = false) : displaceRecord r s = { s with
      attn := s.attn.raiseFlag .displaced
      programs := dropRef r.slot s.programs
      table := { s.table with
        live := ahead ++ behind
        displaced := some r.copy
        cursor := s.table.cursor.without r.index r.generation s.table.live } } := by
  rw [displaceRecord, removeRecord_at line first]
  rfl

/-- R58: the first record of the line in a state. -/
theorem find_state {ahead behind : List Record} {r : Record} {x : RecordState}
    (line : s.table.live = ahead ++ r :: behind) (here : r.state = x) (others : ∀ q ∈ ahead, q.state ≠ x) :
    (s.table.live.find? fun q => q.state == x) = some r := by
  rw [line]
  exact find?_append_cons (by simpa using others) (by simpa using here)

theorem find_no_state {x : RecordState} (others : ∀ q ∈ s.table.live, q.state ≠ x) :
    (s.table.live.find? fun q => q.state == x) = none := by
  rw [List.find?_eq_none]
  simpa using others

/-- Settles O40. -/
theorem arrivalIsTaken : Obligations.ArrivalIsTaken := by
  intro s released
  have released_eq (slot : Option (Fin 16)) : released slot = dropRef slot s.programs := by cases slot <;> rfl
  refine ⟨fun r last close => ?_, fun apart => ⟨fun room => ?_, fun full noExited => ?_,
    fun ahead behind r law full line exited others => ?_⟩, fun i room law free => ?_,
    fun ahead behind r law _ line tracking others => ?_, fun noTracking => ?_⟩
  · have tooClose : s.tooClose = true := (tooClose_of_last last).trans (decide_eq_true close)
    exact if_pos tooClose
  · rw [entryArrival, not_tooClose apart]
    exact if_pos room
  · have notRoom : ¬ s.table.live.length < Config.tableSize := by
      rw [full]
      decide
    have none := find_no_state noExited
    simp only [entryArrival, not_tooClose apart, Bool.false_eq_true, if_false, notRoom, none]
    rw [loseCarrier_eq]
    cases s.table.queue with
    | nil => rfl
    | cons a rest =>
      simp only [released_eq]
      rfl
  · have notRoom : ¬ s.table.live.length < Config.tableSize := by
      rw [full]
      decide
    have found := find_state line exited others
    have notNamed : ∀ q ∈ ahead, q.named r.index r.generation = false := by
      have distinct := law.indexes
      rw [line, List.map_append, List.map_cons] at distinct
      intro q mem
      refine Record.named_eq_false_iff.2 (.inl fun same => ?_)
      exact (List.nodup_append.1 distinct).2.2 _ (List.mem_map_of_mem mem) _ (List.mem_cons_self ..) same
    simp only [entryArrival, not_tooClose apart, Bool.false_eq_true, if_false, notRoom, found]
    rw [displaceRecord_at line notNamed, cursor_without line notNamed, released_eq]
    cases behind <;> rfl
  · obtain ⟨new, front, admits, announced, unannounced⟩ := admitCarrier_entered law free
    obtain ⟨map, pos, zones, drive, monitor, sup, link, -⟩ := admitCarrier_keeps s
    obtain ⟨fwdA, revA, fwdB, revB, count, reachedA, reachedB, closed, outcome⟩ := admits.makes.accounts
    have written := plated_writes s new
    have table := admits.table
    rw [admits.makes.table] at table
    refine ⟨front, s.plated new, admits.line, ?_⟩
    rw [written]
    refine ⟨admits.makes.index, admits.makes.generation, admits.makes.here, by rw [table], admits.makes.tracking, fwdA, revA,
      fwdB, revB, count, reachedA, reachedB, fun long => ?_, by rw [table], by rw [table], by rw [table], map, pos, zones,
      drive, monitor, sup, link, fun a rest queued => ?_, fun empty => ?_, admits.clips.empty, fun ahead rear line =>
        ⟨admits.clips.clear ahead rear line, fun over' => ?_⟩⟩
    · rw [plated_at_sensor admits.makes.here long]
      exact ⟨closed, outcome⟩
    · obtain ⟨rfl, programs, set⟩ := announced a rest queued
      exact ⟨rfl, rfl, rfl, rfl, rfl, rfl, rfl, programs, set⟩
    · obtain ⟨slot, w, takes, rfl, programs, set⟩ := unannounced empty
      refine ⟨rfl, rfl, rfl, rfl, rfl, rfl, set, ?_⟩
      cases default : s.map.line.defaultSlot with
      | none =>
        obtain rfl := takes.slot_none default
        exact ⟨rfl, programs⟩
      | some k =>
        dsimp only
        split
        · obtain rfl := takes.slot_free default ‹_›
          exact ⟨rfl, programs⟩
        · obtain rfl := takes.slot_refused default ‹_›
          exact ⟨rfl, programs⟩
    · obtain ⟨set, cut⟩ := admits.clips.over' ahead rear line over'
      exact ⟨set, _, cut, rfl⟩
  · have found := find_state line tracking others
    have place : AtPlace s ahead r behind := by
      have distinct := law.indexes
      rw [line, List.map_append, List.map_cons] at distinct
      exact ⟨line, fun q mem same =>
        (List.nodup_append.1 distinct).2.2 _ (List.mem_map_of_mem mem) _ (List.mem_cons_self ..) same⟩
    have window : s.inExitWindow (s.lead r) = true ↔ (s.map.line.xExit : Int) - s.map.line.window ≤ s.lead r
        ∧ s.lead r ≤ (s.map.line.xExit : Int) + s.map.line.window := by
      simp [State.inExitWindow]
    simp only [exitArrival, found, window, place.modify]
    rfl
  · simp only [exitArrival, find_no_state noTracking]
    rfl

end Sys2Proof.Machine

/-! Hold calls and release entry calls for many entries (R65, R66, R79, R80), and the shape of a pending list (R78). -/

namespace Sys2Proof.Machine

variable {s t u : State}

/-! ### One record released more than once (R65, R66) -/

/-- R66: the record with its pending count less by k. -/
def Record.lessened (k : Nat) (r : Record) : Record := { r with pendingCount := r.pendingCount - k }

/-- R65, R66: k release entry calls decide a SHORT outcome. -/
def Record.shortBy (k : Nat) (r : Record) : Bool := decide (0 < k) && (r.lessened k).fallsShort

theorem released_zero (r : Record) : r.released 0 = r := rfl

theorem released_pos {k : Nat} (pos : 0 < k) (r : Record) : r.released k = (r.lessened k).settled :=
  if_neg (by omega)

theorem shortBy_zero (r : Record) : r.shortBy 0 = false := rfl

theorem shortBy_pos {k : Nat} (pos : 0 < k) (r : Record) : r.shortBy k = (r.lessened k).fallsShort := by
  rw [Record.shortBy, decide_eq_true pos, Bool.true_and]

theorem settled_of_decides {r : Record} (d : r.decides = true) : r.settled = { r with outcome := some r.outcomeNow } :=
  if_pos d

theorem settled_of_not {r : Record} (d : r.decides = false) : r.settled = r := if_neg (by simp [d])

theorem fallsShort_of_not {r : Record} (d : r.decides = false) : r.fallsShort = false := by
  rw [Record.fallsShort, d, Bool.false_and]

theorem decides_iff (r : Record) : r.decides = true ↔ r.platingClosed = true ∧ r.pendingCount = 0 ∧ r.outcome = none := by
  simp [Record.decides]

/-- R65: a record that is decided is decided once. -/
theorem decides_lessened_settled {r : Record} (d : r.decides = true) (k : Nat) :
    (r.settled.lessened k).decides = false := by
  rw [settled_of_decides d, Bool.eq_false_iff, Ne, decides_iff]
  rintro ⟨-, -, none⟩
  cases none

/-- R65, R66: where k releases decide the outcome, so do more of them. -/
theorem lessened_lessened (j k : Nat) (r : Record) : (r.lessened j).lessened k = r.lessened (j + k) := by
  simp [Record.lessened, Nat.sub_sub]

theorem lessened_of_zero {r : Record} (zero : r.pendingCount = 0) (k : Nat) : r.lessened k = r := by
  cases r
  cases zero
  simp [Record.lessened]

/-- R65, R66: one release more. -/
theorem released_succ (k : Nat) (r : Record) :
    (r.released k).released 1 = r.released (k + 1) ∧ (r.shortBy k || (r.released k).shortBy 1) = r.shortBy (k + 1) := by
  rcases Nat.eq_zero_or_pos k with rfl | pos
  · exact ⟨rfl, rfl⟩
  · rw [released_pos pos, released_pos Nat.one_pos, released_pos (by omega : 0 < k + 1), shortBy_pos pos,
      shortBy_pos Nat.one_pos, shortBy_pos (by omega : 0 < k + 1), ← lessened_lessened]
    cases d : (r.lessened k).decides with
    | true =>
      have still : (r.lessened k).lessened 1 = r.lessened k := by
        obtain ⟨-, zero, -⟩ := (decides_iff _).1 d
        have zero : r.pendingCount - k = 0 := zero
        rw [lessened_lessened, Record.lessened, Record.lessened, zero, show r.pendingCount - (k + 1) = 0 by omega]
      have kept : (r.lessened k).settled.lessened 1 = (r.lessened k).settled := by
        obtain ⟨-, zero, -⟩ := (decides_iff _).1 d
        exact lessened_of_zero (by rw [settled_of_decides d]; exact zero) 1
      have no := decides_lessened_settled d 1
      rw [settled_of_not no, fallsShort_of_not no, Bool.or_false, still, kept]
      exact ⟨rfl, rfl⟩
    | false => rw [settled_of_not d, fallsShort_of_not d, Bool.false_or]; exact ⟨rfl, rfl⟩

/-- R65, R66: releases one after another are one run of releases. -/
theorem released_add (j k : Nat) (r : Record) :
    (r.released j).released k = r.released (j + k) ∧ (r.shortBy j || (r.released j).shortBy k) = r.shortBy (j + k) := by
  induction k with
  | zero => exact ⟨rfl, Bool.or_false _⟩
  | succ k ih =>
    obtain ⟨record, short⟩ := ih
    obtain ⟨record', short'⟩ := released_succ k (r.released j)
    obtain ⟨record'', short''⟩ := released_succ (j + k) r
    rw [record] at record' short'
    exact ⟨record'.symm.trans record'', by rw [← short', ← Bool.or_assoc, short, short'']; rfl⟩

theorem released_index (k : Nat) (r : Record) : (r.released k).index = r.index ∧ (r.released k).generation = r.generation := by
  unfold Record.released
  split
  · exact ⟨rfl, rfl⟩
  · unfold Record.settled
    split <;> exact ⟨rfl, rfl⟩

theorem names_released (e : Entry) (k : Nat) (r : Record) : e.names (r.released k) = e.names r := by
  obtain ⟨index, generation⟩ := released_index k r
  rw [Entry.names, index, generation]
  rfl

/-! ### The calls for a list of entries (R66) -/

theorem names_iff {e : Entry} {r : Record} : e.names r = true ↔ e.index = r.index ∧ e.generation = r.generation := by
  simp [Entry.names]

/-- R66: where no index stands twice, the record named is the only one that the entry names. -/
theorem names_none_else {ahead behind : List Record} {r : Record} {e : Entry}
    (distinct : ((ahead ++ r :: behind).map Record.index).Nodup) (named : e.names r = true) :
    (∀ q ∈ ahead, e.names q = false) ∧ ∀ q ∈ behind, e.names q = false := by
  obtain ⟨index, -⟩ := names_iff.1 named
  rw [List.map_append, List.map_cons] at distinct
  obtain ⟨-, rest, apart⟩ := List.nodup_append.1 distinct
  refine ⟨fun q mem => ?_, fun q mem => ?_⟩
  all_goals
    rw [Bool.eq_false_iff, Ne, names_iff]
    rintro ⟨same, -⟩
  · exact apart _ (List.mem_map_of_mem mem) _ List.mem_cons_self (same.symm.trans index)
  · exact (List.nodup_cons.1 rest).1 (index.symm.trans same ▸ List.mem_map_of_mem mem)

theorem map_unnamed {l : List Record} {e : Entry} (others : ∀ q ∈ l, e.names q = false) (f : Record → Record) :
    l.map (fun q => if e.names q then f q else q) = l :=
  (List.map_congr_left fun q mem => if_neg (by simp [others q mem])).trans (List.map_id' l)

/-- R66: what a call that acts on the record named does to the whole line. -/
theorem map_named {ahead behind : List Record} {r : Record} {e : Entry}
    (distinct : ((ahead ++ r :: behind).map Record.index).Nodup) (named : e.names r = true) (f : Record → Record) :
    (ahead ++ r :: behind).map (fun q => if e.names q then f q else q) = ahead ++ f r :: behind := by
  obtain ⟨front, back⟩ := names_none_else distinct named
  rw [List.map_append, List.map_cons, if_pos named, map_unnamed front, map_unnamed back]

theorem any_named {ahead behind : List Record} {r : Record} {e : Entry}
    (distinct : ((ahead ++ r :: behind).map Record.index).Nodup) (named : e.names r = true) (p : Record → Bool) :
    ((ahead ++ r :: behind).any fun q => e.names q && p q) = p r := by
  obtain ⟨front, back⟩ := names_none_else distinct named
  have front : (ahead.any fun q => e.names q && p q) = false := List.any_eq_false.2 fun q mem => by simp [front q mem]
  have back : (behind.any fun q => e.names q && p q) = false := List.any_eq_false.2 fun q mem => by simp [back q mem]
  rw [List.any_append, List.any_cons, front, back, named, Bool.true_and, Bool.or_false, Bool.false_or]

/-- R66: an entry names no live record, or the one at its place. -/
theorem unnamed_or_atPlace (distinct : (s.table.live.map Record.index).Nodup) (e : Entry) :
    (∀ r ∈ s.table.live, e.names r = false) ∨
    ∃ ahead r behind, AtPlace s ahead r behind ∧ e.index = r.index ∧ e.generation = r.generation := by
  by_cases named : ∃ r ∈ s.table.live, e.names r = true
  · obtain ⟨r, live, named⟩ := named
    obtain ⟨ahead, behind, line⟩ := List.append_of_mem live
    rw [line, List.map_append, List.map_cons] at distinct
    exact .inr ⟨ahead, r, behind, ⟨line, fun q mem => (List.nodup_append.1 distinct).2.2 _ (List.mem_map_of_mem mem) _
      List.mem_cons_self⟩, names_iff.1 named⟩
  · exact .inl fun r live => Bool.eq_false_iff.2 fun names => named ⟨r, live, names⟩

/-- R66: the line and the entry name one record the same way. -/
theorem find_none_of_unnamed {e : Entry} (unnamed : ∀ r ∈ s.table.live, e.names r = false) :
    ∀ r ∈ s.table.live, r.named e.index e.generation = false := fun r live => by
  have no := unnamed r live
  rw [Bool.eq_false_iff, Ne, names_iff] at no
  rw [Record.named_eq_false_iff]
  by_cases index : r.index = e.index
  · exact .inr fun generation => no ⟨index.symm, generation.symm⟩
  · exact .inl index

theorem modifyRecord_absent {index : Fin 64} {generation : BitVec 8}
    (absent : ∀ r ∈ s.table.live, r.named index generation = false) (f : Record → Record) :
    modifyRecord index generation f s = s := by
  rw [modifyRecord, modifyFirst_none absent, withLive_self]

theorem findRecord_absent {index : Fin 64} {generation : BitVec 8}
    (absent : ∀ r ∈ s.table.live, r.named index generation = false) :
    findRecord s.table.live index generation = none :=
  List.find?_eq_none.2 fun r live => by simp [absent r live]

/-- R66: a release entry call that names no live record changes nothing. -/
theorem releaseEntry_absent {index : Fin 64} {generation : BitVec 8}
    (absent : ∀ r ∈ s.table.live, r.named index generation = false) : releaseEntry index generation s = s := by
  rw [releaseEntry, modifyRecord_absent absent, settleOutcome, findRecord_absent absent]

/-- R66: a hold call, over the whole line. -/
theorem holdRecord_eq (distinct : (s.table.live.map Record.index).Nodup) (e : Entry) :
    holdRecord e.index e.generation s = s.withLive (s.table.live.map fun r =>
      if e.names r then { r with pendingCount := r.pendingCount + 1 } else r) := by
  rcases unnamed_or_atPlace distinct e with unnamed | ⟨ahead, r, behind, place, index, generation⟩
  · rw [map_unnamed unnamed, withLive_self]
    exact modifyRecord_absent (find_none_of_unnamed unnamed) _
  · rw [place.line] at distinct
    rw [index, generation, place.hold, place.line, map_named distinct (names_iff.2 ⟨index, generation⟩)]

/-- R65, R66: a release entry call, over the whole line. -/
theorem releaseEntry_eq (distinct : (s.table.live.map Record.index).Nodup) (e : Entry) :
    releaseEntry e.index e.generation s = raiseIf (s.table.live.any fun r => e.names r && r.shortBy 1) .shortfall
      (s.withLive (s.table.live.map fun r => if e.names r then r.released 1 else r)) := by
  rcases unnamed_or_atPlace distinct e with unnamed | ⟨ahead, r, behind, place, index, generation⟩
  · have nobody : (s.table.live.any fun r => e.names r && r.shortBy 1) = false :=
      List.any_eq_false.2 fun r live => by simp [unnamed r live]
    rw [map_unnamed unnamed, nobody, raiseIf_false, withLive_self, releaseEntry_absent (find_none_of_unnamed unnamed)]
  · rw [place.line] at distinct
    rw [index, generation, place.release, place.line, map_named distinct (names_iff.2 ⟨index, generation⟩),
      any_named distinct (names_iff.2 ⟨index, generation⟩)]
    rfl

/-- R66: a list of entries held, one after another. -/
theorem holdAll_eq (distinct : (s.table.live.map Record.index).Nodup) (entries : List Entry) :
    entries.foldl (fun t (e : Entry) => holdRecord e.index e.generation t) s = s.withLive (s.table.live.map fun r =>
      { r with pendingCount := r.pendingCount + entries.countP fun e => e.names r }) := by
  induction entries using List.reverseRecOn with
  | nil => exact (congrArg s.withLive (List.map_id s.table.live)).symm
  | append_singleton entries e ih =>
    rw [List.foldl_concat, ih, holdRecord_eq (by simpa [State.withLive, Function.comp_def] using distinct)]
    refine congrArg s.withLive ((List.map_map ..).trans (List.map_congr_left fun r _ => ?_))
    rw [List.countP_append, List.countP_singleton]
    change (if e.names r = true then _ else _) = _
    split <;> rfl

theorem any_or_any {α : Type} (l : List α) (p q : α → Bool) : (l.any p || l.any q) = l.any fun x => p x || q x := by
  rw [Bool.eq_iff_iff, Bool.or_eq_true, List.any_eq_true, List.any_eq_true, List.any_eq_true, ← exists_or]
  simp only [Bool.or_eq_true, and_or_left]

/-- R65, R66: a list of entries released, one after another. -/
theorem releaseAll_eq (distinct : (s.table.live.map Record.index).Nodup) (entries : List Entry) :
    entries.foldl (fun t (e : Entry) => releaseEntry e.index e.generation t) s
      = raiseIf (s.table.live.any fun r => r.shortBy (entries.countP fun e => e.names r)) .shortfall
        (s.withLive (s.table.live.map fun r => r.released (entries.countP fun e => e.names r))) := by
  induction entries using List.reverseRecOn with
  | nil =>
    have nobody : (s.table.live.any fun r => r.shortBy 0) = false := List.any_eq_false.2 fun r _ => by simp [shortBy_zero]
    exact ((congrArg (raiseIf · .shortfall _) nobody).trans (congrArg s.withLive (List.map_id s.table.live))).symm
  | append_singleton entries e ih =>
    have step (r : Record) : (entries ++ [e]).countP (fun e => e.names r)
        = entries.countP (fun e => e.names r) + if e.names r then 1 else 0 := by
      rw [List.countP_append, List.countP_singleton]
    have kept : ((raiseIf (s.table.live.any fun r => r.shortBy (entries.countP fun e => e.names r)) .shortfall
        (s.withLive (s.table.live.map fun r => r.released (entries.countP fun e => e.names r)))).table.live.map
          Record.index) = s.table.live.map Record.index := by
      rw [(raiseIf_keeps ..).2.2.2.1]
      exact (List.map_map ..).trans (List.map_congr_left fun r _ => (released_index _ r).1)
    rw [List.foldl_concat, ih, releaseEntry_eq (kept ▸ distinct), raiseIf_withLive, raiseIf_raiseIf, (raiseIf_keeps ..).2.2.2.1]
    refine congrArg₂ (raiseIf · .shortfall ·) ?_ (congrArg s.withLive ?_)
    · refine (congrArg (_ || ·) List.any_map).trans ((any_or_any ..).trans (congrArg (List.any _) (funext fun r => ?_)))
      rw [step r, Function.comp_apply, names_released]
      cases e.names r with
      | true => exact (Bool.true_and _).symm ▸ (released_succ _ r).2
      | false => rw [Bool.false_and, Bool.or_false]; rfl
    · refine (List.map_map ..).trans (List.map_congr_left fun r _ => ?_)
      rw [step r, Function.comp_apply, names_released]
      cases e.names r with
      | true => exact (released_succ _ r).1
      | false => rfl

/-! ### Releases (R66) -/

theorem Releases.of_same (table : t.table = s.table) (attn : t.attn.isSet .shortfall = s.attn.isSet .shortfall) :
    Releases s t [] where
  table := table.trans (congrArg (fun l => { s.table with live := l }) (List.map_id s.table.live)).symm
  shortfall := by
    have nobody : (s.table.live.any fun _ => false) = false := List.any_eq_false.2 fun _ _ => Bool.false_ne_true
    exact attn.trans ((Bool.or_false _).symm.trans (congrArg _ nobody.symm))

theorem Releases.trans {a b : List Entry} (h : Releases s t a) (k : Releases t u b) : Releases s u (a ++ b) where
  table := by
    rw [k.table, h.table]
    refine congrArg (fun l => { s.table with live := l }) ((List.map_map ..).trans (List.map_congr_left fun r _ => ?_))
    rw [List.countP_append, ← (released_add ..).1, Function.comp_apply]
    exact congrArg (fun n => Record.released n _) (List.countP_congr fun e _ => by rw [names_released])
  shortfall := by
    rw [k.shortfall, h.shortfall, h.table, Bool.or_assoc]
    refine congrArg (s.attn.isSet .shortfall || ·) ?_
    refine (congrArg (_ || ·) List.any_map).trans ((any_or_any ..).trans (congrArg (List.any _) (funext fun r => ?_)))
    have same : (b.countP fun e => e.names (r.released (a.countP fun e => e.names r))) = b.countP fun e => e.names r :=
      List.countP_congr fun e _ => by rw [names_released]
    dsimp only [Function.comp_apply]
    rw [same, List.countP_append]
    exact (released_add _ _ r).2

/-- A part of the way that neither touches the Carrier Table nor moves SHORTFALL. -/
theorem Releases.after {a : List Entry} (h : Releases s t a) (table : u.table = t.table)
    (attn : u.attn.isSet .shortfall = t.attn.isSet .shortfall) : Releases s u a :=
  ⟨table.trans h.table, attn.trans h.shortfall⟩

theorem Releases.distinct {a : List Entry} (h : Releases s t a) (law : (s.table.live.map Record.index).Nodup) :
    (t.table.live.map Record.index).Nodup := by
  rw [h.table]
  exact ((List.map_map ..).trans (List.map_congr_left fun r _ => (released_index _ r).1)).symm ▸ law

theorem releases_all (distinct : (s.table.live.map Record.index).Nodup) (entries : List Entry) :
    Releases s (entries.foldl (fun t (e : Entry) => releaseEntry e.index e.generation t) s) entries := by
  rw [releaseAll_eq distinct]
  refine ⟨(raiseIf_keeps ..).2.2.2.1, ?_⟩
  rw [raiseIf_attn]
  change (if (s.table.live.any fun r => r.shortBy (entries.countP fun e => e.names r)) = true then _ else _ : Attention).isSet
    .shortfall = (s.attn.isSet .shortfall || s.table.live.any fun r => r.shortBy (entries.countP fun e => e.names r))
  split
  case isTrue short => rw [raiseFlag_isSet, short, Bool.or_true]
  case isFalse kept => rw [Bool.eq_false_iff.2 kept, Bool.or_false]; rfl

/-! ### The shape of a pending list (R78) -/

/-- R78: the ENDED snapshots of a lawful pending list, then a STARTED one, then an UNSTARTED one, each there or not. -/
theorem Pends.shape {pending : List Snapshot} (h : Pends pending) : ∃ ended st un : List Snapshot,
    pending = ended ++ (st ++ un) ∧ (∀ n ∈ ended, n.phase = .ended)
      ∧ (st = [] ∨ ∃ n, st = [n] ∧ n.phase = .started) ∧ (un = [] ∨ ∃ n, un = [n] ∧ n.phase = .unstarted) := by
  have inOrder := h.phases
  clear h
  induction pending with
  | nil => exact ⟨[], [], [], rfl, nofun, .inl rfl, .inl rfl⟩
  | cons n rest ih =>
    cases phase : n.phase with
    | ended =>
      rw [List.map_cons, phase] at inOrder
      obtain ⟨ended, st, un, rfl, old, started, unstarted⟩ := ih inOrder
      refine ⟨n :: ended, st, un, rfl, fun m mem => ?_, started, unstarted⟩
      rcases List.mem_cons.1 mem with rfl | mem
      · exact phase
      · exact old m mem
    | started =>
      match rest, inOrder with
      | [], _ => exact ⟨[], [n], [], rfl, nofun, .inr ⟨n, rfl, phase⟩, .inl rfl⟩
      | [m], inOrder =>
        simp only [List.map_cons, List.map_nil, phase] at inOrder
        cases last : m.phase with
        | unstarted => exact ⟨[], [n], [m], rfl, nofun, .inr ⟨n, rfl, phase⟩, .inr ⟨m, rfl, last⟩⟩
        | ended => rw [last] at inOrder; cases inOrder
        | started => rw [last] at inOrder; cases inOrder
      | m :: o :: l, inOrder =>
        simp only [List.map_cons, phase] at inOrder
        cases m.phase <;> simp [phasesInOrder] at inOrder
    | unstarted =>
      match rest, inOrder with
      | [], _ => exact ⟨[], [], [n], rfl, nofun, .inl rfl, .inr ⟨n, rfl, phase⟩⟩
      | m :: l, inOrder => simp [phase, phasesInOrder] at inOrder

end Sys2Proof.Machine

/-! What posts and withdrawals leave in the drive queue and on the bus (R127 to R131), and what leaving service does as a
whole (R83). -/

namespace Sys2Proof.Machine

variable {s t u : State}

/-! ### Posts -/

/-- R131: the one item of a queue is the arbiter's choice. -/
theorem chooseItem_singleton (item : DriveItem) : chooseItem [item] = some item := by
  cases item <;> rfl

/-- R128, R131: what a post does to the queue and the bus: the item replaces what stands in its place, or its transaction
begins, or it waits as the youngest. -/
theorem postItem_cases (item : DriveItem) (s : State) :
    ((postItem item s).drive = { s.drive with
        queue := modifyFirst (fun i => i.place = item.place) item.takingOver s.drive.queue }
      ∧ ∃ old ∈ s.drive.queue, old.place = item.place)
    ∨ ((∀ i ∈ s.drive.queue, i.place ≠ item.place) ∧ s.drive.queue = [] ∧ s.drive.bus = none
      ∧ (postItem item s).drive = { s.drive with
        bus := some { item := item, window := s.map.line.replyWindow, phase := .sending } })
    ∨ ((∀ i ∈ s.drive.queue, i.place ≠ item.place)
      ∧ (postItem item s).drive = { s.drive with queue := s.drive.queue ++ [item] }) := by
  by_cases there : (s.drive.queue.any fun i => i.place = item.place) = true
  · refine .inl ⟨?_, by simpa using there⟩
    rw [postItem, if_pos there]
    dsimp only
    split
    · exact (raise_keeps ..).2.2.2.2.2.1
    · rfl
  · have vacant : s.drive.Vacant item := by simpa [DriveBus.Vacant] using there
    by_cases free : s.drive.bus = none ∧ s.drive.queue = []
    · obtain ⟨noBus, empty⟩ := free
      exact .inr (.inl ⟨vacant, empty, noBus, by rw [postItem_begins noBus empty]; rfl⟩)
    · refine .inr (.inr ⟨vacant, ?_⟩)
      have notFree : (s.drive.bus.isNone && s.drive.queue.isEmpty) = false := by
        rw [Bool.eq_false_iff, Ne, Bool.and_eq_true, Option.isNone_iff_eq_none, List.isEmpty_iff]
        exact free
      rw [postItem_vacant vacant, notFree]
      rfl

theorem mem_modifyFirst_other {α : Type} {test : α → Bool} {f : α → α} {l : List α} {x : α} (mem : x ∈ l)
    (other : test x = false) : x ∈ modifyFirst test f l := by
  induction l with
  | nil => cases mem
  | cons y l ih =>
    unfold modifyFirst
    split
    case isTrue answers =>
      rcases List.mem_cons.1 mem with rfl | mem
      · rw [other] at answers; cases answers
      · exact List.mem_cons_of_mem _ mem
    case isFalse =>
      rcases List.mem_cons.1 mem with rfl | mem
      · exact List.mem_cons_self
      · exact List.mem_cons_of_mem _ (ih mem)

theorem mem_modifyFirst_image {α : Type} {test : α → Bool} {f : α → α} {l : List α} (there : ∃ x ∈ l, test x = true) :
    ∃ x ∈ l, test x = true ∧ f x ∈ modifyFirst test f l := by
  induction l with
  | nil => obtain ⟨x, mem, -⟩ := there; cases mem
  | cons y l ih =>
    unfold modifyFirst
    split
    case isTrue answers => exact ⟨y, List.mem_cons_self, answers, List.mem_cons_self⟩
    case isFalse passed =>
      obtain ⟨x, mem, answers⟩ := there
      rcases List.mem_cons.1 mem with rfl | mem
      · exact absurd answers passed
      · obtain ⟨x, mem, answers, image⟩ := ih ⟨x, mem, answers⟩
        exact ⟨x, List.mem_cons_of_mem _ mem, answers, List.mem_cons_of_mem _ image⟩

/-- R128: what waits after a post waited before it, or is what the item makes of its place. -/
theorem mem_postItem {item i : DriveItem} (mem : i ∈ (postItem item s).drive.queue) :
    i ∈ s.drive.queue ∨ i = item ∨ ∃ old ∈ s.drive.queue, old.place = item.place ∧ i = item.takingOver old := by
  rcases postItem_cases item s with ⟨drive, -⟩ | ⟨-, empty, -, drive⟩ | ⟨-, drive⟩ <;> rw [drive] at mem
  · rcases mem_modifyFirst mem with old | ⟨old, queued, place, replaced⟩
    · exact .inl old
    · exact .inr (.inr ⟨old, queued, of_decide_eq_true place, replaced⟩)
  · exact .inl mem
  · exact (List.mem_append.1 mem).imp_right fun new => .inl (List.mem_singleton.1 new)

/-- R128: an item of another place goes on waiting. -/
theorem mem_postItem_other {item i : DriveItem} (mem : i ∈ s.drive.queue) (other : i.place ≠ item.place) :
    i ∈ (postItem item s).drive.queue := by
  rcases postItem_cases item s with ⟨drive, -⟩ | ⟨-, empty, -, drive⟩ | ⟨-, drive⟩ <;> rw [drive]
  · exact mem_modifyFirst_other mem (decide_eq_false other)
  · exact mem
  · exact List.mem_append_left _ mem

/-- R131: a post leaves a transaction on the bus alone. -/
theorem postItem_bus {item : DriveItem} {b : Transaction} (bus : s.drive.bus = some b) :
    (postItem item s).drive.bus = some b := by
  rcases postItem_cases item s with ⟨drive, -⟩ | ⟨-, -, none, -⟩ | ⟨-, drive⟩
  · rw [drive]; exact bus
  · rw [bus] at none; cases none
  · rw [drive]; exact bus

/-- R127: an item that is sent goes on being sent where items of other places are posted. -/
theorem sends_postItem_other {item i : DriveItem} (sent : s.sends i) (other : i.place ≠ item.place) :
    (postItem item s).sends i := by
  rcases sent with queued | ⟨b, bus, same⟩
  · exact .inl (mem_postItem_other queued other)
  · exact .inr ⟨b, postItem_bus bus, same⟩

/-- R128: a posted item is sent, or what it makes of the item whose place it takes. -/
theorem sends_postItem (item : DriveItem) (s : State) :
    (postItem item s).sends item ∨ ∃ old ∈ s.drive.queue, (postItem item s).sends (item.takingOver old) := by
  rcases postItem_cases item s with ⟨drive, there⟩ | ⟨-, -, -, drive⟩ | ⟨-, drive⟩
  · obtain ⟨old, queued, place, image⟩ := mem_modifyFirst_image (f := item.takingOver)
      (test := fun i => decide (i.place = item.place)) (by simpa using there)
    exact .inr ⟨old, queued, .inl (drive ▸ image)⟩
  · exact .inl (.inr ⟨_, congrArg DriveBus.bus drive, rfl⟩)
  · exact .inl (.inl (drive ▸ List.mem_append_right _ (List.mem_singleton_self _)))

/-- R128: an item that is no ORDER takes nothing over. -/
theorem takingOver_stop (c : Fin 32) (poster : Option (Fin 16)) (old : DriveItem) :
    (DriveItem.stop c poster).takingOver old = .stop c poster := rfl

theorem sends_stop (c : Fin 32) (poster : Option (Fin 16)) (s : State) :
    (postItem (.stop c poster) s).sends (.stop c poster) :=
  (sends_postItem _ s).elim id fun ⟨_, _, sent⟩ => sent

theorem sends_abort (s : State) : (postItem .abort s).sends .abort :=
  (sends_postItem _ s).elim id fun ⟨_, _, sent⟩ => sent

theorem sends_mark (z : Fin 16) (seq : BitVec 8) (a b : Option (Fin 32)) (s : State) :
    (postItem (.mark z seq a b) s).sends (.mark z seq a b) :=
  (sends_postItem _ s).elim id fun ⟨_, _, sent⟩ => sent

/-- R128, R100: a posted ORDER is sent, with the flush it took over. -/
theorem sends_order (f : OrderFrame) (flush : Bool) (z : Fin 16) (s : State) :
    ∃ flush', (postItem (.order f flush z) s).sends (.order f flush' z) :=
  (sends_postItem _ s).elim (fun sent => ⟨flush, sent⟩) fun ⟨_, _, sent⟩ => ⟨_, sent⟩

theorem postStops_cons (c : Fin 32) (cs : List (Fin 32)) (poster : Option (Fin 16)) (s : State) :
    postStops (c :: cs) poster s = postStops cs poster (postItem (.stop c poster) s) := rfl

/-- R83, R158: STOPs posted by one poster replace nothing but STOPs of it for the same channels. -/
theorem sends_postStops_kept {i : DriveItem} (cs : List (Fin 32)) (poster : Option (Fin 16)) (sent : s.sends i)
    (kept : ∀ c ∈ cs, i.place = .order c → i = .stop c poster) : (postStops cs poster s).sends i := by
  induction cs generalizing s with
  | nil => exact sent
  | cons c cs ih =>
    refine ih ?_ fun d mem => kept d (List.mem_cons_of_mem _ mem)
    by_cases place : i.place = .order c
    · rw [kept c List.mem_cons_self place]
      exact sends_stop c poster s
    · exact sends_postItem_other sent place

/-- R83: every STOP that is posted is sent. -/
theorem sends_postStops {c : Fin 32} {cs : List (Fin 32)} (poster : Option (Fin 16)) (s : State) (mem : c ∈ cs) :
    (postStops cs poster s).sends (.stop c poster) := by
  induction cs generalizing s with
  | nil => cases mem
  | cons d cs ih =>
    rw [postStops_cons]
    rcases List.mem_cons.1 mem with rfl | mem
    · refine sends_postStops_kept cs poster (sends_stop c poster s) fun e _ place => ?_
      rw [QueuePlace.order.inj place]
    · exact ih _ mem

theorem mem_postStops {cs : List (Fin 32)} {poster : Option (Fin 16)} {i : DriveItem}
    (mem : i ∈ (postStops cs poster s).drive.queue) : i ∈ s.drive.queue ∨ ∃ c ∈ cs, i = .stop c poster := by
  induction cs generalizing s with
  | nil => exact .inl mem
  | cons c cs ih =>
    rcases ih mem with old | ⟨d, inCs, stop⟩
    · rcases mem_postItem old with old | rfl | ⟨_, -, -, rfl⟩
      · exact .inl old
      · exact .inr ⟨c, List.mem_cons_self, rfl⟩
      · exact .inr ⟨c, List.mem_cons_self, rfl⟩
    · exact .inr ⟨d, List.mem_cons_of_mem _ inCs, stop⟩

/-! ### Withdrawals -/

theorem mem_removeFirst_other {α : Type} {test : α → Bool} {l : List α} {x : α} (mem : x ∈ l) (other : test x = false) :
    x ∈ removeFirst test l := by
  induction l with
  | nil => cases mem
  | cons y l ih =>
    unfold removeFirst
    split
    case isTrue answers =>
      rcases List.mem_cons.1 mem with rfl | mem
      · rw [other] at answers; cases answers
      · exact mem
    case isFalse =>
      rcases List.mem_cons.1 mem with rfl | mem
      · exact List.mem_cons_self
      · exact List.mem_cons_of_mem _ (ih mem)

/-- Where the items that answer stand in one place, a withdrawal leaves none of them (R127, R130). -/
theorem removeFirst_clears {test : DriveItem → Bool} {p : QueuePlace} {l : List DriveItem}
    (distinct : (l.map DriveItem.place).Nodup) (place : ∀ i, test i = true → i.place = p) :
    ∀ i ∈ removeFirst test l, test i = false := by
  induction l with
  | nil => nofun
  | cons y l ih =>
    rw [List.map_cons, List.nodup_cons] at distinct
    unfold removeFirst
    split
    case isTrue answers =>
      intro i mem
      by_contra there
      refine distinct.1 ((place y answers).trans (place i (by simpa using there)).symm ▸ List.mem_map_of_mem mem)
    case isFalse passed =>
      intro i mem
      rcases List.mem_cons.1 mem with rfl | mem
      · exact Bool.eq_false_iff.2 passed
      · exact ih distinct.2 i mem

theorem isOrder_iff {c : Fin 32} {seq : BitVec 8} {i : DriveItem} :
    isOrder c seq i = true ↔ ∃ f flush z, i = .order f flush z ∧ f.channel = c ∧ f.seq = seq := by
  cases i <;> simp [isOrder]

theorem isMarkOf_iff {z : Fin 16} {seq : BitVec 8} {i : DriveItem} :
    isMarkOf z seq i = true ↔ ∃ a b, i = .mark z seq a b := by
  cases i <;> simp [isMarkOf]

theorem place_of_isOrder {c : Fin 32} {seq : BitVec 8} {i : DriveItem} (h : isOrder c seq i = true) :
    i.place = .order c := by
  obtain ⟨f, flush, z, rfl, rfl, -⟩ := isOrder_iff.1 h
  rfl

theorem place_of_isMarkOf {z : Fin 16} {seq : BitVec 8} {i : DriveItem} (h : isMarkOf z seq i = true) :
    i.place = .mark z := by
  obtain ⟨a, b, rfl⟩ := isMarkOf_iff.1 h
  rfl

/-- R130: an item that no withdrawal names goes on being sent. -/
theorem sends_withdraw {test : DriveItem → Bool} {i : DriveItem} (sent : s.sends i) (other : test i = false) :
    (withdraw test s).sends i :=
  sent.imp_left fun queued => mem_removeFirst_other queued other

/-- From s to t items have left the drive queue, and none has come. -/
structure QueueShrinks (s t : State) : Prop where
  sub : t.drive.queue.Sublist s.drive.queue
  bus : t.drive.bus = s.drive.bus

theorem QueueShrinks.of_same (h : t.drive = s.drive) : QueueShrinks s t := ⟨h ▸ .refl _, h ▸ rfl⟩

theorem QueueShrinks.trans (h : QueueShrinks s t) (k : QueueShrinks t u) : QueueShrinks s u :=
  ⟨k.sub.trans h.sub, k.bus.trans h.bus⟩

theorem queueShrinks_withdraw (test : DriveItem → Bool) (s : State) : QueueShrinks s (withdraw test s) :=
  ⟨removeFirst_sublist _ _, rfl⟩

theorem QueueShrinks.places (h : QueueShrinks s t) (distinct : (s.drive.queue.map DriveItem.place).Nodup) :
    (t.drive.queue.map DriveItem.place).Nodup := (h.sub.map _).nodup distinct

theorem queueShrinks_withdrawOrders (n : Snapshot) (s : State) : QueueShrinks s (withdrawOrders n s) := by
  unfold withdrawOrders
  induction n.sides generalizing s with
  | nil => exact .of_same rfl
  | cons d l ih => exact (queueShrinks_withdraw _ s).trans (ih _)

/-- R80: no ORDER of the snapshot waits once they are withdrawn. -/
theorem withdrawOrders_clears (n : Snapshot) {d : Side} (mem : d ∈ n.sides)
    (distinct : (s.drive.queue.map DriveItem.place).Nodup) :
    ∀ i ∈ (withdrawOrders n s).drive.queue, isOrder d.channel n.seq i = false := by
  unfold withdrawOrders
  revert mem
  induction n.sides generalizing s with
  | nil => nofun
  | cons e l ih =>
    intro mem
    have shrinks := queueShrinks_withdraw (isOrder e.channel n.seq) s
    rcases List.mem_cons.1 mem with rfl | mem
    · have rest (t : State) : QueueShrinks t (l.foldl (fun t d => withdraw (isOrder d.channel n.seq) t) t) :=
        queueShrinks_withdrawOrders { n with sides := l } t
      exact fun i queued => removeFirst_clears distinct (fun _ => place_of_isOrder) i ((rest _).sub.subset queued)
    · exact ih (shrinks.places distinct) mem

/-- R80, R130: an item that is not among the ORDERs withdrawn goes on waiting. -/
theorem mem_withdrawOrders {i : DriveItem} (n : Snapshot) (queued : i ∈ s.drive.queue)
    (other : ∀ d ∈ n.sides, isOrder d.channel n.seq i = false) : i ∈ (withdrawOrders n s).drive.queue := by
  unfold withdrawOrders
  revert other
  induction n.sides generalizing s with
  | nil => exact fun _ => queued
  | cons d l ih =>
    intro other
    exact ih (s := withdraw (isOrder d.channel n.seq) s) (mem_removeFirst_other queued (other d List.mem_cons_self))
      fun e mem => other e (List.mem_cons_of_mem _ mem)

end Sys2Proof.Machine

/-! What leaving service does as a whole (R83, R80): what it discards, releases and withdraws, and the STOPs it posts. -/

namespace Sys2Proof.Machine

variable {s t u : State} {z : Fin 16}

/-! ### What a release does to a record, on any table -/

/-- R65, R66: every live record is one that was live, but for its pending count and its outcome. -/
structure OnlyReleased (s t : State) : Prop where
  each : ∀ r ∈ t.table.live, ∃ r' ∈ s.table.live, r = { r' with pendingCount := r.pendingCount, outcome := r.outcome }

theorem OnlyReleased.of_same (h : t.table = s.table) : OnlyReleased s t :=
  ⟨fun r live => ⟨r, h ▸ live, rfl⟩⟩

theorem OnlyReleased.trans (h : OnlyReleased s t) (k : OnlyReleased t u) : OnlyReleased s u :=
  ⟨fun r live => by
    obtain ⟨r', live', same'⟩ := k.each r live
    obtain ⟨r'', live'', same''⟩ := h.each r' live'
    exact ⟨r'', live'', by rw [same', same'']⟩⟩

theorem onlyReleased_modifyRecord (index : Fin 64) (generation : BitVec 8) {f : Record → Record}
    (only : ∀ r, f r = { r with pendingCount := (f r).pendingCount, outcome := (f r).outcome }) (s : State) :
    OnlyReleased s (modifyRecord index generation f s) :=
  ⟨fun r live => by
    rcases mem_modifyFirst live with old | ⟨r', old, -, rfl⟩
    · exact ⟨r, old, rfl⟩
    · exact ⟨r', old, only r'⟩⟩

theorem onlyReleased_settleOutcome (index : Fin 64) (generation : BitVec 8) (s : State) :
    OnlyReleased s (settleOutcome index generation s) := by
  have decided : OnlyReleased s (modifyRecord index generation (fun r => { r with outcome := some r.judge }) s) :=
    onlyReleased_modifyRecord index generation (fun _ => rfl) s
  unfold settleOutcome
  split
  · exact .of_same rfl
  · split
    · dsimp only
      split
      · exact decided.trans (.of_same (by simp))
      · exact decided
    · exact .of_same rfl

theorem onlyReleased_releaseEntry (index : Fin 64) (generation : BitVec 8) (s : State) :
    OnlyReleased s (releaseEntry index generation s) :=
  (onlyReleased_modifyRecord index generation (fun _ => by rfl) s).trans (onlyReleased_settleOutcome ..)

theorem onlyReleased_all (entries : List Entry) (s : State) :
    OnlyReleased s (entries.foldl (fun t (e : Entry) => releaseEntry e.index e.generation t) s) := by
  induction entries generalizing s with
  | nil => exact .of_same rfl
  | cons e l ih => exact (onlyReleased_releaseEntry ..).trans (ih _)

/-! ### Discarding a snapshot (R80) -/

/-- R80, R118: the entries of a snapshot that have not been released. -/
def Snapshot.openEntries (n : Snapshot) : List Entry := n.openSides.flatMap Side.entries

/-- R80: from s to t the zone's snapshots in this list are discarded: their entries are released, and their ORDERs and
MARKs withdrawn. -/
structure Discards (z : Fin 16) (s t : State) (gone : List Snapshot) : Prop where
  releases : (s.table.live.map Record.index).Nodup → Releases s t (gone.flatMap Snapshot.openEntries)
  only : OnlyReleased s t
  shrinks : QueueShrinks s t
  withdrawn : (s.drive.queue.map DriveItem.place).Nodup → ∀ n ∈ gone, ∀ i ∈ t.drive.queue,
    isMarkOf z n.seq i = false ∧ ∀ d ∈ n.sides, isOrder d.channel n.seq i = false
  kept : ∀ i ∈ s.drive.queue, (∀ c seq, isOrder c seq i = false) → (∀ seq, isMarkOf z seq i = false) → i ∈ t.drive.queue

theorem Discards.of_same (table : t.table = s.table) (attn : t.attn = s.attn) (drive : t.drive = s.drive) :
    Discards z s t [] where
  releases _ := .of_same table (by rw [attn])
  only := .of_same table
  shrinks := .of_same drive
  withdrawn _ := nofun
  kept _ queued _ _ := drive ▸ queued

theorem Discards.trans {a b : List Snapshot} (h : Discards z s t a) (k : Discards z t u b) : Discards z s u (a ++ b) where
  releases distinct := by
    rw [List.flatMap_append]
    exact (h.releases distinct).trans (k.releases ((h.releases distinct).distinct distinct))
  only := h.only.trans k.only
  shrinks := h.shrinks.trans k.shrinks
  withdrawn distinct n mem i queued := by
    rcases List.mem_append.1 mem with first | second
    · exact h.withdrawn distinct n first i (k.shrinks.sub.subset queued)
    · exact k.withdrawn (h.shrinks.places distinct) n second i queued
  kept i queued order mark := k.kept i (h.kept i queued order mark) order mark

theorem releaseEntries_eq (n : Snapshot) (s : State) : releaseEntries n s
    = n.openEntries.foldl (fun t (e : Entry) => releaseEntry e.index e.generation t) s := rfl

theorem discardSnapshot_of_none {test : Snapshot → Bool} (none : s.zones[z].pending.find? test = none) :
    discardSnapshot z test s = s := by
  rw [discardSnapshot, none]

theorem discards_discardSnapshot {test : Snapshot → Bool} {n : Snapshot}
    (found : s.zones[z].pending.find? test = some n) : Discards z s (discardSnapshot z test s) [n] := by
  obtain ⟨left, removed⟩ : ∃ left, left = s.modifyZone z fun q => { q with pending := removeFirst test q.pending } :=
    ⟨_, rfl⟩
  have eq : discardSnapshot z test s = withdrawOrders n (withdraw (isMarkOf z n.seq) (releaseEntries n left)) := by
    rw [discardSnapshot, found, removed]
  have sameDrive : (releaseEntries n left).drive = s.drive := by rw [(releaseEntries_keeps n left).2.2.2.2.1, removed]; rfl
  have shrinks := (queueShrinks_withdraw (isMarkOf z n.seq) (releaseEntries n left)).trans
    (queueShrinks_withdrawOrders n (withdraw (isMarkOf z n.seq) (releaseEntries n left)))
  have table : left.table = s.table := by rw [removed]; rfl
  have attn : left.attn = s.attn := by rw [removed]; rfl
  rw [eq]
  refine ⟨fun distinct => ?_, ?_, (QueueShrinks.of_same sameDrive).trans shrinks, fun distinct m mem i queued => ?_,
    fun i queued order mark => ?_⟩
  · have all := releases_all (s := left) (table ▸ distinct) n.openEntries
    rw [← releaseEntries_eq] at all
    have all : Releases s (releaseEntries n left) n.openEntries :=
      ⟨by rw [all.table, table], by rw [all.shortfall, table, attn]⟩
    rw [List.flatMap_singleton]
    exact all.after (by simp) (by simp)
  · refine (OnlyReleased.of_same table).trans (.trans (onlyReleased_all n.openEntries left) (.of_same ?_))
    rw [← releaseEntries_eq]
    simp
  · rw [List.mem_singleton.1 mem]
    have distinct : ((releaseEntries n left).drive.queue.map DriveItem.place).Nodup := by rw [sameDrive]; exact distinct
    refine ⟨removeFirst_clears distinct (fun _ => place_of_isMarkOf) i
      ((queueShrinks_withdrawOrders n _).sub.subset queued), fun d side => ?_⟩
    exact withdrawOrders_clears n side ((queueShrinks_withdraw _ _).places distinct) i queued
  · have queued : i ∈ (releaseEntries n left).drive.queue := by rw [sameDrive]; exact queued
    exact mem_withdrawOrders n (mem_removeFirst_other queued (mark n.seq)) fun d _ => order d.channel n.seq

/-! ### Leaving service (R83) -/

/-- R83: the snapshots discarded, in their order. -/
def State.goneFrom (s : State) (z : Fin 16) : List Snapshot :=
  (s.zones[z].pending.find? Snapshot.isStarted).toList.filter (fun n => waits (isMarkOf z n.seq) s)
    ++ (s.zones[z].pending.find? Snapshot.isUnstarted).toList

theorem find?_removeFirst_other {α : Type} {test p : α → Bool} (apart : ∀ x, test x = true → p x = false) (l : List α) :
    (removeFirst test l).find? p = l.find? p := by
  induction l with
  | nil => rfl
  | cons x l ih =>
    unfold removeFirst
    split
    case isTrue answers => rw [List.find?_cons_of_neg (by simp [apart x answers])]
    case isFalse => rw [List.find?_cons, List.find?_cons, ih]

theorem discards_stopAndDiscard (z : Fin 16) (x : ZoneState) (s : State) :
    Discards z s (stopAndDiscard z x s) (s.goneFrom z) := by
  obtain ⟨stopped, eq⟩ : ∃ u, u = stopTimers z x s := ⟨_, rfl⟩
  have same : Discards z s stopped [] := by rw [eq]; exact .of_same rfl rfl rfl
  have pending : stopped.zones[z].pending = s.zones[z].pending := by
    rw [eq, zone_of_bankSet (stopTimers_zones z s x)]
  have waiting (n : Snapshot) : waits (isMarkOf z n.seq) stopped = waits (isMarkOf z n.seq) s := by rw [eq]; rfl
  have first : Discards z stopped (discardIfMarkWaits z stopped)
        ((s.zones[z].pending.find? Snapshot.isStarted).toList.filter fun n => waits (isMarkOf z n.seq) s)
      ∧ (discardIfMarkWaits z stopped).zones[z].pending.find? Snapshot.isUnstarted
        = s.zones[z].pending.find? Snapshot.isUnstarted := by
    rw [← pending, discardIfMarkWaits]
    cases found : stopped.zones[z].pending.find? Snapshot.isStarted with
    | none => exact ⟨.of_same rfl rfl rfl, rfl⟩
    | some n =>
      dsimp only [Option.toList]
      rw [List.filter_singleton, waiting n]
      by_cases there : waits (isMarkOf z n.seq) s = true
      · rw [if_pos there, there]
        refine ⟨discards_discardSnapshot found, ?_⟩
        rw [zone_of_bankSet (discardSnapshot_zones ..)]
        refine find?_removeFirst_other (fun n started => ?_) _
        rw [Snapshot.isUnstarted, isStarted_iff.1 started]
        rfl
      · rw [if_neg there, Bool.eq_false_iff.2 there]
        exact ⟨.of_same rfl rfl rfl, rfl⟩
  obtain ⟨first, left⟩ := first
  rw [stopAndDiscard, ← eq, ← List.nil_append (s.goneFrom z)]
  refine same.trans (first.trans ?_)
  rw [← left]
  cases found : (discardIfMarkWaits z stopped).zones[z].pending.find? Snapshot.isUnstarted with
  | none => rw [discardSnapshot_of_none found]; exact .of_same rfl rfl rfl
  | some n => exact discards_discardSnapshot found

theorem removeFirst_append_left {α : Type} {test : α → Bool} {l : List α} (passed : ∀ y ∈ l, test y = false) (m : List α) :
    removeFirst test (l ++ m) = l ++ removeFirst test m := by
  induction l with
  | nil => rfl
  | cons y l ih =>
    have this := passed y List.mem_cons_self
    rw [List.cons_append, removeFirst, this, if_neg Bool.false_ne_true, ih fun x mem => passed x (List.mem_cons_of_mem _ mem)]
    rfl

/-- R83: on a lawful pending list, what is discarded are the snapshots that the words of R83 name, and the others are
left. -/
theorem goneFrom_eq (h : Pends s.zones[z].pending) :
    s.goneFrom z = s.zones[z].pending.filter (s.discards z)
      ∧ s.leftPending z = s.zones[z].pending.filter fun n => !s.discards z n := by
  obtain ⟨ended, st, un, split, old, started, unstarted⟩ := h.shape
  have kept : ∀ n ∈ ended, s.discards z n = false ∧ n.isStarted = false ∧ n.isUnstarted = false := fun n mem => by
    simp [State.discards, Snapshot.isStarted, Snapshot.isUnstarted, old n mem]
  have stNot : ∀ n : Snapshot, n.phase = .started → n.isStarted = true ∧ n.isUnstarted = false
      ∧ s.discards z n = waits (isMarkOf z n.seq) s := fun n phase => by
    simp [State.discards, Snapshot.isStarted, Snapshot.isUnstarted, phase, waits]
  have unNot : ∀ n : Snapshot, n.phase = .unstarted → n.isUnstarted = true ∧ n.isStarted = false
      ∧ s.discards z n = true := fun n phase => by
    simp [State.discards, Snapshot.isStarted, Snapshot.isUnstarted, phase]
  have noStarted : ended.find? Snapshot.isStarted = none := List.find?_eq_none.2 fun n mem => by simp [kept n mem]
  have noUnstarted : ended.find? Snapshot.isUnstarted = none := List.find?_eq_none.2 fun n mem => by simp [kept n mem]
  have noneGone : ended.filter (s.discards z) = [] := List.filter_eq_nil_iff.2 fun n mem => by simp [kept n mem]
  have allLeft : (ended.filter fun n => !s.discards z n) = ended := List.filter_eq_self.2 fun n mem => by simp [kept n mem]
  have removeSt := removeFirst_append_left (fun n mem => (kept n mem).2.1)
  have removeUn := removeFirst_append_left (fun n mem => (kept n mem).2.2)
  have stillUn := removeFirst_none (fun n mem => (kept n mem).2.2)
  rw [State.goneFrom, State.leftPending, split]
  rcases started with rfl | ⟨n, rfl, stPhase⟩ <;> rcases unstarted with rfl | ⟨m, rfl, unPhase⟩
  · simp [noStarted, noUnstarted, noneGone, allLeft, stillUn]
  · simp [noStarted, noUnstarted, noneGone, allLeft, removeUn, removeFirst, unNot m unPhase]
  · by_cases there : waits (isMarkOf z n.seq) s = true <;>
      simp [noStarted, noUnstarted, noneGone, allLeft, removeUn, removeSt, stillUn, removeFirst, stNot n stPhase, there]
  · by_cases there : waits (isMarkOf z n.seq) s = true <;>
      simp [noStarted, noUnstarted, noneGone, allLeft, removeUn, removeSt, removeFirst, stNot n stPhase, unNot m unPhase,
        there]

/-- R83: into a state other than HALTED, a zone that leaves service posts the STOPs behind what it discards. -/
theorem leaveService_posts (z : Fin 16) {x : ZoneState} (other : x ≠ .halted) (s : State) :
    leaveService z x s = postStops s.map.zones[z].channels (some z) (stopAndDiscard z x s) := by
  rw [leaveService_eq, if_neg other]

theorem leaveService_halted (z : Fin 16) (s : State) : leaveService z .halted s = stopAndDiscard z .halted s := by
  rw [leaveService_eq, if_pos rfl]

/-- A post of no MARK raises nothing (R129). -/
theorem postStops_attn (cs : List (Fin 32)) (poster : Option (Fin 16)) (s : State) :
    (postStops cs poster s).attn = s.attn := by
  obtain ⟨raised, none, eq⟩ := (works_postStops cs poster s).attn
  rw [eq, List.eq_nil_of_subset_nil none]
  rfl

/-- R83: what a zone that leaves service makes of the rest of the part, whatever state it goes into. -/
theorem leaveService_rest (z : Fin 16) (x : ZoneState) (s : State) :
    (leaveService z x s).table = (stopAndDiscard z x s).table ∧ (leaveService z x s).attn = (stopAndDiscard z x s).attn
      ∧ ∀ i ∈ (leaveService z x s).drive.queue, i ∈ (stopAndDiscard z x s).drive.queue
        ∨ ∃ c poster, i = .stop c poster := by
  rw [leaveService_eq]
  split
  · exact ⟨rfl, rfl, fun i queued => .inl queued⟩
  · exact ⟨(postStops_keeps ..).2.2.2.1, postStops_attn .., fun i queued =>
      (mem_postStops queued).imp_right fun ⟨c, _, stop⟩ => ⟨c, _, stop⟩⟩

theorem discardedEntries_eq (h : Pends s.zones[z].pending) :
    s.discardedEntries z = (s.goneFrom z).flatMap Snapshot.openEntries := by
  rw [(goneFrom_eq h).1]
  rfl

/-- R83, R66: leaving service releases the entries of what it discards. -/
theorem releases_leaveService (x : ZoneState) (law : (s.table.live.map Record.index).Nodup)
    (h : Pends s.zones[z].pending) : Releases s (leaveService z x s) (s.discardedEntries z) := by
  obtain ⟨table, attn, -⟩ := leaveService_rest z x s
  rw [discardedEntries_eq h]
  exact ((discards_stopAndDiscard z x s).releases law).after table (by rw [attn])

/-- R83: leaving service, in the words of R83. -/
theorem leavesService_leaveService (x : ZoneState) (h : Pends s.zones[z].pending) :
    LeavesService s (leaveService z x s) z x where
  zone := by rw [leaveService_zone, (goneFrom_eq h).2]
  withdrawn law n mem gone i queued := by
    have named : n ∈ s.goneFrom z := by rw [(goneFrom_eq h).1]; exact List.mem_filter.2 ⟨mem, gone⟩
    rcases (leaveService_rest z x s).2.2 i queued with old | ⟨c, poster, rfl⟩
    · exact (discards_stopAndDiscard z x s).withdrawn law.places n named i old
    · exact ⟨rfl, fun d _ => rfl⟩

theorem onlyReleased_leaveService (x : ZoneState) : OnlyReleased s (leaveService z x s) :=
  (discards_stopAndDiscard z x s).only.trans (.of_same (leaveService_rest z x s).1)

/-- R83: a zone that leaves service for another state than HALTED sends a STOP to each of its channels. -/
theorem sends_leaveService {x : ZoneState} (other : x ≠ .halted) {c : Fin 32} (mem : c ∈ s.map.zones[z].channels) :
    (leaveService z x s).sends (.stop c (some z)) := by
  rw [leaveService_posts z other]
  exact sends_postStops _ _ mem

end Sys2Proof.Machine

/-! DISABLE ZONE (R85), the halt (R152, R153), and what raising a class does (R145 to R147). -/

namespace Sys2Proof.Machine

variable {s t u : State} {z : Fin 16}

theorem ownDisableZone_byteOf (z : Fin 16) (s : State) : ownDisableZone (byteOf z) s
    = if s.zones[z].state = .disabled then accept s [] else accept (leaveService z .disabled s) [] := by
  rw [ownDisableZone, indexOf_byteOf (by decide)]

theorem ownDisableZone_above {zone : Byte} (above : 15 < zone.toNat) (s : State) :
    ownDisableZone zone s = refuse s .badValue := by
  rw [ownDisableZone, indexOf_eq_none_iff.2 above]

/-- Settles O28: DISABLE ZONE is leaving service into DISABLED. -/
theorem disableZoneRequest : Obligations.DisableZoneRequest := by
  intro addr z s h q command
  refine ⟨fun b above => exec_refused (r := .disableZone b) h (ownDisableZone_above above s),
    fun disabled => exec_accepted (r := .disableZone (byteOf z)) h ?_, fun inService => ?_⟩
  · exact (ownDisableZone_byteOf z s).trans (if_pos disabled)
  · obtain ⟨map, programs, pos, monitor, sup, link, -, -⟩ := leaveService_keeps z .disabled s
    have zone := leaveService_zone z s .disabled
    refine ⟨leaveService z .disabled s,
      exec_accepted (r := .disableZone (byteOf z)) h ((ownDisableZone_byteOf z s).trans (if_neg inService)),
      by rw [zone], by rw [zone], by rw [zone], by rw [zone], by rw [zone], by rw [zone], by rw [zone],
      fun n mem => ?_, fun law => ⟨leavesService_leaveService .disabled law.pends,
        fun table => releases_leaveService .disabled table.indexes law.pends⟩,
      (othersKept_leaveService z s .disabled).kept, fun ch mem => sends_leaveService (x := .disabled) (by decide) mem,
      onlyReleased_leaveService .disabled |>.each, map, programs, pos, monitor, sup, link⟩
    rw [zone] at mem
    exact (leftPending_sublist z s).subset mem

/-! ### One zone while others leave service (R83, R90) -/

/-- The item is no snapshot's: neither an ORDER nor a MARK. -/
def DriveItem.OfNoSnapshot (i : DriveItem) : Prop := (∀ c seq, isOrder c seq i = false) ∧ ∀ z seq, isMarkOf z seq i = false

theorem ofNoSnapshot_stop (c : Fin 32) (poster : Option (Fin 16)) : (DriveItem.stop c poster).OfNoSnapshot :=
  ⟨fun _ _ => rfl, fun _ _ => rfl⟩

theorem ofNoSnapshot_abort : DriveItem.abort.OfNoSnapshot := ⟨fun _ _ => rfl, fun _ _ => rfl⟩

/-- From s to t the zone stands aside: its sequencer and its MARKs are as they were, and no ORDER and no MARK comes. -/
structure Aside (z : Fin 16) (s t : State) : Prop where
  zone : t.zones[z] = s.zones[z]
  come : ∀ i ∈ t.drive.queue, i ∈ s.drive.queue ∨ i.OfNoSnapshot
  marks : ∀ i ∈ s.drive.queue, i.place = .mark z → i ∈ t.drive.queue

theorem Aside.of_same (zones : t.zones = s.zones) (drive : t.drive = s.drive) : Aside z s t where
  zone := by rw [zones]
  come _ queued := .inl (drive ▸ queued)
  marks _ queued _ := drive ▸ queued

theorem Aside.trans (h : Aside z s t) (k : Aside z t u) : Aside z s u where
  zone := k.zone.trans h.zone
  come i queued := (k.come i queued).elim (h.come i) .inr
  marks i queued place := k.marks i (h.marks i queued place) place

/-- The sequencer of another zone is written. -/
theorem aside_modifyZone {y : Fin 16} (other : y ≠ z) (f : Sequencer → Sequencer) (s : State) :
    Aside z s (s.modifyZone y f) where
  zone := (othersKept_modifyZone y f s).kept z other.symm
  come _ queued := .inl queued
  marks _ queued _ := queued

theorem mem_postStops_other {cs : List (Fin 32)} {poster : Option (Fin 16)} {i : DriveItem} (mem : i ∈ s.drive.queue)
    (other : ∀ c ∈ cs, i.place ≠ .order c) : i ∈ (postStops cs poster s).drive.queue := by
  induction cs generalizing s with
  | nil => exact mem
  | cons c cs ih =>
    exact ih (mem_postItem_other mem (other c List.mem_cons_self)) fun d inCs => other d (List.mem_cons_of_mem _ inCs)

/-- R83: an item that is neither an ORDER nor a MARK of the zone, and in whose place no STOP is posted, goes on
waiting. -/
theorem mem_leaveService (x : ZoneState) {i : DriveItem} (queued : i ∈ s.drive.queue) (order : ∀ c seq, isOrder c seq i = false)
    (mark : ∀ seq, isMarkOf z seq i = false) (place : ∀ c ∈ s.map.zones[z].channels, i.place ≠ .order c) :
    i ∈ (leaveService z x s).drive.queue := by
  have kept := (discards_stopAndDiscard z x s).kept i queued order mark
  rw [leaveService_eq]
  split
  · exact kept
  · exact mem_postStops_other kept place

theorem leaveService_bus {x : ZoneState} {b : Transaction} (bus : s.drive.bus = some b) :
    (leaveService z x s).drive.bus = some b := by
  have kept := (discards_stopAndDiscard z x s).shrinks.bus.trans bus
  rw [leaveService_eq]
  split
  · exact kept
  · unfold postStops
    generalize s.map.zones[z].channels = cs
    generalize stopAndDiscard z x s = u at kept
    induction cs generalizing u with
    | nil => exact kept
    | cons c cs ih => exact ih _ (postItem_bus kept)

/-- R83: another zone leaves service. -/
theorem aside_leaveService {y : Fin 16} (other : y ≠ z) (x : ZoneState) (s : State) : Aside z s (leaveService y x s) where
  zone := (othersKept_leaveService y s x).kept z other.symm
  come i queued := ((leaveService_rest y x s).2.2 i queued).imp
    (fun old => (discards_stopAndDiscard y x s).shrinks.sub.subset old) fun ⟨c, poster, stop⟩ =>
      stop ▸ ofNoSnapshot_stop c poster
  marks i queued place := by
    refine mem_leaveService x queued (fun c seq => ?_) (fun seq => ?_) fun c _ => by rw [place]; exact nofun
    · by_contra order
      rw [place_of_isOrder (by simpa using order)] at place
      cases place
    · by_contra mark
      rw [place_of_isMarkOf (by simpa using mark)] at place
      exact other (QueuePlace.mark.inj place)

/-- R83: what a zone would discard is decided by its own sequencer and its own MARKs. -/
theorem Aside.discards (h : Aside z s t) : t.discards z = s.discards z := by
  have waiting (seq : BitVec 8) : t.drive.queue.any (isMarkOf z seq) = s.drive.queue.any (isMarkOf z seq) := by
    rw [Bool.eq_iff_iff, List.any_eq_true, List.any_eq_true]
    constructor
    · rintro ⟨i, queued, mark⟩
      rcases h.come i queued with old | none
      · exact ⟨i, old, mark⟩
      · rw [none.2] at mark; cases mark
    · rintro ⟨i, queued, mark⟩
      exact ⟨i, h.marks i queued (place_of_isMarkOf mark), mark⟩
  funext n
  rw [State.discards, State.discards, waiting]

theorem Aside.discardedEntries (h : Aside z s t) : t.discardedEntries z = s.discardedEntries z := by
  rw [State.discardedEntries, State.discardedEntries, h.zone, h.discards]

/-- R83: a zone leaves service between steps in which it stands aside. -/
theorem LeavesService.within {v : State} {x : ZoneState} (h : LeavesService t u z x) (before : Aside z s t)
    (law : QueueLaw s → QueueLaw t) (after : Aside z u v) : LeavesService s v z x where
  zone := by rw [after.zone, h.zone, before.zone, before.discards]
  withdrawn lawful n mem gone i queued := by
    rcases after.come i queued with old | none
    · exact h.withdrawn (law lawful) n (before.zone ▸ mem) (before.discards ▸ gone) i old
    · exact ⟨none.2 _ _, fun _ _ => none.1 _ _⟩

/-! ### All zones, one after another -/

/-- What one zone's turn establishes stands at the end, where the turns before it keep what it needs and the turns behind
it keep what it established. -/
theorem foldl_visit {f : State → Fin 16 → State} {Ready Done : State → Prop} (z : Fin 16)
    (ready : ∀ u y, y ≠ z → Ready u → Ready (f u y)) (visit : ∀ u, Ready u → Done (f u z))
    (done : ∀ u y, y ≠ z → Done u → Done (f u y)) (start : Ready s) : Done (zoneNumbers.foldl f s) := by
  have run {P : State → Prop} (each : ∀ u y, y ≠ z → P u → P (f u y)) (l : List (Fin 16)) (absent : z ∉ l) (u : State)
      (h : P u) : P (l.foldl f u) := by
    induction l generalizing u with
    | nil => exact h
    | cons y l ih =>
      rw [List.mem_cons, not_or] at absent
      exact ih absent.2 _ (each u y (Ne.symm absent.1) h)
  obtain ⟨before, after, split, notBefore, notAfter⟩ := zoneNumbers_split z
  rw [split, List.foldl_append, List.foldl_cons]
  exact run done after notAfter _ (visit _ (run ready before notBefore s start))

/-- One zone's turn among the turns of all zones, in which it stands aside. -/
theorem foldl_aside {f : State → Fin 16 → State} {Law : State → Prop} (z : Fin 16) (aside : ∀ u y, y ≠ z → Aside z u (f u y))
    (law : ∀ u y, Law u → Law (f u y)) (start : Law s) :
    ∃ u, Law u ∧ Aside z s u ∧ Aside z (f u z) (zoneNumbers.foldl f s) :=
  foldl_visit (Ready := fun u => Law u ∧ Aside z s u) (Done := fun t => ∃ u, Law u ∧ Aside z s u ∧ Aside z (f u z) t) z
    (fun u y other h => ⟨law u y h.1, h.2.trans (aside u y other)⟩)
    (fun u h => ⟨u, h.1, h.2, .of_same rfl rfl⟩)
    (fun u y other ⟨v, lawful, before, after⟩ => ⟨v, lawful, before, after.trans (aside u y other)⟩)
    ⟨start, .of_same rfl rfl⟩

/-- R66: the releases of all zones, one after another, where a zone's turn does not change what another releases. -/
theorem foldl_releases {f : State → Fin 16 → State} {E : State → Fin 16 → List Entry} {Law : State → Prop}
    (law : ∀ u y, Law u → Law (f u y)) (each : ∀ u y, Law u → Releases u (f u y) (E u y))
    (same : ∀ u y z, y ≠ z → E (f u y) z = E u z) (start : Law s) :
    Releases s (zoneNumbers.foldl f s) (zoneNumbers.flatMap (E s)) := by
  have run (l : List (Fin 16)) (distinct : l.Nodup) (u : State) (h : Law u) :
      Releases u (l.foldl f u) (l.flatMap (E u)) := by
    induction l generalizing u with
    | nil => exact .of_same rfl rfl
    | cons y l ih =>
      obtain ⟨fresh, distinct⟩ := List.nodup_cons.1 distinct
      have rest := ih distinct _ (law u y h)
      have still : l.flatMap (E (f u y)) = l.flatMap (E u) :=
        List.flatMap_congr fun z mem => same u y z fun is => fresh (is ▸ mem)
      rw [still] at rest
      exact (each u y h).trans rest
  exact run zoneNumbers (List.nodup_finRange 16) s start

/-! ### The halt (R90, R152) -/

theorem aside_tellHalt {y : Fin 16} (other : y ≠ z) (s : State) : Aside z s (tellHalt s y) := by
  unfold tellHalt
  split
  · exact aside_leaveService other _ s
  · exact aside_leaveService other _ s
  · exact aside_leaveService other _ s
  · exact aside_modifyZone other _ s
  · exact .of_same rfl rfl
  · exact .of_same rfl rfl

/-- R90: RUNNING, PROTECT and PARKED leave service when the line halts. -/
def ZoneState.leavesOnHalt (x : ZoneState) : Bool := x == .running || x == .protect || x == .parked

theorem tellHalt_leaves (h : s.zones[z].state.leavesOnHalt = true) : tellHalt s z = leaveService z .halted s := by
  unfold tellHalt
  cases st : s.zones[z].state with
  | running => rfl
  | protect => rfl
  | parked => rfl
  | disabled => rw [st] at h; cases h
  | faulted => rw [st] at h; cases h
  | halted => rw [st] at h; cases h

/-- R90: the entries that a zone releases when the line halts. -/
def State.haltEntries (s : State) (z : Fin 16) : List Entry :=
  if s.zones[z].state.leavesOnHalt then s.discardedEntries z else []

theorem releases_tellHalt (law : (s.table.live.map Record.index).Nodup) (h : ServiceLaw s.zones[z]) :
    Releases s (tellHalt s z) (s.haltEntries z) := by
  unfold State.haltEntries
  split
  case isTrue leaves =>
    rw [tellHalt_leaves leaves]
    exact releases_leaveService .halted law h.pends
  case isFalse stays =>
    unfold tellHalt
    cases st : s.zones[z].state with
    | halted => exact .of_same rfl rfl
    | disabled => exact .of_same rfl rfl
    | faulted => exact .of_same rfl rfl
    | running => rw [st] at stays; exact absurd rfl stays
    | protect => rw [st] at stays; exact absurd rfl stays
    | parked => rw [st] at stays; exact absurd rfl stays

theorem serviceLaws_tellHalt (h : ∀ z : Fin 16, ServiceLaw s.zones[z]) (y : Fin 16) :
    ∀ z : Fin 16, ServiceLaw (tellHalt s y).zones[z] := fun z => by
  by_cases same : z = y
  · subst same
    exact serviceLaw_tellHalt z s (h z)
  · rw [(othersKept_tellHalt y s).kept z same]
    exact h z

theorem Aside.haltEntries (h : Aside z s t) : t.haltEntries z = s.haltEntries z := by
  rw [State.haltEntries, State.haltEntries, h.zone, h.discardedEntries]

/-- R83: an item that leaving service neither withdraws nor replaces goes on being sent. -/
theorem sends_leaveService_kept (x : ZoneState) {i : DriveItem} (sent : s.sends i) (order : ∀ c seq, isOrder c seq i = false)
    (mark : ∀ seq, isMarkOf z seq i = false) (place : ∀ c ∈ s.map.zones[z].channels, i.place ≠ .order c) :
    (leaveService z x s).sends i :=
  sent.imp (fun queued => mem_leaveService x queued order mark place) fun ⟨b, bus, same⟩ => ⟨b, leaveService_bus bus, same⟩

theorem sends_abort_tellHalt (sent : s.sends .abort) (y : Fin 16) : (tellHalt s y).sends .abort := by
  have leaves (x : ZoneState) : (leaveService y x s).sends .abort :=
    sends_leaveService_kept x sent (fun _ _ => rfl) (fun _ => rfl) fun _ _ => nofun
  unfold tellHalt
  split
  · exact leaves _
  · exact leaves _
  · exact leaves _
  · exact sent
  · exact sent
  · exact sent

/-- R152: the state on which the zones are told of a halt. -/
def State.halting (s : State) (x : Supervisor) : State := postItem .abort (s.withSup { x with halted := true })

variable {x : Supervisor}

theorem haltLine_eq (running : x.halted = false) (s : State) :
    haltLine (s.withSup x) = raise .halt (zoneNumbers.foldl tellHalt (s.halting x)) := by
  have notHalted : (s.withSup x).sup.halted = false := running
  rw [haltLine, notHalted]
  rfl

theorem haltLine_halted (halted : s.sup.halted = true) : haltLine s = s := by
  rw [haltLine, if_pos halted]

theorem works_halting (x : Supervisor) (s : State) : Works [] s (s.halting x) :=
  (Works.of_same (s := s) (t := s.withSup { x with halted := true }) rfl rfl rfl rfl).trans
    (works_postItem_of_notMark (item := .abort) rfl _)

theorem halting_keeps (x : Supervisor) (s : State) : (s.halting x).zones = s.zones ∧ (s.halting x).table = s.table
    ∧ (s.halting x).attn = s.attn ∧ (s.halting x).inReset = s.inReset := by
  obtain ⟨-, -, -, table, zones, -, -, -, inReset, -⟩ := postItem_keeps .abort (s.withSup { x with halted := true })
  refine ⟨zones, table, ?_, inReset⟩
  obtain ⟨raised, none, eq⟩ := (works_halting x s).attn
  rw [eq, List.eq_nil_of_subset_nil none]
  rfl

theorem aside_halting (z : Fin 16) (x : Supervisor) (s : State) : Aside z s (s.halting x) where
  zone := by rw [(halting_keeps x s).1]
  come i queued := by
    rcases mem_postItem queued with old | rfl | ⟨old, queued, place, rfl⟩
    · exact .inl old
    · exact .inr ofNoSnapshot_abort
    · exact .inr ofNoSnapshot_abort
  marks i queued place := mem_postItem_other queued (by rw [place]; exact nofun)

theorem State.sends.of_drive {i : DriveItem} (sent : s.sends i) (same : t.drive = s.drive) : t.sends i := by
  rw [State.sends, same]
  exact sent

theorem sends_abort_halting (x : Supervisor) (s : State) : (s.halting x).sends .abort := sends_abort _

/-- R152: the ABORT of a halt is still sent when every zone has been told. -/
theorem sends_abort_haltLine (running : x.halted = false) (s : State) :
    (haltLine (s.withSup x)).sends .abort := by
  have told : (zoneNumbers.foldl tellHalt (s.halting x)).sends .abort :=
    List.foldlRecOn zoneNumbers tellHalt (motive := fun u => u.sends .abort) (sends_abort_halting x s)
      fun _ sent y _ => sends_abort_tellHalt sent y
  rw [haltLine_eq running]
  exact told.of_drive (raise_keeps ..).2.2.2.2.2.1

/-- R90: what a halt makes of each zone. -/
theorem haltLine_zone (running : x.halted = false) (awake : s.inReset = false) (z : Fin 16) :
    ∃ u, (QueueLaw s → QueueLaw u) ∧ Aside z s u ∧ Aside z (tellHalt u z) (haltLine (s.withSup x)) := by
  obtain ⟨u, ⟨-, law⟩, before, after⟩ := foldl_aside (s := s.halting x) (f := tellHalt)
    (Law := fun u => u.inReset = false ∧ (QueueLaw s → QueueLaw u)) z
    (fun u y other => aside_tellHalt other u)
    (fun u y h => ⟨by simpa using h.1, fun lawful => (works_tellHalt y u).queueLaw h.1 (by simp) (h.2 lawful)⟩)
    ⟨(halting_keeps x s).2.2.2.trans awake, (works_halting x s).queueLaw awake (halting_keeps x s).2.2.2⟩
  refine ⟨u, law, (aside_halting z x s).trans before, ?_⟩
  rw [haltLine_eq running]
  exact after.trans (.of_same (by simp) (by simp))

/-- R66, R90: what a halt releases. -/
theorem releases_haltLine (running : x.halted = false) (table : TableLaw s) (zones : ∀ z : Fin 16, ServiceLaw s.zones[z]) :
    Releases s (haltLine (s.withSup x)) (zoneNumbers.flatMap s.haltEntries) := by
  obtain ⟨sameZones, sameTable, sameAttn, -⟩ := halting_keeps x s
  have told := foldl_releases (s := s.halting x) (f := tellHalt) (E := State.haltEntries)
    (Law := fun u => TableLaw u ∧ ∀ z : Fin 16, ServiceLaw u.zones[z])
    (fun u y h => ⟨(works_tellHalt y u).tableLaw h.1, serviceLaws_tellHalt h.2 y⟩)
    (fun u y h => releases_tellHalt h.1.indexes (h.2 y))
    (fun u y z other => (aside_tellHalt other u).haltEntries)
    ⟨table.of_table sameTable, by rw [sameZones]; exact zones⟩
  have entries : (s.halting x).haltEntries = s.haltEntries := funext fun z => (aside_halting z x s).haltEntries
  rw [entries] at told
  have begun : Releases s (zoneNumbers.foldl tellHalt (s.halting x)) (zoneNumbers.flatMap s.haltEntries) :=
    ⟨by rw [told.table, sameTable], by rw [told.shortfall, sameTable, sameAttn]⟩
  rw [haltLine_eq running]
  exact begun.after (by simp) (isSet_raiseFlag_other (by decide))

theorem tellHalt_zone (s : State) (z : Fin 16) : match s.zones[z].state with
    | .disabled => (tellHalt s z).zones[z] = s.zones[z]
    | .faulted => (tellHalt s z).zones[z] = s.zones[z]
    | .halted => (tellHalt s z).zones[z] = { s.zones[z] with restartTimer := none }
    | _ => tellHalt s z = leaveService z .halted s := by
  cases st : s.zones[z].state with
  | disabled => rw [tellHalt, st]
  | faulted => rw [tellHalt, st]
  | halted => rw [tellHalt, st, modifyZone_get, if_pos rfl]
  | running => exact tellHalt_leaves (by rw [st]; rfl)
  | protect => exact tellHalt_leaves (by rw [st]; rfl)
  | parked => exact tellHalt_leaves (by rw [st]; rfl)

/-- R90, R83: a zone that a halt takes out of service. -/
theorem haltLine_leaves (running : x.halted = false) (awake : s.inReset = false)
    (leaves : s.zones[z].state.leavesOnHalt = true) :
    (haltLine (s.withSup x)).zones[z].state = .halted ∧ (haltLine (s.withSup x)).zones[z].periodTimer = none
      ∧ (haltLine (s.withSup x)).zones[z].restartTimer = none
      ∧ (ServiceLaw s.zones[z] → LeavesService s (haltLine (s.withSup x)) z .halted) := by
  obtain ⟨u, law, before, after⟩ := haltLine_zone running awake z
  rw [tellHalt_leaves (before.zone ▸ leaves)] at after
  refine ⟨?_, ?_, ?_, fun service => (leavesService_leaveService .halted (before.zone ▸ service.pends)).within before law
    after⟩
  all_goals rw [after.zone, leaveService_zone]

/-- R90: a zone that was not in service before the halt, and one that was halted. -/
theorem haltLine_stays (running : x.halted = false) (awake : s.inReset = false) (z : Fin 16) :
    (s.zones[z].state = .disabled ∨ s.zones[z].state = .faulted → (haltLine (s.withSup x)).zones[z] = s.zones[z])
      ∧ (s.zones[z].state = .halted → (haltLine (s.withSup x)).zones[z] = { s.zones[z] with restartTimer := none }) := by
  obtain ⟨u, -, before, after⟩ := haltLine_zone running awake z
  have told := tellHalt_zone u z
  rw [before.zone] at told
  refine ⟨?_, fun st => ?_⟩
  · rintro (st | st) <;> rw [st] at told <;> exact after.zone.trans told
  · rw [st] at told
    exact after.zone.trans told

/-- Settles O29: a halt by request and one by pin are the same halt. -/
theorem haltCommands : Obligations.HaltCommands := by
  intro addr s
  have request : serve .halt s = accept (haltLine s) [] := rfl
  have group (h : ListeningToGroup s addr) : exec (.halt addr) s = .next (haltLine s).heard := exec_group h (r := .halt) rfl
  have pinned (awake : s.inReset = false) :
      exec .haltNActive s = .next (haltLine (s.withSup { s.sup with haltNActive := true })) := next_awake awake _
  refine ⟨fun h halted => ?_, fun h halted => ?_, fun awake halted => ?_, fun awake running pin => ?_⟩
  · exact exec_accepted (r := .halt) h (request.trans (by rw [haltLine_halted halted]))
  · rw [group h, haltLine_halted halted]
  · have both : ({ s.sup with haltNActive := true } : Supervisor) = ⟨true, true⟩ :=
      congrArg (fun b => Supervisor.mk b true) halted
    rw [both] at pinned
    rw [pinned awake, haltLine_halted (s := s.withSup ⟨true, true⟩) rfl]
    rfl
  · obtain ⟨x, is⟩ : ∃ x : Supervisor, x = if pin then { s.sup with haltNActive := true } else s.sup := ⟨_, rfl⟩
    have running' : x.halted = false := by rw [is]; cases pin <;> exact running
    have own : pin = false → s.withSup x = s := by rw [is]; rintro rfl; rfl
    obtain ⟨map, programs, pos, monitor, link, -, -⟩ := haltLine_keeps (s.withSup x)
    refine ⟨haltLine (s.withSup x), fun byPin => ?_, fun byRequest h => ?_, fun byRequest h => ?_, ?_, ?_,
      sends_abort_haltLine running' s, fun z => ?_, fun table zones => ?_, map, programs, pos, monitor, link⟩
    · rw [pinned awake, is, byPin]
      rfl
    · rw [own byRequest]
      exact exec_accepted (r := .halt) h request
    · rw [own byRequest]
      exact group h
    · have sup : (haltLine (s.withSup x)).sup = { x with halted := true } := by
        rw [haltLine_eq running']
        simp [State.halting]
      rw [sup, is]
      cases pin <;> rfl
    · rw [haltLine_eq running']
      exact raiseFlag_isSet ..
    · cases st : s.zones[z].state with
      | disabled => exact (haltLine_stays running' awake z).1 (.inl st)
      | faulted => exact (haltLine_stays running' awake z).1 (.inr st)
      | halted => exact (haltLine_stays running' awake z).2 st
      | running => exact haltLine_leaves running' awake (by rw [st]; rfl)
      | protect => exact haltLine_leaves running' awake (by rw [st]; rfl)
      | parked => exact haltLine_leaves running' awake (by rw [st]; rfl)
    · have released := releases_haltLine running' table zones
      refine (congrArg (Releases s _) (List.flatMap_congr fun z _ => ?_)).mp released
      rw [State.haltEntries]
      cases s.zones[z].state <;> rfl

end Sys2Proof.Machine

/-! How a REPLY is judged (R133, R189), and the drive bus up to it (R122, R131, R132). -/

namespace Sys2Proof.Machine

variable {s t : State}

/-! ### The judgement of a frame (R133) -/

/-- R133, R189: what a frame has to be for its status to be taken. -/
structure Conforms (frame : List Byte) (parity : List Bool) (channel count : Byte) (st : ReplyStatus) (rest : List Byte) :
    Prop where
  even : parity = evenParity frame
  shape : ∃ status, frame = 0x5A :: 0x81 :: channel :: status :: count :: rest ∧ ReplyStatus.ofCode status = some st
  whole : wholeDriveReply frame = true
  check : crcGood frame.tail = true

theorem judgeReply_conforms {frame : List Byte} {parity : List Bool} {channel count : Byte} {st : ReplyStatus}
    {rest : List Byte} (h : Conforms frame parity channel count st rest) (c : Fin 32) : judgeReply frame parity c
      = if channel.toNat = c.val then .good st (parseReadbacks count.toNat rest) else .wrongChannel := by
  obtain ⟨even, ⟨status, rfl, carried⟩, whole, check⟩ := h
  have passes : (parity != evenParity (0x5A :: 0x81 :: channel :: status :: count :: rest) || (0x5A : Byte) != 0x5A
      || (0x81 : Byte) != 0x81 || !wholeDriveReply (0x5A :: 0x81 :: channel :: status :: count :: rest)
      || !crcGood (0x5A :: 0x81 :: channel :: status :: count :: rest : List Byte).tail) = false := by
    rw [whole, check, even]
    simp
  simp only [judgeReply, passes, carried, Bool.false_eq_true, if_false]

/-- R133: a frame that does not conform is GARBLED. -/
theorem garbled_or_conforms (frame : List Byte) (parity : List Bool) (c : Fin 32) : judgeReply frame parity c = .garbled
    ∨ ∃ channel count st rest, Conforms frame parity channel count st rest := by
  unfold judgeReply
  split
  case h_2 => exact .inl rfl
  case h_1 start kind channel status count rest =>
    split
    case isTrue => exact .inl rfl
    case isFalse passed =>
      simp only [Bool.or_eq_true, not_or, bne_iff_ne, ne_eq, not_not, Bool.not_eq_true', Bool.not_eq_false] at passed
      obtain ⟨⟨⟨⟨even, rfl⟩, rfl⟩, whole⟩, check⟩ := passed
      cases carried : ReplyStatus.ofCode status with
      | none => exact .inl rfl
      | some st => exact .inr ⟨channel, count, st, rest, even, ⟨status, rfl, carried⟩, whole, check⟩

theorem ofCode_some {status : Byte} {st : ReplyStatus} (h : ReplyStatus.ofCode status = some st) : status.toNat ≤ 2 := by
  unfold ReplyStatus.ofCode at h
  split at h
  case h_4 => cases h
  all_goals omega

/-- R133, R189: the ways a frame is GARBLED. -/
theorem judgeReply_garbled (frame : List Byte) (parity : List Bool) (c : Fin 32)
    (bad : parity ≠ evenParity frame ∨ crcGood frame.tail = false ∨ (∀ rest, frame ≠ 0x5A :: rest)
      ∨ frame.length < 7 ∨ ∃ start kind channel status count rest, frame = start :: kind :: channel :: status :: count :: rest
        ∧ (kind ≠ 0x81 ∨ 2 < status.toNat ∨ 2 < count.toNat ∨ rest.length ≠ 9 * count.toNat + 2)) :
    judgeReply frame parity c = .garbled := by
  refine (garbled_or_conforms frame parity c).resolve_right ?_
  rintro ⟨channel, count, st, rest, even, ⟨status, rfl, carried⟩, whole, check⟩
  have low := ofCode_some carried
  simp only [wholeDriveReply, Bool.and_eq_true, decide_eq_true_eq, beq_iff_eq] at whole
  rcases bad with odd | badCheck | start | short | ⟨_, _, _, _, _, _, is, bad⟩
  · exact odd even
  · rw [check] at badCheck; cases badCheck
  · exact start _ rfl
  · simp only [List.length_cons] at short
    omega
  · simp only [List.cons.injEq] at is
    obtain ⟨-, rfl, rfl, rfl, rfl, rfl⟩ := is
    rcases bad with kind | status | count | length
    · exact kind rfl
    · omega
    · omega
    · omega

/-- R189: the readback as its four bytes carry it. -/
def Readback.carried (b : Readback) : Readback :=
  { b with qf := (BitVec.ofNat 32 b.qf).toNat, qr := (BitVec.ofNat 32 b.qr).toNat }

theorem carried_of_small {b : Readback} (small : b.qf < 2 ^ 32 ∧ b.qr < 2 ^ 32) : b.carried = b := by
  rw [Readback.carried, BitVec.toNat_ofNat, BitVec.toNat_ofNat, Nat.mod_eq_of_lt small.1, Nat.mod_eq_of_lt small.2]

theorem parseReadbacks_bytes (rbs : List Readback) (rest : List Byte) :
    parseReadbacks rbs.length (rbs.flatMap Readback.bytes ++ rest) = rbs.map Readback.carried := by
  induction rbs with
  | nil => cases rest <;> rfl
  | cons b l ih =>
    rw [List.flatMap_cons, List.append_assoc, List.length_cons, List.map_cons, ← ih]
    simp only [Readback.bytes, nat4, longBytes, List.cons_append, List.nil_append, parseReadbacks, joinLong_split]
    rfl

theorem ofCode_code (st : ReplyStatus) : ReplyStatus.ofCode st.code = some st := by cases st <;> rfl

theorem conforms_replyFrame (d : Fin 32) (st : ReplyStatus) {rbs : List Readback} (few : rbs.length ≤ 2) :
    Conforms (replyFrame d st rbs) (evenParity (replyFrame d st rbs)) (BitVec.ofNat 8 d) (BitVec.ofNat 8 rbs.length) st
      (rbs.flatMap Readback.bytes
        ++ halfBytes (crc ([0x81] ++ nat1 d ++ [st.code] ++ nat1 rbs.length ++ rbs.flatMap Readback.bytes))) where
  even := rfl
  shape := ⟨st.code, by simp [replyFrame, driveFrame, nat1], ofCode_code st⟩
  whole := by
    have count : (BitVec.ofNat 8 rbs.length).toNat = rbs.length := by
      rw [BitVec.toNat_ofNat, Nat.mod_eq_of_lt (by omega)]
    have bytes : (rbs.flatMap Readback.bytes).length = 9 * rbs.length := by
      simp [List.length_flatMap, Readback.bytes, nat4, longBytes, Nat.mul_comm]
    simp only [replyFrame, driveFrame, nat1, List.cons_append, List.nil_append, wholeDriveReply,
      List.length_append, halfBytes_length, bytes, count, Bool.and_eq_true, decide_eq_true_eq, beq_iff_eq]
    omega
  check := crcGood_append _

/-- R133, R189: a conforming REPLY is judged by the channel it names. -/
theorem judgeReply_replyFrame (d : Fin 32) (st : ReplyStatus) {rbs : List Readback} (few : rbs.length ≤ 2) (c : Fin 32) :
    judgeReply (replyFrame d st rbs) (evenParity (replyFrame d st rbs)) c
      = if d = c then .good st (rbs.map Readback.carried) else .wrongChannel := by
  have count : (BitVec.ofNat 8 rbs.length).toNat = rbs.length := by
    rw [BitVec.toNat_ofNat, Nat.mod_eq_of_lt (by omega)]
  have channel : (BitVec.ofNat 8 d.val).toNat = d.val := by
    have := d.isLt
    rw [BitVec.toNat_ofNat, Nat.mod_eq_of_lt (by omega)]
  rw [judgeReply_conforms (conforms_replyFrame d st few), count, channel, parseReadbacks_bytes]
  simp only [Fin.ext_iff]

/-! ### The frames of the drive queue's items (R122, R189) -/

theorem halfBytes_eq (x : Half) : halfBytes x = [(x >>> 8).setWidth 8, x.setWidth 8] := by
  simp only [halfBytes, List.cons.injEq, and_true]
  constructor <;> (apply BitVec.eq_of_toNat_eq; simp [Nat.shiftRight_eq_div_pow])

/-- Sec. 13.1: a number in two bytes, most significant first. -/
theorem nat2_eq (n : Nat) : nat2 n = [BitVec.ofNat 8 (n / 256), BitVec.ofNat 8 n] := by
  rw [nat2, halfBytes_eq]
  simp only [List.cons.injEq, and_true]
  constructor
  · apply BitVec.eq_of_toNat_eq
    simp [Nat.shiftRight_eq_div_pow]
    omega
  · apply BitVec.eq_of_toNat_eq
    simp

theorem driveFrame_eq (body : List Byte) :
    driveFrame body = 0x5A :: body ++ [(crc body >>> 8).setWidth 8, (crc body).setWidth 8] := by
  rw [driveFrame, halfBytes_eq]

/-! ### The phases of a transaction (R131, R132) -/

theorem drvDe_iff (s : State) : s.drvDe = true ↔
    s.inReset = false ∧ ∃ b : Transaction, s.drive.bus = some b ∧ b.phase = .sending := by
  rw [State.drvDe]
  cases s.drive.bus with
  | none => simp
  | some b => simp [and_comm]

/-- R131: the arbiter's choice among what waits. -/
theorem chooseItem_cases {queue : List DriveItem} {x : DriveItem} (chosen : chooseItem queue = some x) :
    ∃ before after, queue = before ++ x :: after
      ∧ (x = .abort ∨ (.abort ∉ queue ∧ ((x.isMark = true ∧ ∀ y ∈ before, y.isMark = false)
        ∨ (before = [] ∧ ∀ y ∈ queue, y.isMark = false)))) := by
  unfold chooseItem at chosen
  cases abort : queue.find? fun i => i == .abort with
  | some i =>
    rw [abort] at chosen
    obtain ⟨is, before, after, split, -⟩ := List.find?_eq_some_iff_append.1 abort
    cases chosen
    exact ⟨before, after, split, .inl (by simpa using is)⟩
  | none =>
    have noAbort : DriveItem.abort ∉ queue := fun mem => by simpa using List.find?_eq_none.1 abort _ mem
    rw [abort] at chosen
    cases mark : queue.find? DriveItem.isMark with
    | some i =>
      rw [mark] at chosen
      obtain ⟨is, before, after, split, first⟩ := List.find?_eq_some_iff_append.1 mark
      cases chosen
      exact ⟨before, after, split, .inr ⟨noAbort, .inl ⟨is, fun y mem => by simpa using first y mem⟩⟩⟩
    | none =>
      rw [mark] at chosen
      obtain ⟨after, split⟩ := List.head?_eq_some_iff.1 chosen
      exact ⟨[], after, split, .inr ⟨noAbort, .inr ⟨rfl, fun y mem => by simpa using List.find?_eq_none.1 mark y mem⟩⟩⟩

theorem removeFirst_place {before after : List DriveItem} {x : DriveItem}
    (distinct : ((before ++ x :: after).map DriveItem.place).Nodup) :
    removeFirst (fun i => i.place = x.place) (before ++ x :: after) = before ++ after := by
  refine removeFirst_append (fun y mem => decide_eq_false fun same => ?_) (decide_eq_true rfl)
  rw [List.map_append, List.map_cons] at distinct
  exact (List.nodup_append.1 distinct).2.2 _ (List.mem_map_of_mem mem) _ List.mem_cons_self same

/-- R131: what the end of a transaction makes of the drive bus. -/
theorem endTransaction_eq (s : State) : endTransaction s = (match chooseItem s.drive.queue with
    | none => s.withDrive { s.drive with bus := none }
    | some x => s.withDrive { s.drive with
        queue := removeFirst (fun i => i.place = x.place) s.drive.queue
        bus := some { item := x, window := s.map.line.replyWindow, phase := .sending } }) := by
  have queue : (s.withDrive { s.drive with bus := none }).drive.queue = s.drive.queue := rfl
  rw [endTransaction, beginTransaction, queue]
  cases chooseItem s.drive.queue <;> rfl

/-- Settles O43: the frames, DRV_DE, and each phase by the transaction on the bus. -/
theorem busTransactionPhases : Obligations.BusTransactionPhases := by
  refine ⟨?_, drvDe_iff, fun item w p s awake bus => ?_⟩
  · intro framed one two channel
    have framed_eq (body : List Byte) : driveFrame body = framed body := driveFrame_eq body
    have two_eq (n : Nat) : nat2 n = two n := nat2_eq n
    have channel_eq (c : Option (Fin 32)) : optional1 (c.map Fin.val) = [channel c] := by cases c <;> rfl
    refine ⟨fun c seq v m flush z => ?_, fun z seq a b => ?_, fun c z => framed_eq _, framed_eq _, fun i => rfl⟩
    · have mode : nat1 m.code = [if m = .run then 0 else 1] := by cases m <;> rfl
      rw [DriveItem.frame, framed_eq, mode]
      simp only [two_eq]
      rfl
    · rw [DriveItem.frame, framed_eq, channel_eq, channel_eq]
      rfl
  · have quiet : exec .driveFrameSent s = .next (frameSent s) := next_awake awake _
    have begun : exec .replyBegins s = .next (replyBegun s) := next_awake awake _
    refine ⟨fun sending addressed => ?_, fun sending noOne => ?_, fun waiting => ?_, fun receiving => ?_, fun other => ?_,
      fun other => ?_⟩
    · obtain ⟨c, named⟩ := Option.ne_none_iff_exists'.1 addressed
      rw [quiet, frameSent, bus]
      simp only [sending, named, if_true]
      rfl
    · have ended : frameSent s = endTransaction s := by
        rw [frameSent, bus]
        simp only [sending, noOne, if_true]
      refine ⟨endTransaction s, by rw [quiet, ended], ?_, ?_⟩
      · rw [endTransaction_eq]
        split <;> rfl
      · rw [endTransaction_eq]
        cases queue : s.drive.queue with
        | nil => exact ⟨rfl, queue⟩
        | cons i rest =>
          cases chosen : chooseItem (i :: rest) with
          | none => cases chooseItem_eq_none chosen
          | some x =>
            obtain ⟨before, after, split, why⟩ := chooseItem_cases chosen
            refine ⟨x, before, after, split, rfl, fun law => ?_, why⟩
            have distinct := law.places
            rw [queue, split] at distinct
            exact (congrArg (removeFirst _) split).trans (removeFirst_place distinct)
    · rw [begun, replyBegun, bus]
      simp only [waiting, if_true]
      rfl
    · have still : exec .replyWindowEnd s = .next (windowEnds s) := next_awake awake _
      rw [still, windowEnds, bus]
      simp [receiving]
    · rw [quiet, frameSent, bus]
      simp [other]
    · rw [begun, replyBegun, bus]
      simp [other]

end Sys2Proof.Machine

/-! What raising a class does (R145 to R147, R92), and the classes that a transaction's end raises (R143, R144). -/

namespace Sys2Proof.Machine

variable {s t : State} {z : Fin 16}

/-! ### Raising a class -/

/-- R145: the latch and the latest record that raising MAJOR writes. -/
def State.majorRecorded (s : State) (c : Case) : Monitor := { s.monitor with
  firstMajor := if s.attn.isSet .major then s.monitor.firstMajor else some (c.zone, c.channel)
  latestMajor := some c }

/-- R145: MAJOR recorded and raised, before the fault call. -/
def State.majorNoted (s : State) (c : Case) : State := raise .major (s.withMonitor (s.majorRecorded c))

theorem raiseMajor_zone {c : Case} (zone : c.zone = some z) (s : State) : raiseMajor c s = faultZone z (s.majorNoted c) := by
  unfold raiseMajor
  dsimp only
  split
  case h_1 y named => cases zone.symm.trans named; rfl
  case h_2 named => cases zone.symm.trans named

theorem raiseMajor_none {c : Case} (zone : c.zone = none) (s : State) : raiseMajor c s = s.majorNoted c := by
  unfold raiseMajor
  dsimp only
  split
  case h_1 y named => cases zone.symm.trans named
  case h_2 => rfl

theorem faultZone_out (out : s.zones[z].state = .disabled ∨ s.zones[z].state = .faulted) : faultZone z s = s := by
  rcases out with st | st <;> rw [faultZone, st]

theorem faultZone_leaves (enabled : s.zones[z].state ≠ .disabled) (well : s.zones[z].state ≠ .faulted) :
    faultZone z s = leaveService z .faulted s := by
  unfold faultZone
  split
  case h_1 st => exact absurd st enabled
  case h_2 st => exact absurd st well
  case h_3 => rfl

theorem raiseMajor_monitor (c : Case) (s : State) : (raiseMajor c s).monitor = s.majorRecorded c := by
  cases zone : c.zone with
  | none => rw [raiseMajor_none zone]; rfl
  | some z => rw [raiseMajor_zone zone, (faultZone_keeps ..).2.2.2.1]; rfl

theorem raiseMajor_isSet (c : Case) (s : State) : (raiseMajor c s).attn.isSet .major = true := by
  cases zone : c.zone with
  | none => rw [raiseMajor_none zone]; exact raiseFlag_isSet ..
  | some z => rw [raiseMajor_zone zone, (works_faultZone z _).attn.isSet_other (by decide)]; exact raiseFlag_isSet ..

theorem raiseMajor_idle {c : Case}
    (idle : c.zone = none ∨ ∃ z, c.zone = some z ∧ (s.zones[z].state = .disabled ∨ s.zones[z].state = .faulted)) :
    raiseMajor c s = s.majorNoted c := by
  rcases idle with none | ⟨z, zone, out⟩
  · exact raiseMajor_none none s
  · rw [raiseMajor_zone zone]
    exact faultZone_out out

theorem raiseMajor_leaves {c : Case} (zone : c.zone = some z) (enabled : s.zones[z].state ≠ .disabled)
    (well : s.zones[z].state ≠ .faulted) : raiseMajor c s = leaveService z .faulted (s.majorNoted c) := by
  rw [raiseMajor_zone zone]
  exact faultZone_leaves enabled well

/-- R92: the states of the zones after MAJOR is raised. -/
theorem raiseMajor_state (c : Case) (s : State) (z : Fin 16) : (raiseMajor c s).zones[z].state
    = if c.zone = some z ∧ s.zones[z].state ≠ .disabled then .faulted else s.zones[z].state := by
  by_cases idle : c.zone = none ∨ ∃ y, c.zone = some y ∧ (s.zones[y].state = .disabled ∨ s.zones[y].state = .faulted)
  · have same : (raiseMajor c s).zones[z] = s.zones[z] := by rw [raiseMajor_idle idle]; rfl
    rw [same]
    split
    case isFalse => rfl
    case isTrue here =>
      rcases idle with none | ⟨y, zone, out⟩
      · rw [none] at here; cases here.1
      · cases zone.symm.trans here.1
        exact out.resolve_left here.2
  · rw [not_or, not_exists] at idle
    obtain ⟨y, zone⟩ := Option.ne_none_iff_exists'.1 idle.1
    have inService := not_or.1 fun out => idle.2 y ⟨zone, out⟩
    rw [raiseMajor_leaves zone inService.1 inService.2]
    by_cases here : y = z
    · subst here
      rw [if_pos ⟨zone, inService.1⟩, leaveService_zone]
    · rw [if_neg fun is => here (Option.some.inj (zone.symm.trans is.1)),
        (othersKept_leaveService y (s.majorNoted c) .faulted).kept z (Ne.symm here)]
      rfl

theorem majorNoted_keeps (c : Case) (s : State) : (s.majorNoted c).zones = s.zones ∧ (s.majorNoted c).drive = s.drive
    ∧ (s.majorNoted c).table = s.table ∧ (s.majorNoted c).map = s.map
    ∧ (s.majorNoted c).attn.isSet .shortfall = s.attn.isSet .shortfall :=
  ⟨rfl, rfl, rfl, rfl, isSet_raiseFlag_other (by decide)⟩

/-- R92, R83: the case's zone leaves service, in the words of R83. -/
theorem raiseMajor_service {c : Case} (zone : c.zone = some z) (enabled : s.zones[z].state ≠ .disabled)
    (well : s.zones[z].state ≠ .faulted) (law : ServiceLaw s.zones[z]) : LeavesService s (raiseMajor c s) z .faulted
      ∧ (TableLaw s → Releases s (raiseMajor c s) (s.discardedEntries z)) := by
  obtain ⟨zones, drive, table, -, shortfall⟩ := majorNoted_keeps c s
  have aside : Aside z s (s.majorNoted c) := .of_same zones drive
  have pends : Pends (s.majorNoted c).zones[z].pending := by rw [zones]; exact law.pends
  rw [raiseMajor_leaves zone enabled well]
  refine ⟨(leavesService_leaveService .faulted pends).within aside
    (fun lawful => ⟨lawful.places, lawful.busy⟩) (.of_same rfl rfl), fun lawful => ?_⟩
  have released := releases_leaveService .faulted (table ▸ lawful.indexes) pends
  rw [aside.discardedEntries] at released
  exact ⟨by rw [released.table, table], by rw [released.shortfall, shortfall, table]⟩

/-! ### The commands that end a transaction (R132, R133) -/

/-- R132: an ORDER or STOP transaction that has been sent awaits its reply. -/
structure Awaits (s : State) (item : DriveItem) (c : Fin 32) (p : BusPhase) : Prop where
  awake : s.inReset = false
  bus : ∃ w, s.drive.bus = some { item := item, window := w, phase := p }
  addressee : item.addressee = some c
  sent : p ≠ .sending

section
variable {item : DriveItem} {c : Fin 32} {p : BusPhase}

theorem Awaits.awaiting (h : Awaits s item c p) : s.awaiting = some (item, c) := by
  obtain ⟨w, bus⟩ := h.bus
  rw [State.awaiting, bus]
  simp [h.sent, h.addressee]

theorem Awaits.frameEnd (h : Awaits s item c p) (data : List Byte) (parity : List Bool) :
    exec (.replyFrameEnd data parity) s = .next (endByJudgement item c (judgeReply data parity c) s) := by
  have ended : exec (.replyFrameEnd data parity) s = .next (replyEnds data parity s) := next_awake h.awake _
  rw [ended, replyEnds, h.awaiting]

theorem Awaits.garbles (h : Awaits s item c p) {data : List Byte} {parity : List Bool}
    (bad : judgeReply data parity c = .garbled) :
    exec (.replyFrameEnd data parity) s = .next (badEnd item c .garbled s) := by
  rw [h.frameEnd, bad]
  rfl

theorem Awaits.reply (h : Awaits s item c p) (st : ReplyStatus) {rbs : List Readback} (few : rbs.length ≤ 2) :
    exec (.replyFrameEnd (replyFrame c st rbs) (evenParity (replyFrame c st rbs))) s
      = .next (goodEnd item c st (rbs.map Readback.carried) s) := by
  rw [h.frameEnd, judgeReply_replyFrame c st few, if_pos rfl]
  rfl

theorem Awaits.wrongChannel (h : Awaits s item c p) {d : Fin 32} (other : d ≠ c) (st : ReplyStatus) {rbs : List Readback}
    (few : rbs.length ≤ 2) : exec (.replyFrameEnd (replyFrame d st rbs) (evenParity (replyFrame d st rbs))) s
      = .next (badEnd item c .wrongChannel s) := by
  rw [h.frameEnd, judgeReply_replyFrame d st few, if_neg other]
  rfl

theorem Awaits.brokenOff (h : Awaits s item c p) : exec .replyBrokenOff s = .next (badEnd item c .garbled s) := by
  have ended : exec .replyBrokenOff s = .next (replyBreaksOff s) := next_awake h.awake _
  rw [ended, replyBreaksOff, h.awaiting]

theorem Awaits.windowEnd (h : Awaits s item c .waiting) : exec .replyWindowEnd s = .next (badEnd item c .missing s) := by
  have ended : exec .replyWindowEnd s = .next (windowEnds s) := next_awake h.awake _
  obtain ⟨w, bus⟩ := h.bus
  rw [ended, windowEnds, bus]
  simp only [h.addressee, if_true]

end

/-! ### What the ends raise (R143, R144) -/

/-- R143, R144: the case of a transaction's end. -/
def endCase (cause : Cause) (poster : Option (Fin 16)) (c : Fin 32) : Case :=
  { cause := cause, zone := poster, channel := c, mode := none, deviation := none, phase := none }

/-- What the Monitor and a fault call look at is as it was: its latches and records, its two flags, and the states of the
zones. -/
structure Unfaulted (s t : State) : Prop where
  monitor : t.monitor = s.monitor
  major : t.attn.isSet .major = s.attn.isSet .major
  minor : t.attn.isSet .minor = s.attn.isSet .minor
  states : ∀ z : Fin 16, t.zones[z].state = s.zones[z].state

theorem Unfaulted.trans {u : State} (h : Unfaulted s t) (k : Unfaulted t u) : Unfaulted s u :=
  ⟨k.monitor.trans h.monitor, k.major.trans h.major, k.minor.trans h.minor, fun z => (k.states z).trans (h.states z)⟩

theorem unfaulted_modifyChannel (c : Fin 32) (f : ChannelState → ChannelState) (s : State) :
    Unfaulted s (s.modifyChannel c f) := ⟨rfl, rfl, rfl, fun _ => rfl⟩

theorem unfaulted_closing (closes : Bool) (c : Fin 32) (s : State) : Unfaulted s (if closes then loseSides c s else s) := by
  cases closes with
  | false => exact ⟨rfl, rfl, rfl, fun _ => rfl⟩
  | true =>
    exact ⟨(loseSides_keeps c s).2.2.2.2.1, (works_loseSides s c).attn.isSet_other (by decide),
      (works_loseSides s c).attn.isSet_other (by decide), fun z => stand_state ((standsKept_loseSides s c).kept z)⟩

theorem unfaulted_endTransaction (s : State) : Unfaulted s (endTransaction s) := by
  obtain ⟨-, -, -, -, zones, monitor, -, -, attn, -, -⟩ := endTransaction_keeps s
  exact ⟨monitor, by rw [attn], by rw [attn], fun z => by rw [zones]⟩

theorem Unfaulted.majorRecorded (h : Unfaulted s t) (x : Case) : t.majorRecorded x = s.majorRecorded x := by
  rw [State.majorRecorded, State.majorRecorded, h.monitor, h.major]

/-- R145: MAJOR raised for a case, between steps that touch neither the Monitor nor the zones' states. -/
theorem major_between {u v : State} {x : Case} (before : Unfaulted s t) (raised : u = raiseMajor x t) (after : Unfaulted u v) :
    v.attn.isSet .major = true ∧ v.monitor = s.majorRecorded x ∧ ∀ z : Fin 16, v.zones[z].state
      = if x.zone = some z ∧ s.zones[z].state ≠ .disabled then .faulted else s.zones[z].state := by
  refine ⟨?_, ?_, fun z => ?_⟩
  · rw [after.major, raised]; exact raiseMajor_isSet x t
  · rw [after.monitor, raised, raiseMajor_monitor, before.majorRecorded]
  · rw [after.states, raised, raiseMajor_state, before.states]

/-- R144: the third failed end in a row. -/
theorem badEnd_third (item : DriveItem) {c : Fin 32} (how : TransactionEnd) (third : s.drive.channels[c].misses = 2) :
    (badEnd item c how s).attn.isSet .major = true
      ∧ (badEnd item c how s).monitor = s.majorRecorded (endCase .noReply item.poster c)
      ∧ ∀ z : Fin 16, (badEnd item c how s).zones[z].state
        = if item.poster = some z ∧ s.zones[z].state ≠ .disabled then .faulted else s.zones[z].state := by
  have counted := unfaulted_modifyChannel c (fun k => { k with misses := min 3 (k.misses + 1), lastEnd := some how }) s
  have before := counted.trans (unfaulted_closing item.closes c _)
  have eq : badEnd item c how s = endTransaction (raiseMajor (endCase .noReply item.poster c)
      (if item.closes then loseSides c (s.modifyChannel c fun k => { k with
        misses := min 3 (k.misses + 1), lastEnd := some how })
        else s.modifyChannel c fun k => { k with misses := min 3 (k.misses + 1), lastEnd := some how })) := by
    simp only [badEnd, third, if_true]
    rfl
  rw [eq]
  exact major_between before rfl (unfaulted_endTransaction _)

/-- R134: what stands when a GOOD end's readbacks and lost closures have been taken. -/
def State.readBack (s : State) (item : DriveItem) (c : Fin 32) (st : ReplyStatus) (rbs : List Readback) : State :=
  let u := rbs.foldl (takeReadback c)
    (s.modifyChannel c fun k => { k with misses := 0, lastStatus := some st, lastEnd := some .good })
  if item.closes then loseSides c u else u

theorem goodEnd_eq (item : DriveItem) (c : Fin 32) (st : ReplyStatus) (rbs : List Readback) (s : State) :
    goodEnd item c st rbs s = endTransaction (judgeStatus st c item.poster (s.readBack item c st rbs)) := rfl

theorem unfaulted_readBack (item : DriveItem) (c : Fin 32) (st : ReplyStatus) (s : State) :
    Unfaulted s (s.readBack item c st []) :=
  (unfaulted_modifyChannel c _ s).trans (unfaulted_closing item.closes c _)

/-- R105, R92: a readback's class may fault a zone, and no other state moves. -/
theorem zonesFault_readBack (item : DriveItem) (c : Fin 32) (st : ReplyStatus) (rbs : List Readback) (s : State) :
    ZonesFault s (s.readBack item c st rbs) := by
  have start : ZonesFault s
      (s.modifyChannel c fun k => { k with misses := 0, lastStatus := some st, lastEnd := some .good }) :=
    .of_kept (.of_zones rfl)
  have read := start.trans (zonesFault_foldl (f := takeReadback c) (fun u b => zonesFault_takeReadback u c b) rbs _)
  exact read.trans (.of_kept (standsKept_closing _ item.closes c))

/-- R143: a GOOD reply of status FAULT. -/
theorem goodEnd_fault (item : DriveItem) (c : Fin 32) (rbs : List Readback) (s : State) :
    let t := goodEnd item c .fault rbs s
    t.attn.isSet .major = true
      ∧ t.monitor = (s.readBack item c .fault rbs).majorRecorded (endCase .statusFault item.poster c)
      ∧ ∀ z : Fin 16, t.zones[z].state = if item.poster = some z ∧ (s.readBack item c .fault rbs).zones[z].state ≠ .disabled
        then .faulted else (s.readBack item c .fault rbs).zones[z].state := by
  rw [goodEnd_eq]
  exact major_between (s := s.readBack item c .fault rbs) ⟨rfl, rfl, rfl, fun _ => rfl⟩ rfl (unfaulted_endTransaction _)

/-- R146: MINOR raised for a case. -/
theorem raiseMinor_eq (x : Case) (s : State) : raiseMinor x s = { s with
    attn := s.attn.raiseFlag .minor
    monitor := { s.monitor with
      firstMinor := if s.attn.isSet .minor then s.monitor.firstMinor else some (x.zone, x.channel)
      latestMinor := some x } } := rfl

/-- R143: a GOOD reply of status LIMIT. -/
theorem goodEnd_limit (item : DriveItem) (c : Fin 32) (rbs : List Readback) (s : State) :
    let t := goodEnd item c .limit rbs s
    let u := s.readBack item c .limit rbs
    t.attn.isSet .minor = true
      ∧ t.monitor = { u.monitor with
        firstMinor := if u.attn.isSet .minor then u.monitor.firstMinor else some (item.poster, c)
        latestMinor := some (endCase .statusLimit item.poster c) }
      ∧ ∀ z : Fin 16, t.zones[z].state = u.zones[z].state := by
  intro t u
  have after := unfaulted_endTransaction (raiseMinor (endCase .statusLimit item.poster c) u)
  have eq : t = endTransaction (raiseMinor (endCase .statusLimit item.poster c) u) := rfl
  rw [eq]
  exact ⟨after.minor.trans (raiseFlag_isSet ..), after.monitor, after.states⟩

/-- Settles O47: raising a class, and the ends of a transaction that raise one. -/
theorem raisedClassIsLatched : Obligations.RaisedClassIsLatched := by
  refine ⟨fun s t stepped => latches_hold stepped, raiseMinor_eq, fun x s => ?_, fun item c w p s awake bus addressee sent => ?_⟩
  · obtain ⟨zones, drive, table, -, -⟩ := majorNoted_keeps x s
    refine ⟨raiseMajor_isSet x s, raiseMajor_monitor x s, by simp, by simp, by simp, by simp, by simp, fun idle => ?_,
      fun z zone => ⟨?_, fun enabled well => ?_⟩⟩
    · rw [raiseMajor_idle idle]
      exact ⟨zones, drive, table⟩
    · rw [raiseMajor_zone zone]
      exact fun y other => ((othersKept_faultZone z (s.majorNoted x)).kept y other).trans (by rw [zones])
    · have left := raiseMajor_leaves zone enabled well
      have zoneNow := leaveService_zone z (s.majorNoted x) .faulted
      refine ⟨by rw [left, zoneNow], by rw [left, zoneNow], by rw [left, zoneNow], fun n mem => ?_,
        raiseMajor_service zone enabled well, fun ch mem => ?_⟩
      · rw [left, zoneNow] at mem
        exact (leftPending_sublist z (s.majorNoted x)).subset mem
      · rw [left]
        exact sends_leaveService (s := s.majorNoted x) (x := .faulted) (by decide) mem
  · have h : Awaits s item c p := ⟨awake, ⟨w, bus⟩, addressee, sent⟩
    refine ⟨fun third => ?_, ?_, fun rbs few => ⟨?_, ?_⟩⟩
    · intro raises
      have bad {i : Instr} {how : TransactionEnd} (ended : exec i s = .next (badEnd item c how s)) : raises i := by
        obtain ⟨major, monitor, states⟩ := badEnd_third item how third
        exact ⟨_, ended, major, by rw [monitor]; rfl, by rw [monitor]; rfl, states⟩
      refine ⟨bad h.brokenOff, fun waiting => bad (by subst waiting; exact h.windowEnd), fun data parity wrong => bad (h.garbles ?_),
        fun d st rbs other few => bad (h.wrongChannel other st few)⟩
      exact judgeReply_garbled data parity c (wrong.imp_right .inl)
    · refine ⟨_, h.reply .ok (rbs := []) (by decide), ?_⟩
      exact (unfaulted_endTransaction _).monitor.trans (unfaulted_readBack item c .ok s).monitor
    · obtain ⟨minor, monitor, states⟩ := goodEnd_limit item c (rbs.map Readback.carried) s
      refine ⟨_, h.reply .limit few, minor, by rw [monitor]; rfl, ?_⟩
      rintro rfl
      have same := unfaulted_readBack item c .limit s
      refine ⟨?_, ?_, ?_, fun z => (states z).trans (same.states z)⟩
      · have old := congrArg Monitor.latestMajor same.monitor
        exact (congrArg Monitor.latestMajor monitor).trans old
      · have old := congrArg Monitor.firstMajor same.monitor
        exact (congrArg Monitor.firstMajor monitor).trans old
      · refine (congrArg Monitor.firstMinor monitor).trans ?_
        simp only [List.map_nil, same.monitor, same.minor]
    · obtain ⟨major, monitor, states⟩ := goodEnd_fault item c (rbs.map Readback.carried) s
      refine ⟨_, h.reply .fault few, major, by rw [monitor]; rfl, fun z poster enabled => ?_, ?_⟩
      · have enabled : (s.readBack item c .fault (rbs.map Readback.carried)).zones[z].state ≠ .disabled := by
          rcases (zonesFault_readBack item c .fault (rbs.map Readback.carried) s).each z with same | ⟨-, faulted⟩
          · rw [stand_state same]; exact enabled
          · have st : (s.readBack item c .fault (rbs.map Readback.carried)).zones[z].state = .faulted :=
              congrArg Prod.fst faulted
            rw [st]
            decide
        rw [states, if_pos ⟨poster, enabled⟩]
      · rintro rfl
        have same := unfaulted_readBack item c .fault s
        refine ⟨?_, ?_, ?_, fun z => ?_⟩
        · have old := congrArg Monitor.latestMinor same.monitor
          exact (congrArg Monitor.latestMinor monitor).trans old
        · have old := congrArg Monitor.firstMinor same.monitor
          exact (congrArg Monitor.firstMinor monitor).trans old
        · refine (congrArg Monitor.firstMajor monitor).trans ?_
          simp only [List.map_nil, same.majorRecorded]
          rfl
        · refine (states z).trans ?_
          simp only [List.map_nil, same.states]

end Sys2Proof.Machine

/-! Credit calls and the charge that a closure gives (R67, R108 to R111). -/

namespace Sys2Proof.Machine

variable {s t : State}

/-! ### A credit call (R67) -/

/-- R67: a record that a credit call is made of. -/
def Record.credited (r : Record) (f : Face) (fwd rev : Nat) (kind : ClosureKind) : Record :=
  (r.addCharge f fwd rev).markClosure kind

theorem FirstNamed.testTarget {ahead behind : List Record} {r : Record} (h : FirstNamed s ahead r behind) (f : Face) :
    testTarget r.index r.generation f s = if s.meetsTarget r f
      then raise .target (s.withLive (ahead ++ r.markReached f (s.lead r) :: behind)) else s := by
  rw [Machine.testTarget, h.find]
  simp only [h.modify]

theorem credited_fields (r : Record) (f : Face) (fwd rev : Nat) (kind : ClosureKind) :
    (r.credited f fwd rev kind).index = r.index ∧ (r.credited f fwd rev kind).generation = r.generation
      ∧ (r.credited f fwd rev kind).entryMark = r.entryMark := by
  cases f <;> cases kind <;> exact ⟨rfl, rfl, rfl⟩

/-- R67: the credit call of a live record. -/
theorem FirstNamed.credit {ahead behind : List Record} {r : Record} (h : FirstNamed s ahead r behind) (f : Face)
    (fwd rev : Nat) (kind : ClosureKind) : creditRecord r.index r.generation f fwd rev kind s
      = if s.meetsTarget (r.credited f fwd rev kind) f
        then raise .target (s.withLive (ahead ++ (r.credited f fwd rev kind).markReached f (s.lead r) :: behind))
        else s.withLive (ahead ++ r.credited f fwd rev kind :: behind) := by
  obtain ⟨index, generation, mark⟩ := credited_fields r f fwd rev kind
  have tested := (h.withLive index generation).testTarget f
  rw [index, generation] at tested
  have lead : (s.withLive (ahead ++ r.credited f fwd rev kind :: behind)).lead (r.credited f fwd rev kind) = s.lead r := by
    rw [State.lead, State.lead, mark]
    rfl
  rw [creditRecord, h.modify]
  refine tested.trans ?_
  rw [lead]
  rfl

theorem testTarget_absent {index : Fin 64} {generation : BitVec 8}
    (absent : ∀ r ∈ s.table.live, r.named index generation = false) (f : Face) : testTarget index generation f s = s := by
  rw [testTarget, findRecord_absent absent]

/-- R67: a credit call that names no live record changes nothing. -/
theorem creditRecord_absent {index : Fin 64} {generation : BitVec 8}
    (absent : ∀ r ∈ s.table.live, r.named index generation = false) (f : Face) (fwd rev : Nat) (kind : ClosureKind) :
    creditRecord index generation f fwd rev kind s = s := by
  rw [creditRecord, modifyRecord_absent absent, testTarget_absent absent]

theorem absent_of_find {index : Fin 64} {generation : BitVec 8} (none : findRecord s.table.live index generation = none) :
    ∀ r ∈ s.table.live, r.named index generation = false := fun r live => by
  simpa using List.find?_eq_none.1 none r live

/-- R54: an index and a generation name no live record, or the first one of the line. -/
theorem absent_or_firstNamed (s : State) (index : Fin 64) (generation : BitVec 8) :
    (findRecord s.table.live index generation = none ∧ ∀ r ∈ s.table.live, r.named index generation = false) ∨
    ∃ ahead r behind, FirstNamed s ahead r behind ∧ r.index = index ∧ r.generation = generation := by
  cases found : findRecord s.table.live index generation with
  | none => exact .inl ⟨rfl, absent_of_find found⟩
  | some r =>
    obtain ⟨named, ahead, behind, line, others⟩ := List.find?_eq_some_iff_append.1 found
    simp only [Record.named, Bool.and_eq_true, beq_iff_eq] at named
    obtain ⟨rfl, rfl⟩ := named
    exact .inr ⟨ahead, r, behind, ⟨line, fun q mem => by simpa using others q mem⟩, rfl, rfl⟩

/-! ### What the accounts hold (R111) -/

/-- The four accounts of a record. -/
def Record.accounts (r : Record) : Nat × Nat × Nat × Nat := (r.fwdA, r.revA, r.fwdB, r.revB)

theorem accounts_settled (r : Record) : r.settled.accounts = r.accounts := by
  unfold Record.settled
  split <;> rfl

theorem accounts_markReached (r : Record) (f : Face) (lead : Int) : (r.markReached f lead).accounts = r.accounts := by
  cases f <;> rfl

/-- From s to t no account of a live record has changed. -/
def AccountsSame (s t : State) : Prop := t.table.live.map Record.accounts = s.table.live.map Record.accounts

theorem accountsSame_releaseEntry (index : Fin 64) (generation : BitVec 8) (s : State) :
    AccountsSame s (releaseEntry index generation s) := by
  rcases absent_or_firstNamed s index generation with ⟨-, absent⟩ | ⟨ahead, r, behind, place, rfl, rfl⟩
  · rw [releaseEntry_absent absent]
    exact rfl
  · rw [place.release, AccountsSame, (raiseIf_keeps ..).2.2.2.1, place.line]
    simp only [State.withLive, State.withTable, List.map_append, List.map_cons, accounts_settled]
    rfl

/-! ### The shares of a closure (R108) -/

theorem length_shares (q aZ : Nat) (entries : List Entry) : (shares q aZ entries).length = entries.length := by
  simp [shares]

/-- R108: the truncated shares give no more than the amount. -/
theorem sum_shareOf_le (q : Nat) (entries : List Entry) :
    (entries.map fun e => shareOf q (totalArea entries) e.area).sum ≤ q := by
  rcases Nat.eq_zero_or_pos (totalArea entries) with zero | pos
  · simp [shareOf, zero]
  · have each (l : List Entry) : (l.map fun e => shareOf q (totalArea entries) e.area).sum * totalArea entries
        ≤ q * (l.map Entry.area).sum := by
      induction l with
      | nil => simp
      | cons e l ih =>
        have share : shareOf q (totalArea entries) e.area * totalArea entries ≤ q * e.area := Nat.div_mul_le_self ..
        rw [List.map_cons, List.sum_cons, List.map_cons, List.sum_cons, Nat.add_mul, Nat.mul_add]
        exact Nat.add_le_add share ih
    exact Nat.le_of_mul_le_mul_right (each entries) pos

/-- R108: some entry has the largest area. -/
theorem remainderPosition_lt {entries : List Entry} (some : entries ≠ []) :
    remainderPosition entries < entries.length := by
  have attained (l : List Nat) (start : Nat) : l.foldl max start = start ∨ l.foldl max start ∈ l := by
    induction l generalizing start with
    | nil => exact .inl rfl
    | cons x l ih =>
      rcases ih (max start x) with same | mem
      · rw [List.foldl_cons, same]
        rcases Nat.le_total x start with le | le
        · exact .inl (Nat.max_eq_left le)
        · rw [Nat.max_eq_right le]
          exact .inr List.mem_cons_self
      · exact .inr (List.mem_cons_of_mem _ mem)
  have above (l : List Nat) (start : Nat) : start ≤ l.foldl max start ∧ ∀ x ∈ l, x ≤ l.foldl max start := by
    induction l generalizing start with
    | nil => exact ⟨le_rfl, nofun⟩
    | cons y l ih =>
      obtain ⟨low, all⟩ := ih (max start y)
      refine ⟨(Nat.le_max_left ..).trans low, fun x mem => ?_⟩
      rcases List.mem_cons.1 mem with rfl | mem
      · exact (Nat.le_max_right ..).trans low
      · exact all x mem
  rw [remainderPosition, List.findIdx_lt_length]
  rcases attained (entries.map Entry.area) 0 with zero | mem
  · obtain ⟨e, l, rfl⟩ := List.exists_cons_of_ne_nil some
    have least := (above ((e :: l).map Entry.area) 0).2 e.area (List.mem_map_of_mem List.mem_cons_self)
    exact ⟨e, List.mem_cons_self, beq_iff_eq.2 ((Nat.le_zero.1 (zero ▸ least)).trans zero.symm)⟩
  · obtain ⟨e, inList, area⟩ := List.mem_map.1 mem
    exact ⟨e, inList, by simpa using area⟩

/-- R108: the shares give the whole amount. -/
theorem sum_shares (q : Nat) {entries : List Entry} (some : entries ≠ []) :
    (shares q (totalArea entries) entries).sum = q := by
  have upTo (r p : Nat) (f : Entry → Nat) (l : List Entry) (n : Nat) :
      ((l.zipIdx n).map fun ei => if ei.2 = p then f ei.1 + r else f ei.1).sum
        = (l.map f).sum + if n ≤ p ∧ p < n + l.length then r else 0 := by
    induction l generalizing n with
    | nil =>
      have never : ¬ (n ≤ p ∧ p < n + 0) := by omega
      rw [List.length_nil, if_neg never]
      rfl
    | cons e l ih =>
      rw [List.zipIdx_cons, List.map_cons, List.sum_cons, ih, List.map_cons, List.sum_cons, List.length_cons]
      by_cases here : n = p
      · have past : ¬ (n + 1 ≤ p ∧ p < n + 1 + l.length) := by omega
        have within : n ≤ p ∧ p < n + (l.length + 1) := by omega
        rw [if_pos here, if_neg past, if_pos within]
        dsimp only
        omega
      · have same : (n + 1 ≤ p ∧ p < n + 1 + l.length) ↔ (n ≤ p ∧ p < n + (l.length + 1)) := by omega
        simp only [same, if_neg here]
        omega
  have there := remainderPosition_lt some
  have le := sum_shareOf_le q entries
  refine (upTo (remainderOf q (totalArea entries) entries) (remainderPosition entries)
    (fun e => shareOf q (totalArea entries) e.area) entries 0).trans ?_
  rw [if_pos ⟨Nat.zero_le _, by omega⟩, remainderOf]
  omega

/-! ### The charge of a closure (R111) -/

/-- The two directions of a charge. -/
inductive Flow where
  | forward
  | reverse

/-- R67: the account of a direction and a face. -/
def Flow.of : Flow → Face → Nat × Nat × Nat × Nat → Nat
  | .forward, .A, a => a.1
  | .reverse, .A, a => a.2.1
  | .forward, .B, a => a.2.2.1
  | .reverse, .B, a => a.2.2.2

/-- The charge of a direction in both accounts of a record. -/
def Flow.both (d : Flow) (a : Nat × Nat × Nat × Nat) : Nat := d.of .A a + d.of .B a

/-- The amount of a direction, of two. -/
def Flow.pick : Flow → Nat → Nat → Nat
  | .forward, fwd, _ => fwd
  | .reverse, _, rev => rev

/-- R117: the orphan account of a direction. -/
def Flow.orphan : Flow → Sequencer → Nat
  | .forward, q => q.orphanFwd
  | .reverse, q => q.orphanRev

/-- The charge of a direction in every account that a closure of the zone's sides can add to. -/
def Flow.held (d : Flow) (z : Fin 16) (s : State) : Nat :=
  d.orphan s.zones[z] + ((s.table.live.map Record.accounts).map d.both).sum

/-- Each of these accounts has room for this amount. -/
structure Flow.Room (d : Flow) (z : Fin 16) (q : Nat) (s : State) : Prop where
  orphan : d.orphan s.zones[z] + q ≤ Config.accountTop
  records : ∀ a ∈ s.table.live.map Record.accounts, ∀ f, d.of f a + q ≤ Config.accountTop

theorem forwardHeld_eq (s : State) (z : Fin 16) : s.forwardHeld z = Flow.forward.held z s := by
  rw [Flow.held, List.map_map]
  rfl

theorem reverseHeld_eq (s : State) (z : Fin 16) : s.reverseHeld z = Flow.reverse.held z s := by
  rw [Flow.held, List.map_map]
  rfl

theorem held_of_same {d : Flow} {z : Fin 16} (zone : d.orphan t.zones[z] = d.orphan s.zones[z])
    (accounts : AccountsSame s t) : d.held z t = d.held z s := by
  rw [Flow.held, Flow.held, zone, accounts]

theorem Flow.Room.of_same {d : Flow} {z : Fin 16} {q : Nat} (h : d.Room z q s)
    (zone : d.orphan t.zones[z] = d.orphan s.zones[z]) (accounts : AccountsSame s t) : d.Room z q t :=
  ⟨zone ▸ h.orphan, accounts ▸ h.records⟩

theorem Flow.Room.mono {d : Flow} {z : Fin 16} {q x : Nat} (h : d.Room z q s) (le : x ≤ q) : d.Room z x s :=
  ⟨(Nat.add_le_add_left le _).trans h.orphan, fun a mem f => (Nat.add_le_add_left le _).trans (h.records a mem f)⟩

/-- R67: what a credit adds to an account of the record. -/
theorem of_credited (d : Flow) (g f : Face) (r : Record) (fwd rev : Nat) (kind : ClosureKind) :
    d.of g (r.credited f fwd rev kind).accounts
      = if g = f then satAdd Config.accountTop (d.of g r.accounts) (d.pick fwd rev) else d.of g r.accounts := by
  cases kind <;> cases d <;> cases g <;> cases f <;> rfl

theorem satAdd_eq {top a b : Nat} (room : a + b ≤ top) : satAdd top a b = a + b := Nat.min_eq_right room

/-- R109: with room for it, a credit or an orphaned share gives its amount and takes no more room. -/
structure Gives (d : Flow) (z : Fin 16) (q : Nat) (s t : State) : Prop where
  held : d.held z t = d.held z s + q
  room : ∀ x, d.Room z (q + x) s → d.Room z x t

theorem Gives.after {d : Flow} {z : Fin 16} {q : Nat} {u : State} (h : Gives d z q s t) (zones : u.zones = t.zones)
    (accounts : AccountsSame t u) : Gives d z q s u :=
  ⟨(held_of_same (by rw [zones]) accounts).trans h.held, fun x room => (h.room x room).of_same (by rw [zones]) accounts⟩

theorem gives_addOrphan {d : Flow} {z : Fin 16} {fwd rev : Nat} (room : d.Room z (d.pick fwd rev) s) :
    Gives d z (d.pick fwd rev) s (addOrphan z fwd rev s) := by
  have zone : d.orphan (addOrphan z fwd rev s).zones[z] = d.orphan s.zones[z] + d.pick fwd rev := by
    rw [addOrphan, modifyZone_get, if_pos rfl, ← satAdd_eq room.orphan]
    cases d <;> rfl
  refine ⟨?_, fun x more => ⟨?_, fun a mem f => ?_⟩⟩
  · rw [Flow.held, zone, Flow.held, Nat.add_right_comm]
    rfl
  · rw [zone, Nat.add_assoc]
    exact more.orphan
  · have := more.records a mem f
    omega

theorem gives_creditRecord {d : Flow} {z : Fin 16} {ahead behind : List Record} {r : Record}
    (place : FirstNamed s ahead r behind) (f : Face) {fwd rev : Nat} (kind : ClosureKind)
    (room : d.Room z (d.pick fwd rev) s) :
    Gives d z (d.pick fwd rev) s (creditRecord r.index r.generation f fwd rev kind s) := by
  have zones : (creditRecord r.index r.generation f fwd rev kind s).zones = s.zones :=
    (creditRecord_keeps ..).2.2.2.1
  have accounts : (creditRecord r.index r.generation f fwd rev kind s).table.live.map Record.accounts
      = ahead.map Record.accounts ++ (r.credited f fwd rev kind).accounts :: behind.map Record.accounts := by
    rw [place.credit]
    split
    · simp [State.withLive, State.withTable, accounts_markReached]
    · simp [State.withLive, State.withTable]
  have old : s.table.live.map Record.accounts
      = ahead.map Record.accounts ++ r.accounts :: behind.map Record.accounts := by
    rw [place.line, List.map_append, List.map_cons]
  have fits : ∀ g, d.of g r.accounts + d.pick fwd rev ≤ Config.accountTop :=
    room.records _ (old ▸ List.mem_append_right _ List.mem_cons_self)
  have both : d.both (r.credited f fwd rev kind).accounts = d.both r.accounts + d.pick fwd rev := by
    rw [Flow.both, Flow.both, of_credited, of_credited, satAdd_eq (fits .A), satAdd_eq (fits .B)]
    cases f
    · rw [if_pos rfl, if_neg nofun]
      omega
    · rw [if_neg nofun, if_pos rfl]
      omega
  refine ⟨?_, fun x more => ⟨?_, fun a mem g => ?_⟩⟩
  · rw [Flow.held, Flow.held, zones, accounts, old]
    simp only [List.map_append, List.map_cons, List.sum_append, List.sum_cons, both]
    omega
  · have := more.orphan
    rw [zones]
    omega
  · rw [accounts] at mem
    have was : ∀ b ∈ ahead.map Record.accounts ++ r.accounts :: behind.map Record.accounts, d.of g b
        + (d.pick fwd rev + x) ≤ Config.accountTop := fun b inOld => more.records b (old ▸ inOld) g
    rcases List.mem_append.1 mem with front | rest
    · have := was a (List.mem_append_left _ front)
      omega
    · rcases List.mem_cons.1 rest with rfl | back
      · have := was r.accounts (List.mem_append_right _ List.mem_cons_self)
        rw [of_credited, satAdd_eq (fits g)]
        split <;> omega
      · have := was a (List.mem_append_right _ (List.mem_cons_of_mem _ back))
        omega

/-- R109: one entry's shares. -/
theorem gives_creditEntry {d : Flow} {z : Fin 16} (e : Entry) {fwd rev : Nat} (kind : ClosureKind)
    (room : d.Room z (d.pick fwd rev) s) : Gives d z (d.pick fwd rev) s (creditEntry z e fwd rev kind s) := by
  have released (u : State) (h : Gives d z (d.pick fwd rev) s u) :
      Gives d z (d.pick fwd rev) s (releaseEntry e.index e.generation u) :=
    h.after (releaseEntry_keeps ..).2.2.2.1 (accountsSame_releaseEntry ..)
  unfold creditEntry
  refine released _ ?_
  rw [State.credits]
  rcases absent_or_firstNamed s e.index e.generation with ⟨none, -⟩ | ⟨ahead, r, behind, place, index, generation⟩
  · rw [none]
    exact gives_addOrphan room
  · rw [← index, ← generation, place.find]
    exact gives_creditRecord place e.face kind room

theorem gives_creditEntries {d : Flow} {z : Fin 16} (kind : ClosureKind) (l : List (Entry × Nat × Nat))
    (room : d.Room z (l.map fun x => d.pick x.2.1 x.2.2).sum s) :
    Gives d z (l.map fun x => d.pick x.2.1 x.2.2).sum s (creditEntries z kind l s) := by
  induction l generalizing s with
  | nil => exact ⟨rfl, fun x more => more.mono (by simp)⟩
  | cons y l ih =>
    obtain ⟨e, fwd, rev⟩ := y
    rw [List.map_cons, List.sum_cons] at room ⊢
    have first := gives_creditEntry e kind (room.mono (Nat.le_add_right ..))
    have rest := ih (first.room _ room)
    refine ⟨?_, fun x more => rest.room x (first.room _ (by rw [← Nat.add_assoc]; exact more))⟩
    rw [creditEntries, rest.held, first.held, Nat.add_assoc]

theorem sum_pick_zip (d : Flow) {entries : List Entry} {fs rs : List Nat} (lf : fs.length = entries.length)
    (lr : rs.length = entries.length) :
    ((entries.zip (fs.zip rs)).map fun x => d.pick x.2.1 x.2.2).sum = d.pick fs.sum rs.sum := by
  have second : (entries.zip (fs.zip rs)).map Prod.snd = fs.zip rs :=
    List.map_snd_zip (by rw [List.length_zip]; omega)
  have picked : (entries.zip (fs.zip rs)).map (fun x => d.pick x.2.1 x.2.2)
      = ((entries.zip (fs.zip rs)).map Prod.snd).map fun y => d.pick y.1 y.2 := by
    rw [List.map_map]
    rfl
  rw [picked, second]
  cases d with
  | forward => exact congrArg List.sum (List.map_fst_zip (by omega))
  | reverse => exact congrArg List.sum (List.map_snd_zip (by omega))

/-- R108 to R110: a side's two amounts, shared out, arrive whole. -/
theorem gives_shareOut {d : Flow} {z : Fin 16} {side : Side} {qf qr : Nat} (kind : ClosureKind)
    (area : side.aZ = totalArea side.entries) (room : d.Room z (d.pick qf qr) s) :
    Gives d z (d.pick qf qr) s (shareOut z side qf qr kind s) := by
  unfold shareOut
  split
  case isTrue => exact gives_addOrphan room
  case isFalse notZero =>
    have entries : side.entries ≠ [] := fun none => notZero (by rw [area, none]; rfl)
    have sum := sum_pick_zip d (length_shares qf side.aZ side.entries) (length_shares qr side.aZ side.entries)
    have whole (q : Nat) : (shares q side.aZ side.entries).sum = q := by rw [area]; exact sum_shares q entries
    rw [whole, whole] at sum
    rw [← sum] at room ⊢
    exact gives_creditEntries kind _ room

/-- R111: a closure gives exactly its two amounts. -/
theorem gives_closeSide {d : Flow} {z : Fin 16} (seq : BitVec 8) {side : Side} {qf qr : Nat} (kind : ClosureKind)
    (area : side.aZ = totalArea side.entries) (room : d.Room z (d.pick qf qr) s) :
    d.held z (closeSide z seq side qf qr kind s) = d.held z s + d.pick qf qr := by
  refine (held_of_same ?_ ?_).trans (gives_shareOut kind area room).held
  · rw [closeSide, modifyZone_get, if_pos rfl]
    cases d <;> rfl
  · exact rfl

end Sys2Proof.Machine

/-! Every step keeps what the accounts hold (R67, the law of accounts), and the calls of R66 and R67 exactly. -/

namespace Sys2Proof.Machine

variable {s t u : State}

/-! ### Records that stay live -/

/-- R67: the record later on: no account within its top is smaller, and none is past its top. -/
structure Record.Older (r r' : Record) : Prop where
  index : r'.index = r.index
  generation : r'.generation = r.generation
  accounts : ∀ f : Face, (r.fwd f ≤ Config.accountTop → r.fwd f ≤ r'.fwd f ∧ r'.fwd f ≤ Config.accountTop)
    ∧ (r.rev f ≤ Config.accountTop → r.rev f ≤ r'.rev f ∧ r'.rev f ≤ Config.accountTop)

theorem Record.Worked.older {r r' : Record} (h : r.Worked r') : r.Older r' := ⟨h.index, h.generation, h.accounts⟩

theorem Record.Older.refl (r : Record) : r.Older r := (Record.Worked.refl r).older

theorem Record.Older.trans {r q p : Record} (h : r.Older q) (k : q.Older p) : r.Older p where
  index := k.index.trans h.index
  generation := k.generation.trans h.generation
  accounts f := by
    obtain ⟨hf, hr⟩ := h.accounts f
    obtain ⟨kf, kr⟩ := k.accounts f
    exact ⟨fun le => ⟨(hf le).1.trans (kf (hf le).2).1, (kf (hf le).2).2⟩,
      fun le => ⟨(hr le).1.trans (kr (hr le).2).1, (kr (hr le).2).2⟩⟩

/-- An update that leaves the accounts alone. -/
theorem Record.Older.of_accounts {r r' : Record} (index : r'.index = r.index) (generation : r'.generation = r.generation)
    (accounts : r'.accounts = r.accounts) : r.Older r' := by
  simp only [Record.accounts, Prod.mk.injEq] at accounts
  obtain ⟨fwdA, revA, fwdB, revB⟩ := accounts
  refine ⟨index, generation, fun f => ?_⟩
  cases f with
  | A => exact ⟨fun le => ⟨fwdA.ge, fwdA.le.trans le⟩, fun le => ⟨revA.ge, revA.le.trans le⟩⟩
  | B => exact ⟨fun le => ⟨fwdB.ge, fwdB.le.trans le⟩, fun le => ⟨revB.ge, revB.le.trans le⟩⟩

/-- From s to t records have stayed live or gone, and none has come. -/
structure Stays (s t : State) : Prop where
  each : ∀ r' ∈ t.table.live, ∃ r ∈ s.table.live, r.Older r'
  generations : t.table.generations = s.table.generations

/-- From s to t every live record has stayed, or carries the generation after its index's. -/
structure LiveMoves (s t : State) : Prop where
  each : ∀ r' ∈ t.table.live, (∃ r ∈ s.table.live, r.Older r')
    ∨ ∃ i : Fin 64, r'.index = i ∧ r'.generation = s.table.generations[i] + 1

theorem Stays.of_live (live : t.table.live ⊆ s.table.live) (generations : t.table.generations = s.table.generations) :
    Stays s t := ⟨fun r mem => ⟨r, live mem, .refl r⟩, generations⟩

theorem Stays.of_table (h : t.table = s.table) : Stays s t := .of_live (h ▸ fun _ => id) (h ▸ rfl)

theorem Stays.trans (h : Stays s t) (k : Stays t u) : Stays s u :=
  ⟨fun r'' live => by
    obtain ⟨r', live, older'⟩ := k.each r'' live
    obtain ⟨r, live, older⟩ := h.each r' live
    exact ⟨r, live, older.trans older'⟩, k.generations.trans h.generations⟩

theorem Works.stays {E : List Event} (h : Works E s t) : Stays s t :=
  ⟨fun r' live => by
    obtain ⟨r, old, worked⟩ := h.origin live
    exact ⟨r, old, worked.older⟩, h.generations⟩

theorem stays_modifyRecord (index : Fin 64) (generation : BitVec 8) {f : Record → Record} (older : ∀ r : Record, r.Older (f r))
    (s : State) : Stays s (modifyRecord index generation f s) :=
  ⟨fun r' live => by
    rcases mem_modifyFirst live with old | ⟨r, old, -, rfl⟩
    · exact ⟨r', old, .refl r'⟩
    · exact ⟨r, old, older r⟩, rfl⟩

theorem Stays.moves (h : Stays s t) : LiveMoves s t := ⟨fun r live => .inl (h.each r live)⟩

theorem LiveMoves.then (h : LiveMoves s t) (k : Stays t u) : LiveMoves s u :=
  ⟨fun r'' live => by
    obtain ⟨r', live, older'⟩ := k.each r'' live
    rcases h.each r' live with ⟨r, live, older⟩ | new
    · exact .inl ⟨r, live, older.trans older'⟩
    · obtain ⟨i, index, generation⟩ := new
      exact .inr ⟨i, older'.index.trans index, older'.generation.trans generation⟩⟩

theorem Stays.thenMoves (h : Stays s t) (k : LiveMoves t u) : LiveMoves s u :=
  ⟨fun r'' live => by
    rcases k.each r'' live with ⟨r', live, older'⟩ | new
    · obtain ⟨r, live, older⟩ := h.each r' live
      exact .inl ⟨r, live, older.trans older'⟩
    · rw [h.generations] at new
      exact .inr new⟩

theorem LiveMoves.behind (k : LiveMoves t u) (same : t.table = s.table) : LiveMoves s u :=
  (Stays.of_table same).thenMoves k

theorem Works.moves {E : List Event} (h : Works E s t) : LiveMoves s t := h.stays.moves

theorem liveMoves_empty (empty : t.table.live = []) : LiveMoves s t :=
  ⟨fun _ live => absurd (empty ▸ live) List.not_mem_nil⟩

/-- R55: a record made at its index, with the generation moved on. -/
theorem liveMoves_made {r : Record} {i : Fin 64} (live : ∀ q ∈ t.table.live, q = r ∨ q ∈ s.table.live)
    (index : r.index = i) (generation : r.generation = s.table.generations[i] + 1) : LiveMoves s t :=
  ⟨fun q mem => by
    rcases live q mem with rfl | old
    · exact .inr ⟨i, index, generation⟩
    · exact .inl ⟨q, old, .refl q⟩⟩

/-- R55: the generation after is another. -/
theorem next_generation_ne (g : BitVec 8) : g ≠ g + 1 := by bv_omega

/-- R55, R67: a record that stays live under its index and generation is the same record, later on. -/
theorem LiveMoves.older (h : LiveMoves s t) (law : TableLaw s) {r r' : Record} (live : r ∈ s.table.live)
    (live' : r' ∈ t.table.live) (index : r'.index = r.index) (generation : r'.generation = r.generation) : r.Older r' := by
  rcases h.each r' live' with ⟨q, old, older⟩ | ⟨i, at', new⟩
  · rw [List.inj_on_of_nodup_map law.indexes live old (index.symm.trans older.index)]
    exact older
  · obtain rfl := index.symm.trans at'
    exact absurd (((law.generations r live).trans generation.symm).trans new) (next_generation_ne _)

/-! ### The steps that make or change records -/

theorem stays_clipRearmost (rear : Option Record) (s : State) : Stays s (clipRearmost rear s) := by
  unfold clipRearmost
  split
  · exact .of_table rfl
  · rename_i r
    split
    · refine Stays.trans ?_ (works_platingEndWatch ..).stays
      have cut (r : Record) : r.Older { r with length := (s.lead r).toNat, marks := { r.marks with clipped := true } } :=
        .of_accounts rfl rfl rfl
      exact (stays_modifyRecord r.index r.generation cut s).trans (.of_table (by simp))
    · exact .of_table rfl

theorem liveMoves_admitCarrier (s : State) : LiveMoves s (admitCarrier s) := by
  unfold admitCarrier
  split
  · exact Stays.moves (.of_table rfl)
  · rename_i i g next
    obtain ⟨-, generation⟩ := nextIndex_some next
    refine LiveMoves.then ?_ (((stays_clipRearmost ..).trans (works_platingEndWatch ..).stays).trans
      (works_exitWindowWatch ..).stays)
    split
    · unfold bindAnnouncement
      exact liveMoves_made (fun q mem => (List.mem_append.1 mem).symm.imp_left List.mem_singleton.1) rfl generation
    · obtain ⟨slot, u, takes, made⟩ := makeUnannounced_eq i g s
      rw [made]
      exact liveMoves_made (r := s.unannouncedRecord i g slot)
        (fun q mem => (List.mem_append.1 mem).symm.imp_left List.mem_singleton.1) rfl generation

theorem stays_removeRecord (r : Record) (s : State) : Stays s (removeRecord r s) := by
  refine .of_live ?_ ?_ <;> rw [removeRecord_table]
  exact (removeFirst_sublist ..).subset

theorem liveMoves_entryArrival (s : State) : LiveMoves s (entryArrival s) := by
  unfold entryArrival
  split
  · exact Stays.moves (.of_table rfl)
  · split
    · exact liveMoves_admitCarrier s
    · split
      · refine Stays.thenMoves ?_ (liveMoves_admitCarrier _)
        exact (stays_removeRecord _ s).trans (.of_live (fun _ => id) rfl)
      · unfold loseCarrier
        split
        · exact Stays.moves (.of_table rfl)
        · refine Stays.moves (.of_live ?_ ?_) <;> rw [(releaseProgram_keeps ..).2.2.1]
          · exact fun _ => id
          · rfl

theorem liveMoves_takeEdge (which : Sensor) (s : State) : LiveMoves s (takeEdge which s) := by
  unfold takeEdge
  dsimp only
  split
  · cases which with
    | entry => exact LiveMoves.behind (liveMoves_entryArrival (s.withPos _)) rfl
    | exit => exact LiveMoves.behind (Works.moves (works_exitArrival (s.withPos _))) rfl
  · exact Stays.moves (.of_table rfl)

theorem liveMoves_applyPlace {r : Record} {i : Fin 64} {g : BitVec 8} (index : r.index = i) (generation : r.generation = g)
    (next : s.nextIndex = some (i, g)) : LiveMoves s (applyPlace r s) := by
  subst index generation
  obtain ⟨ahead, behind, line, inserted⟩ := insertInLine_split s.map.line.scale r s.table.live
  have made : LiveMoves s (putRecord (insertInLine s.map.line.scale r s.table.live) r s) := by
    refine liveMoves_made (r := r) (fun q mem => ?_) rfl (nextIndex_some next).2
    rw [inserted] at mem
    rw [line]
    exact List.mem_cons.1 (List.perm_middle.mem_iff.1 mem)
  unfold applyPlace
  exact made.then ((((works_testTarget ..).stays.trans (works_testTarget ..).stays).trans
    (works_platingEndWatch ..).stays).trans (works_exitWindowWatch ..).stays)

theorem stays_applyAmend (r : Record) (a : Amendment) (s : State) : Stays s (applyAmend r a s) := by
  have written := stays_modifyRecord r.index r.generation (f := fun q => q.amendedBy a) (fun _ => .of_accounts rfl rfl rfl) s
  unfold applyAmend
  dsimp only
  split
  · exact written.trans (works_platingEndWatch ..).stays
  · exact written

theorem stays_applyIdentify (r : Record) (tag : Nat) (slot : Option (Fin 16)) (s : State) :
    Stays s (applyIdentify r tag slot s) :=
  stays_modifyRecord r.index r.generation (f := fun q => { q with tag := tag, slot := slot })
    (fun _ => .of_accounts rfl rfl rfl) s

/-- R67: every owner's step keeps what the accounts hold. -/
theorem Served.liveMoves (h : Served s t) : LiveMoves s t := by
  cases h with
  | still | profile | access | defined | redefined | slotState | erased | speed | ignoredCleared | addressed
  | countersCleared | eventsCleared | attention | staleCleared => exact Stays.moves (.of_table rfl)
  | edited => exact (works_applyEdit ..).moves
  | announced _ _ _ taken => exact Stays.moves (.of_live (takeProgram_table taken ▸ fun _ => id) (takeProgram_table taken ▸ rfl))
  | cancelled => exact Stays.moves (.of_live (by simp) (by simp))
  | amended _ _ _ moved => exact ((Stays.of_table (moveProgram_table moved)).trans (stays_applyAmend ..)).moves
  | identified _ _ _ _ moved =>
    exact .behind (stays_applyIdentify ..).moves (moveProgram_table moved)
  | placed _ _ index _ _ taken =>
    refine (Stays.of_table (takeProgram_table taken)).thenMoves (liveMoves_applyPlace rfl rfl ?_)
    rw [State.nextIndex, takeProgram_table taken]
    exact index
  | retired => exact (stays_removeRecord _ s).moves
  | walked => exact Stays.moves (.of_live (fun _ => id) rfl)
  | enabled => exact .behind (works_enterState ..).moves (by simp)
  | disabled => exact (works_leaveService ..).moves
  | halted => exact (works_haltLine s).moves
  | resumed => exact Stays.moves (.of_table (by simp))
  | lineReset => exact liveMoves_empty (by rw [resetLineNow_table]; rfl)

/-- R67: every event keeps what the accounts hold. -/
theorem Happened.liveMoves (h : Happened s t) : LiveMoves s t := by
  cases h with
  | encoder sense => exact (works_encoderStep sense s).moves
  | stopTimer => exact (works_stopTimerExpires s).moves
  | parkTimer => exact (works_parkTimerExpires s).moves
  | edge which => exact liveMoves_takeEdge which s
  | otherEdge | skipped | haltInactive | pulseTimer | reminderTimer => exact Stays.moves (.of_table rfl)
  | haltActive => exact .behind (Works.moves (works_haltLine (s.withSup _))) rfl
  | period z => exact (works_periodTimerExpires z s).moves
  | restart z => exact (works_restartTimerExpires z s).moves
  | frameSent => exact Stays.moves (.of_table (by simp))
  | replyBegun => exact Stays.moves (.of_table (by simp))
  | goodEnd item c st rbs => exact .behind (Works.moves (works_goodEnd item c st rbs s)) rfl
  | badEnd item c how => exact .behind (Works.moves (works_badEnd item c how s)) rfl

theorem liveMoves_of_step (h : step s = .next t) : LiveMoves s t := by
  obtain ⟨waiting, h⟩ := stepped_of_step h
  have moved : LiveMoves { s with pending := waiting } t :=
    h.keeps (Law := fun u => LiveMoves { s with pending := waiting } u) (Stays.moves (.of_table rfl))
      (fun _ _ => liveMoves_empty rfl) (fun _ => (liveMoves_empty rfl).then (works_haltLine _).stays)
      (Stays.moves (.of_table rfl)) (fun _ _ k => k.liveMoves) (fun _ _ k => k.liveMoves)
      (fun _ _ k => k.then (.of_table rfl)) (fun _ k => k.then (.of_table rfl))
  exact .behind moved rfl

/-! ### The calls exactly (R65 to R67) -/

theorem meetsTarget_iff {r : Record} {f : Face} : s.meetsTarget r f = true ↔ ∃ k : Fin 16, r.slot = some k ∧ 0 < r.area f
    ∧ r.reached f = none ∧ ((s.programs[k].qT * r.area f * 10 : Nat) : Int) ≤ (r.fwd f : Int) - r.rev f := by
  unfold State.meetsTarget
  split
  case h_1 none => exact ⟨nofun, fun ⟨k, named, _⟩ => by rw [none] at named; cases named⟩
  case h_2 k slot =>
    simp only [Bool.and_eq_true, decide_eq_true_eq, Option.isNone_iff_eq_none, and_assoc]
    exact ⟨fun meets => ⟨k, slot, meets⟩, fun ⟨j, named, meets⟩ => by cases slot.symm.trans named; exact meets⟩

/-- Settles O48: shares give the whole amount, each call acts on the first record named, and no step takes charge out of
an account. -/
theorem closureConservesCharge : Obligations.ClosureConservesCharge := by
  refine ⟨fun s z seq d qf qr kind area fwd rev records => ?_, fun s index generation none => ?_,
    fun s r ahead behind line others => ?_, fun s t law within stepped r live r' live' index generation => ?_⟩
  · have account {a : Nat × Nat × Nat × Nat} (mem : a ∈ s.table.live.map Record.accounts) :
        ∃ r ∈ s.table.live, r.accounts = a := List.mem_map.1 mem
    have forward : Flow.forward.Room z (Flow.forward.pick qf qr) s := by
      refine ⟨fwd, fun a mem f => ?_⟩
      obtain ⟨r, live, rfl⟩ := account mem
      obtain ⟨fwdA, fwdB, -, -⟩ := records r live
      cases f with
      | A => exact fwdA
      | B => exact fwdB
    have reverse : Flow.reverse.Room z (Flow.reverse.pick qf qr) s := by
      refine ⟨rev, fun a mem f => ?_⟩
      obtain ⟨r, live, rfl⟩ := account mem
      obtain ⟨-, -, revA, revB⟩ := records r live
      cases f with
      | A => exact revA
      | B => exact revB
    rw [forwardHeld_eq, forwardHeld_eq, reverseHeld_eq, reverseHeld_eq]
    exact ⟨gives_closeSide seq kind area forward, gives_closeSide seq kind area reverse⟩
  · have absent := absent_of_find none
    exact ⟨fun f fwd rev kind => creditRecord_absent absent f fwd rev kind, releaseEntry_absent absent⟩
  · have place : FirstNamed s ahead r behind := ⟨line, fun q mem => Record.named_eq_false_iff.2 (others q mem)⟩
    intro stands less
    refine ⟨?_, fun f fwd rev kind => ?_⟩
    · rw [place.release]
      change raiseIf less.fallsShort _ _ = _
      cases less.fallsShort <;> rfl
    · have credit := place.credit f fwd rev kind
      have meets := meetsTarget_iff (s := s) (r := r.credited f fwd rev kind) (f := f)
      cases f <;> cases kind <;>
        exact ⟨fun target => credit.trans (if_pos (meets.2 target)), fun missed => credit.trans (if_neg (missed ∘ meets.1))⟩
  · obtain ⟨fwdA, revA, fwdB, revB⟩ := within r live
    have older := (liveMoves_of_step stepped).older law live live' index generation
    obtain ⟨A, A'⟩ := older.accounts .A
    obtain ⟨B, B'⟩ := older.accounts .B
    exact ⟨(A fwdA).1, (A' revA).1, (B fwdB).1, (B' revB).1⟩

end Sys2Proof.Machine

/-! What a closure leaves on the records (R109, R112, R115), and lost closures on the pending lists (R114). -/

namespace Sys2Proof.Machine

variable {s t u : State} {z : Fin 16}

/-! ### The marks of a closure (R67) -/

/-- R67: the record carries the mark of the closure kind. -/
def ClosureKind.marks : ClosureKind → Record → Prop
  | .measured, _ => True
  | .forced, r => r.marks.estimated = true
  | .lost, r => r.marks.gap = true

theorem Record.Worked.marked {r r' : Record} (h : r.Worked r') {kind : ClosureKind} (m : kind.marks r) : kind.marks r' := by
  cases kind with
  | measured => trivial
  | forced => exact h.estimated m
  | lost => exact h.gap m

/-- Every live record that the entry names carries the mark of the closure kind. -/
def State.Marked (s : State) (kind : ClosureKind) (e : Entry) : Prop :=
  ∀ r ∈ s.table.live, e.names r = true → kind.marks r

theorem names_worked {r r' : Record} (h : r.Worked r') (e : Entry) : e.names r' = e.names r := by
  rw [Entry.names, h.index, h.generation]
  rfl

theorem Works.marked {E : List Event} (h : Works E s t) {kind : ClosureKind} {e : Entry} (m : s.Marked kind e) :
    t.Marked kind e := fun r' live named => by
  obtain ⟨r, old, worked⟩ := h.origin live
  exact worked.marked (m r old ((names_worked worked e).symm.trans named))

theorem marks_credited (r : Record) (f : Face) (fwd rev : Nat) (kind : ClosureKind) :
    kind.marks (r.credited f fwd rev kind) := by
  cases kind with
  | measured => trivial
  | forced => rfl
  | lost => rfl

/-- R109: the record that a credited entry names carries the mark. -/
theorem marked_creditEntry (distinct : (s.table.live.map Record.index).Nodup) (e : Entry) (fwd rev : Nat)
    (kind : ClosureKind) : (creditEntry z e fwd rev kind s).Marked kind e := by
  refine (works_releaseEntry ..).marked ?_
  rcases unnamed_or_atPlace distinct e with unnamed | ⟨ahead, r, behind, place, index, generation⟩
  · split
    · refine (works_creditRecord ..).marked (s := s) fun r live named => ?_
      rw [unnamed r live] at named
      cases named
    · refine (Works.marked (s := s) (works_addOrphan ..)) fun r live named => ?_
      rw [unnamed r live] at named
      cases named
  · have credits : s.credits e.index e.generation = true := by
      rw [State.credits, index, generation, place.find]
      rfl
    have named : e.names r = true := names_iff.2 ⟨index, generation⟩
    rw [if_pos credits, index, generation]
    refine (works_testTarget ..).marked fun q live names => ?_
    rw [place.modify] at live
    rw [place.line] at distinct
    obtain ⟨front, back⟩ := names_none_else distinct named
    rcases List.mem_append.1 live with ahead | rest
    · rw [front q ahead] at names
      cases names
    · rcases List.mem_cons.1 rest with rfl | behind
      · exact marks_credited r e.face fwd rev kind
      · rw [back q behind] at names
        cases names

theorem Works.distinct {E : List Event} (h : Works E s t) (distinct : (s.table.live.map Record.index).Nodup) :
    (t.table.live.map Record.index).Nodup := by
  rw [map_eq_of_forall₂ (R := Record.Worked) (fun _ _ k => k.index) h.table.live] at *
  exact distinct

theorem marked_creditEntries (kind : ClosureKind) (l : List (Entry × Nat × Nat))
    (distinct : (s.table.live.map Record.index).Nodup) : ∀ x ∈ l, (creditEntries z kind l s).Marked kind x.1 := by
  induction l generalizing s with
  | nil => nofun
  | cons y l ih =>
    obtain ⟨e, fwd, rev⟩ := y
    have first := works_creditEntry z s e fwd rev kind
    intro x mem
    rcases List.mem_cons.1 mem with rfl | mem
    · exact (works_creditEntries z (creditEntry z e fwd rev kind s) kind l).marked (marked_creditEntry distinct e fwd rev kind)
    · exact ih (first.distinct distinct) x mem

/-- R109, R112, R115: a closure leaves its mark on every record that an entry of the side names. -/
theorem marked_closeSide (seq : BitVec 8) {d : Side} (qf qr : Nat) (kind : ClosureKind) (carriers : d.aZ ≠ 0)
    (distinct : (s.table.live.map Record.index).Nodup) :
    ∀ e ∈ d.entries, (closeSide z seq d qf qr kind s).Marked kind e := by
  intro e mem
  have shared : (shareOut z d qf qr kind s).Marked kind e := by
    rw [shareOut, if_neg carriers]
    have zipped : e ∈ (d.entries.zip ((shares qf d.aZ d.entries).zip (shares qr d.aZ d.entries))).map Prod.fst := by
      rw [List.map_fst_zip (by rw [List.length_zip, length_shares, length_shares]; omega)]
      exact mem
    obtain ⟨x, inList, rfl⟩ := List.mem_map.1 zipped
    exact marked_creditEntries kind _ distinct x inList
  exact shared

/-! ### Closures on zero (R115) -/

/-- Every account within its top. -/
def State.AccountsIn (s : State) : Prop := ∀ a ∈ s.table.live.map Record.accounts, ∀ (d : Flow) f, d.of f a ≤ Config.accountTop

theorem AccountsSame.refl (s : State) : AccountsSame s s := rfl

theorem AccountsSame.trans (h : AccountsSame s t) (k : AccountsSame t u) : AccountsSame s u := Eq.trans k h

theorem AccountsSame.within (h : AccountsSame s t) (k : s.AccountsIn) : t.AccountsIn := by
  rw [State.AccountsIn, show t.table.live.map Record.accounts = _ from h]
  exact k

theorem accountsSame_foldl {α : Type} {f : State → α → State} (each : ∀ s a, AccountsSame s (f s a)) (l : List α) (s : State) :
    AccountsSame s (l.foldl f s) := by
  induction l generalizing s with
  | nil => exact .refl s
  | cons a l ih => exact (each s a).trans (ih _)

theorem AccountsSame.of_table (h : t.table = s.table) : AccountsSame s t := by rw [AccountsSame, h]

/-- R67: a credit of nothing. -/
theorem accounts_credited_zero {r : Record} (within : ∀ (d : Flow) f, d.of f r.accounts ≤ Config.accountTop) (f : Face)
    (kind : ClosureKind) : (r.credited f 0 0 kind).accounts = r.accounts := by
  have same (d : Flow) (g : Face) : d.of g (r.credited f 0 0 kind).accounts = d.of g r.accounts := by
    rw [of_credited]
    have none : d.pick 0 0 = 0 := by cases d <;> rfl
    rw [none, satAdd_eq (within d g), Nat.add_zero, ite_self]
  exact Prod.ext (same .forward .A) (Prod.ext (same .reverse .A) (Prod.ext (same .forward .B) (same .reverse .B)))

theorem accountsSame_creditEntry_zero (within : s.AccountsIn) (e : Entry) (kind : ClosureKind) :
    AccountsSame s (creditEntry z e 0 0 kind s) := by
  refine AccountsSame.trans ?_ (accountsSame_releaseEntry ..)
  rw [State.credits]
  rcases absent_or_firstNamed s e.index e.generation with ⟨none, -⟩ | ⟨ahead, r, behind, place, index, generation⟩
  · rw [none]
    exact .of_table (addOrphan_keeps ..).2.2.2.1
  · have credited := accounts_credited_zero (fun d f => within r.accounts
      (place.line ▸ List.mem_map_of_mem (List.mem_append_right _ List.mem_cons_self)) d f) e.face kind
    rw [← index, ← generation, place.find, Option.isSome_some, if_pos rfl, place.credit, AccountsSame, place.line]
    split
    · simp [State.withLive, State.withTable, accounts_markReached, credited]
    · simp [State.withLive, State.withTable, credited]

theorem shares_zero (aZ : Nat) (entries : List Entry) : ∀ x ∈ shares 0 aZ entries, x = 0 := by
  intro x mem
  obtain ⟨ei, -, rfl⟩ := List.mem_map.1 mem
  have share : shareOf 0 aZ ei.1.area = 0 := by rw [shareOf, Nat.zero_mul, Nat.zero_div]
  have rest : remainderOf 0 aZ entries = 0 := Nat.zero_sub _
  rw [share, rest, Nat.add_zero, ite_self]

theorem accountsSame_creditEntries_zero (kind : ClosureKind) (l : List (Entry × Nat × Nat)) (zero : ∀ x ∈ l, x.2 = (0, 0))
    (within : s.AccountsIn) : AccountsSame s (creditEntries z kind l s) := by
  induction l generalizing s with
  | nil => exact .refl s
  | cons y l ih =>
    obtain ⟨e, fwd, rev⟩ := y
    cases zero _ List.mem_cons_self
    have first := accountsSame_creditEntry_zero (z := z) within e kind
    exact first.trans (ih (fun x mem => zero x (List.mem_cons_of_mem _ mem)) (first.within within))

/-- R115: a closure on zero leaves every account as it was. -/
theorem accountsSame_closeSide_zero (within : s.AccountsIn) (seq : BitVec 8) (d : Side) (kind : ClosureKind) :
    AccountsSame s (closeSide z seq d 0 0 kind s) := by
  refine AccountsSame.trans (t := shareOut z d 0 0 kind s) ?_ rfl
  unfold shareOut
  split
  · exact .of_table (addOrphan_keeps ..).2.2.2.1
  · refine accountsSame_creditEntries_zero kind _ (fun x mem => ?_) within
    obtain ⟨fwd, rev⟩ := List.of_mem_zip (List.of_mem_zip mem).2
    exact Prod.ext (shares_zero _ _ _ fwd) (shares_zero _ _ _ rev)

theorem accountsSame_loseSidesOf (within : s.AccountsIn) (c : Fin 32) (z : Fin 16) : AccountsSame s (loseSidesOf c s z) := by
  have each (l : List Snapshot) (v : State) (within : v.AccountsIn) : AccountsSame v
      (l.foldl (fun t (n : Snapshot) => match n.openSideOn c with
        | some d => closeSide z n.seq d 0 0 .lost t
        | none => t) v) := by
    induction l generalizing v with
    | nil => exact .refl v
    | cons n l ih =>
      rw [List.foldl_cons]
      cases n.openSideOn c with
      | none => exact ih v within
      | some d =>
        have first := accountsSame_closeSide_zero (z := z) within n.seq d .lost
        exact first.trans (ih _ (first.within within))
  unfold loseSidesOf
  split
  · exact each _ s within
  · exact .refl s

theorem accountsSame_closing (within : s.AccountsIn) (closes : Bool) (c : Fin 32) :
    AccountsSame s (if closes then loseSides c s else s) := by
  have each (l : List (Fin 16)) (v : State) (within : v.AccountsIn) : AccountsSame v (l.foldl (loseSidesOf c) v) := by
    induction l generalizing v with
    | nil => exact .refl v
    | cons z l ih =>
      have first := accountsSame_loseSidesOf within c z
      exact first.trans (ih _ (first.within within))
  split
  · exact each _ s within
  · exact .refl s

theorem accountsSame_releaseEntries (n : Snapshot) (s : State) : AccountsSame s (releaseEntries n s) :=
  accountsSame_foldl (f := fun t (e : Entry) => releaseEntry e.index e.generation t)
    (fun t e => accountsSame_releaseEntry e.index e.generation t) _ s

theorem accountsSame_discardSnapshot (test : Snapshot → Bool) (s : State) : AccountsSame s (discardSnapshot z test s) := by
  unfold discardSnapshot
  split
  · exact .refl s
  · rename_i n _
    exact (accountsSame_releaseEntries n (s.modifyZone z fun q => { q with pending := removeFirst test q.pending })).trans
      (.of_table ((withdrawOrders_keeps ..).2.2.2.1.trans (withdraw_keeps ..).2.2.2.1))

theorem accountsSame_leaveService (x : ZoneState) (s : State) : AccountsSame s (leaveService z x s) := by
  refine AccountsSame.trans (t := stopAndDiscard z x s) ?_ (.of_table (leaveService_rest z x s).1)
  refine AccountsSame.trans (t := discardIfMarkWaits z (stopTimers z x s)) ?_ (accountsSame_discardSnapshot ..)
  unfold discardIfMarkWaits
  split
  · split
    · exact accountsSame_discardSnapshot Snapshot.isStarted (stopTimers z x s)
    · exact rfl
  · exact rfl

theorem accountsSame_raiseMajor (x : Case) (s : State) : AccountsSame s (raiseMajor x s) := by
  cases zone : x.zone with
  | none => rw [raiseMajor_none zone]; exact rfl
  | some z =>
    rw [raiseMajor_zone zone]
    unfold faultZone
    split
    · exact rfl
    · exact rfl
    · exact accountsSame_leaveService .faulted (s.majorNoted x)

end Sys2Proof.Machine

/-! How a transaction ends, and what a readback closes (R132 to R135, R105 to R107). -/

namespace Sys2Proof.Machine

variable {s t : State} {z : Fin 16}

/-! ### The channel of an ended transaction -/

theorem channel_after {E : List Event} {c : Fin 32} {f : ChannelState → ChannelState} (h : Works E (s.modifyChannel c f) t) :
    ∃ n : Nat, t.drive.channels[c] = { f s.drive.channels[c] with stale := n } := by
  obtain ⟨n, channel, -⟩ := h.drive.channels c
  rw [modifyChannel_get, if_pos rfl] at channel
  exact ⟨n, channel⟩

theorem badEnd_channel (item : DriveItem) (c : Fin 32) (how : TransactionEnd) (s : State) :
    (badEnd item c how s).drive.channels[c].misses = min 3 (s.drive.channels[c].misses + 1)
      ∧ (badEnd item c how s).drive.channels[c].lastEnd = some how := by
  obtain ⟨n, channel⟩ := channel_after (works_badEnd item c how s)
  rw [channel]
  exact ⟨rfl, rfl⟩

theorem goodEnd_channel (item : DriveItem) (c : Fin 32) (st : ReplyStatus) (rbs : List Readback) (s : State) :
    (goodEnd item c st rbs s).drive.channels[c].misses = 0
      ∧ (goodEnd item c st rbs s).drive.channels[c].lastStatus = some st
      ∧ (goodEnd item c st rbs s).drive.channels[c].lastEnd = some .good := by
  obtain ⟨n, channel⟩ := channel_after (works_goodEnd item c st rbs s)
  rw [channel]
  exact ⟨rfl, rfl, rfl⟩

/-! ### Replies that are no conforming REPLY (R132) -/

theorem tail_driveFrame (body : List Byte) : (driveFrame body).tail = body ++ halfBytes (crc body) := by
  rw [driveFrame_eq]
  rfl

theorem length_driveFrame (body : List Byte) : (driveFrame body).length = body.length + 3 := by
  rw [driveFrame_eq]
  simp

theorem judgeReply_badBody (kind channel status count : Byte) (rest : List Byte) (c : Fin 32)
    (bad : kind ≠ 0x81 ∨ 2 < status.toNat ∨ 2 < count.toNat ∨ rest.length ≠ 9 * count.toNat) :
    judgeReply (driveFrame ([kind, channel, status, count] ++ rest))
      (evenParity (driveFrame ([kind, channel, status, count] ++ rest))) c = .garbled := by
  refine judgeReply_garbled _ _ c (.inr (.inr (.inr (.inr ⟨0x5A, kind, channel, status, count,
    rest ++ halfBytes (crc ([kind, channel, status, count] ++ rest)), ?_, ?_⟩))))
  · rw [driveFrame_eq]
    rfl
  · rw [List.length_append, show (halfBytes (crc ([kind, channel, status, count] ++ rest))).length = 2 from rfl]
    exact bad.imp_right fun k => k.imp_right fun k => k.imp_right (by omega)

/-! ### The sides that a readback matches (R105, R107) -/

theorem matchesOpen_of_mem {c : Fin 32} {seq : BitVec 8} {n : Snapshot} {d : Side} (h : (z, n, d) ∈ s.matching c seq) :
    MatchesOpen s c seq z n d := by
  obtain ⟨mem, number, run, found⟩ := matchIn_some (matching_mem s h)
  obtain ⟨side, channel, stillOpen⟩ := openSideOn_some found
  exact ⟨mem, number, run, side, channel, stillOpen⟩

theorem MatchesOpen.found {c : Fin 32} {seq : BitVec 8} {n : Snapshot} {d : Side} (h : MatchesOpen s c seq z n d) :
    ∃ m e, (z, m, e) ∈ s.matching c seq := by
  have onC : (n.openSideOn c).isSome := List.find?_isSome.2 ⟨d, h.side, by simp [h.channel, h.stillOpen]⟩
  obtain ⟨e, is⟩ := Option.isSome_iff_exists.1 onC
  have matched : (matchIn s.zones[z] c seq).isSome := by
    rw [matchIn, List.findSome?_isSome_iff]
    exact ⟨n, h.pending, by simp [h.number, h.run, is]⟩
  obtain ⟨⟨m, f⟩, isMatch⟩ := Option.isSome_iff_exists.1 matched
  exact ⟨m, f, List.mem_filterMap.2 ⟨z, List.mem_finRange z, by rw [isMatch]; rfl⟩⟩

theorem matching_nodup (s : State) (c : Fin 32) (seq : BitVec 8) : (s.matching c seq).Nodup := by
  refine List.Nodup.filterMap (fun y z x hy hz => ?_) (List.nodup_finRange 16)
  simp only [Option.mem_def, Option.map_eq_some_iff] at hy hz
  obtain ⟨_, -, rfl⟩ := hy
  obtain ⟨_, -, same⟩ := hz
  exact (congrArg Prod.fst same).symm

theorem takeReadback_stale {c : Fin 32} {b : Readback} (h : ∀ x, s.matching c b.seq ≠ [x]) :
    takeReadback c s b = countStale c s := by
  unfold takeReadback
  split
  case h_1 z n d only => exact absurd only (h _)
  case h_2 => rfl

theorem takeReadback_only {c : Fin 32} {b : Readback} {n : Snapshot} {d : Side} (h : s.matching c b.seq = [(z, n, d)]) :
    takeReadback c s b = handOff z n.mode d b.qf b.qr (closeSide z n.seq d b.qf b.qr .measured s) := by
  unfold takeReadback
  split
  case h_1 only =>
    cases h.symm.trans only
    rfl
  case h_2 other => exact (other z n d h).elim

theorem eq_singleton {α : Type} {l : List α} {x : α} (nodup : l.Nodup) (mem : x ∈ l) (same : ∀ y ∈ l, y = x) : l = [x] := by
  have all := List.eq_replicate_of_mem same
  rw [all, List.nodup_replicate] at nodup
  have one : l.length = 1 := le_antisymm nodup (List.length_pos_of_mem mem)
  rw [all, one]
  rfl

/-- R106, R107: no open side matches, or sides of two zones do. -/
theorem takeReadback_unmatched {c : Fin 32} {b : Readback} (h : ∀ z n d, ¬ MatchesOpen s c b.seq z n d) :
    takeReadback c s b = countStale c s :=
  takeReadback_stale fun x only =>
    h x.1 x.2.1 x.2.2 (matchesOpen_of_mem (only ▸ List.mem_singleton_self (x.1, x.2.1, x.2.2)))

theorem takeReadback_ambiguous {c : Fin 32} {b : Readback} {y : Fin 16} {m n : Snapshot} {d e : Side}
    (first : MatchesOpen s c b.seq y m d) (second : MatchesOpen s c b.seq z n e) (apart : y ≠ z) :
    takeReadback c s b = countStale c s := takeReadback_stale fun x only => by
  obtain ⟨_, _, one⟩ := first.found
  obtain ⟨_, _, two⟩ := second.found
  rw [only, List.mem_singleton] at one two
  exact apart (congrArg Prod.fst (one.trans two.symm))

theorem takeReadback_closes {c : Fin 32} {b : Readback} {n : Snapshot} {d : Side} (h : MatchesOpen s c b.seq z n d)
    (only : ∀ y m e, MatchesOpen s c b.seq y m e → y = z ∧ m = n ∧ e = d) :
    takeReadback c s b = handOff z n.mode d b.qf b.qr (closeSide z n.seq d b.qf b.qr .measured s) := by
  have same : ∀ x ∈ s.matching c b.seq, x = (z, n, d) := fun ⟨y, m, e⟩ mem => by
    obtain ⟨rfl, rfl, rfl⟩ := only y m e (matchesOpen_of_mem mem)
    rfl
  obtain ⟨m, e, mem⟩ := h.found
  exact takeReadback_only (eq_singleton (matching_nodup s c b.seq) (same _ mem ▸ mem) same)

end Sys2Proof.Machine

/-! Lost closures (R114, R115): what is left of the pending lists of a zone out of service. -/

namespace Sys2Proof.Machine

variable {s t u : State} {z : Fin 16}

/-! ### Snapshots from older ones -/

/-- A snapshot on the sides of another one, with no side open that was closed. -/
structure Snapshot.From (m n : Snapshot) : Prop where
  channels : n.sides.map Side.channel = m.sides.map Side.channel
  closed : ∀ c, m.openSideOn c = none → n.openSideOn c = none

/-- Every pending snapshot of the zone is from one that was pending. -/
structure PendingFrom (z : Fin 16) (s t : State) : Prop where
  each : ∀ n ∈ t.zones[z].pending, ∃ m ∈ s.zones[z].pending, m.From n

theorem Snapshot.From.refl (n : Snapshot) : n.From n := ⟨rfl, fun _ => id⟩

theorem PendingFrom.of_subset (h : t.zones[z].pending ⊆ s.zones[z].pending) : PendingFrom z s t :=
  ⟨fun n mem => ⟨n, h mem, .refl n⟩⟩

theorem PendingFrom.of_same (h : t.zones[z] = s.zones[z]) : PendingFrom z s t :=
  .of_subset (by rw [h]; exact fun _ => id)

theorem PendingFrom.of_zones (h : t.zones = s.zones) : PendingFrom z s t := .of_same (by rw [h])

theorem PendingFrom.trans (h : PendingFrom z s t) (k : PendingFrom z t u) : PendingFrom z s u :=
  ⟨fun n mem => by
    obtain ⟨m, inT, later⟩ := k.each n mem
    obtain ⟨o, inS, first⟩ := h.each m inT
    exact ⟨o, inS, later.channels.trans first.channels, fun c none => later.closed c (first.closed c none)⟩⟩

/-- A step of one zone, seen from any. -/
theorem PendingFrom.of_othersKept {y : Fin 16} (others : OthersKept y s t) (own : PendingFrom y s t) : PendingFrom z s t := by
  by_cases same : z = y
  · subst same
    exact own
  · exact .of_same (others.kept z same)

theorem modifyFirst_cases {α : Type} (test : α → Bool) (f : α → α) (l : List α) :
    (modifyFirst test f l = l ∧ ∀ y ∈ l, test y = false) ∨
    ∃ ahead x behind, l = ahead ++ x :: behind ∧ test x = true ∧ modifyFirst test f l = ahead ++ f x :: behind := by
  cases found : l.find? test with
  | none =>
    have passed : ∀ y ∈ l, test y = false := fun y mem => by simpa using List.find?_eq_none.1 found y mem
    exact .inl ⟨modifyFirst_none passed, passed⟩
  | some x =>
    obtain ⟨is, ahead, behind, rfl, passed⟩ := List.find?_eq_some_iff_append.1 found
    exact .inr ⟨ahead, x, behind, rfl, is, modifyFirst_append (fun y mem => by simpa using passed y mem) is⟩

theorem openSideOn_none {n : Snapshot} {c : Fin 32} :
    n.openSideOn c = none ↔ ∀ d ∈ n.sides, d.channel = c → d.closed = true := by
  simp [Snapshot.openSideOn, List.find?_eq_none]

theorem from_closeSide (n : Snapshot) (c : Fin 32) : n.From (n.closeSide c) := by
  rcases modifyFirst_cases (fun d : Side => d.channel == c && !d.closed) (fun d => { d with closed := true }) n.sides
    with ⟨same, -⟩ | ⟨ahead, x, behind, split, -, changed⟩
  · rw [Snapshot.closeSide, same]
    exact .refl n
  · refine ⟨by rw [Snapshot.closeSide, changed, split]; simp, fun k none => ?_⟩
    rw [openSideOn_none, split] at none
    rw [openSideOn_none, Snapshot.closeSide, changed]
    intro d mem onK
    rcases List.mem_append.1 mem with front | rest
    · exact none d (List.mem_append_left _ front) onK
    · rcases List.mem_cons.1 rest with rfl | back
      · rfl
      · exact none d (List.mem_append_right _ (List.mem_cons_of_mem _ back)) onK

theorem from_closeInList {seq : BitVec 8} {c : Fin 32} {l : List Snapshot} {n : Snapshot} (h : n ∈ closeInList seq c l) :
    ∃ m ∈ l, m.From n := by
  rcases closeInList_cases seq c l with same | ⟨a, m, b, rfl, -, -, ⟨-, gone⟩ | ⟨-, kept⟩⟩
  · rw [same] at h
    exact ⟨n, h, .refl n⟩
  · rw [gone] at h
    exact ⟨n, List.append_subset.2 ⟨by simp, by simp⟩ h, .refl n⟩
  · rw [kept] at h
    rcases List.mem_append.1 h with front | rest
    · exact ⟨n, List.mem_append_left _ front, .refl n⟩
    · rcases List.mem_cons.1 rest with rfl | back
      · exact ⟨m, by simp, from_closeSide m c⟩
      · exact ⟨n, by simp [back], .refl n⟩

theorem pendingFrom_closeSide (y : Fin 16) (seq : BitVec 8) (d : Side) (qf qr : Nat) (k : ClosureKind) :
    PendingFrom z s (closeSide y seq d qf qr k s) := by
  refine .of_othersKept (othersKept_closeSide ..) ⟨fun n mem => ?_⟩
  obtain ⟨fwd, rev, zone⟩ := closeSide_zone y s seq d qf qr k
  rw [zone] at mem
  exact from_closeInList mem

theorem pendingFrom_leaveService (y : Fin 16) (x : ZoneState) : PendingFrom z s (leaveService y x s) := by
  refine .of_othersKept (othersKept_leaveService ..) (.of_subset ?_)
  rw [leaveService_zone]
  exact (leftPending_sublist y s).subset

theorem pendingFrom_raiseMajor (x : Case) : PendingFrom z s (raiseMajor x s) := by
  cases zone : x.zone with
  | none => rw [raiseMajor_none zone]; exact .of_zones rfl
  | some y =>
    rw [raiseMajor_zone zone]
    unfold faultZone
    split
    · exact .of_zones rfl
    · exact .of_zones rfl
    · exact .trans (t := s.majorNoted x) (.of_zones rfl) (pendingFrom_leaveService y .faulted)

theorem pendingFrom_takeReadback (c : Fin 32) (b : Readback) : PendingFrom z s (takeReadback c s b) := by
  unfold takeReadback
  split
  · rename_i y n d _
    refine (pendingFrom_closeSide y n.seq d b.qf b.qr .measured).trans ?_
    unfold handOff
    split
    · exact .of_zones rfl
    · cases State.classify _ _ _ _ _ _ with
      | major x => exact pendingFrom_raiseMajor x
      | minor x => exact .of_zones rfl
      | nothing => exact .of_zones rfl
  · exact .of_zones rfl

theorem pendingFrom_judgeStatus (st : ReplyStatus) (c : Fin 32) (poster : Option (Fin 16)) :
    PendingFrom z s (judgeStatus st c poster s) := by
  cases st with
  | ok => exact .of_zones rfl
  | limit => exact .of_zones rfl
  | fault => exact pendingFrom_raiseMajor ..

/-! ### The sides on one channel -/

/-- The snapshot has a side open on the channel. -/
def openOn (c : Fin 32) (n : Snapshot) : Bool := (n.openSideOn c).isSome

theorem openOn_false {n : Snapshot} {c : Fin 32} : openOn c n = false ↔ n.openSideOn c = none := by
  rw [openOn, Option.isSome_eq_false_iff, Option.isNone_iff_eq_none]

theorem openOn_closeSide {n : Snapshot} {c : Fin 32} (distinct : (n.sides.map Side.channel).Nodup) :
    openOn c (n.closeSide c) = false := by
  rw [openOn_false, openSideOn_none]
  rcases modifyFirst_cases (fun d : Side => d.channel == c && !d.closed) (fun d => { d with closed := true }) n.sides
    with ⟨same, passed⟩ | ⟨ahead, x, behind, split, is, changed⟩
  · rw [Snapshot.closeSide, same]
    intro d mem onC
    simpa [onC] using passed d mem
  · rw [split, List.map_append, List.map_cons, List.nodup_append, List.nodup_cons] at distinct
    obtain ⟨-, ⟨back, -⟩, front⟩ := distinct
    simp only [Bool.and_eq_true, beq_iff_eq] at is
    rw [Snapshot.closeSide, changed]
    intro d mem onC
    rcases List.mem_append.1 mem with inFront | rest
    · exact absurd (onC.trans is.1.symm)
        (front _ (List.mem_map_of_mem inFront) _ List.mem_cons_self)
    · rcases List.mem_cons.1 rest with rfl | inBack
      · rfl
      · exact absurd (is.1.trans onC.symm ▸ List.mem_map_of_mem inBack) back

/-- R104: a closure takes the first snapshot with a side open on the channel from those that have one. -/
theorem filter_closeInList {c : Fin 32} {l tl : List Snapshot} {m : Snapshot}
    (distinct : ∀ n ∈ l, (n.sides.map Side.channel).Nodup) (first : l.filter (openOn c) = m :: tl) :
    (closeInList m.seq c l).filter (openOn c) = tl := by
  induction l with
  | nil => cases first
  | cons n l ih =>
    have rest := fun k mem => distinct k (List.mem_cons_of_mem n mem)
    by_cases here : openOn c n = true
    · rw [List.filter_cons_of_pos here] at first
      obtain ⟨rfl, rfl⟩ := List.cons.inj first
      rw [closeInList, if_pos (by simpa [openOn] using here)]
      dsimp only
      split
      · rfl
      · rw [List.filter_cons_of_neg (by simp [openOn_closeSide (distinct n List.mem_cons_self)])]
    · rw [List.filter_cons_of_neg here] at first
      have passed : ¬ (n.seq == m.seq && (n.openSideOn c).isSome) = true := fun both =>
        here (Bool.and_eq_true _ _ ▸ both).2
      rw [closeInList, if_neg passed, List.filter_cons_of_neg here]
      exact ih rest first

/-- R114: the pending list with the sides of each snapshot on the channel lost, oldest first. -/
def loseInList (c : Fin 32) (todo l : List Snapshot) : List Snapshot :=
  todo.foldl (fun l n => if openOn c n then closeInList n.seq c l else l) l

theorem loseInList_clears {c : Fin 32} (todo l : List Snapshot) (distinct : ∀ n ∈ l, (n.sides.map Side.channel).Nodup)
    (same : (l.filter (openOn c)).map Snapshot.seq = (todo.filter (openOn c)).map Snapshot.seq) :
    (loseInList c todo l).filter (openOn c) = [] := by
  induction todo generalizing l with
  | nil => exact List.map_eq_nil_iff.1 same
  | cons n todo ih =>
    rw [loseInList, List.foldl_cons]
    by_cases here : openOn c n = true
    · rw [if_pos here]
      rw [List.filter_cons_of_pos here, List.map_cons] at same
      obtain ⟨m, tl, first, seq, rest⟩ := List.map_eq_cons_iff.1 same
      refine ih _ (fun k mem => ?_) ?_
      · obtain ⟨o, inL, older⟩ := from_closeInList mem
        rw [older.channels]
        exact distinct o inL
      · rw [← seq, filter_closeInList distinct first]
        exact rest
    · rw [if_neg here]
      rw [List.filter_cons_of_neg here] at same
      exact ih l distinct same

/-- R114: the lost closures of a list of snapshots of one zone. -/
def loseAll (z : Fin 16) (c : Fin 32) (l : List Snapshot) (s : State) : State :=
  l.foldl (fun t n => match n.openSideOn c with
    | some d => closeSide z n.seq d 0 0 .lost t
    | none => t) s

theorem loseAll_cons_open {c : Fin 32} {n : Snapshot} {d : Side} (h : n.openSideOn c = some d) (l : List Snapshot) (s : State) :
    loseAll z c (n :: l) s = loseAll z c l (closeSide z n.seq d 0 0 .lost s) := by
  rw [loseAll, List.foldl_cons, h]
  rfl

theorem loseAll_cons_none {c : Fin 32} {n : Snapshot} (h : n.openSideOn c = none) (l : List Snapshot) (s : State) :
    loseAll z c (n :: l) s = loseAll z c l s := by
  rw [loseAll, List.foldl_cons, h]
  rfl

theorem loseSidesOf_out {c : Fin 32} (out : s.zones[z].state.outOfService = true) :
    loseSidesOf c s z = loseAll z c s.zones[z].pending s := by
  rw [loseSidesOf, if_pos out]
  rfl

theorem loseSidesOf_in {c : Fin 32} (inService : ¬ s.zones[z].state.outOfService = true) : loseSidesOf c s z = s := by
  rw [loseSidesOf, if_neg inService]

theorem loseAll_pending (c : Fin 32) (l : List Snapshot) (s : State) :
    (loseAll z c l s).zones[z].pending = loseInList c l s.zones[z].pending := by
  induction l generalizing s with
  | nil => rfl
  | cons n l ih =>
    rw [loseInList, List.foldl_cons, openOn]
    cases found : n.openSideOn c with
    | none =>
      rw [loseAll_cons_none found]
      exact ih s
    | some d =>
      obtain ⟨fwd, rev, zone⟩ := closeSide_zone z s n.seq d 0 0 .lost
      obtain ⟨-, channel, -⟩ := openSideOn_some found
      rw [loseAll_cons_open found, ih, zone, channel]
      rfl

theorem outOfService_iff {x : ZoneState} : x.outOfService = true ↔ x ≠ .running ∧ x ≠ .protect := by
  cases x <;> decide

theorem othersKept_loseSidesOf (c : Fin 32) : OthersKept z s (loseSidesOf c s z) := by
  unfold loseSidesOf
  split
  · refine othersKept_foldl z s (fun t (n : Snapshot) => ?_) _
    split
    · exact othersKept_closeSide ..
    · exact .refl z t
  · exact .refl z s

/-- R114: after the lost closures no zone out of service keeps a side open on the channel. -/
theorem loseSides_clears {c : Fin 32} (out : s.zones[z].state.outOfService = true)
    (distinct : ∀ n ∈ s.zones[z].pending, (n.sides.map Side.channel).Nodup) :
    ∀ n ∈ (loseSides c s).zones[z].pending, n.openSideOn c = none := by
  obtain ⟨before, after, -, own, last⟩ := foldl_zones (f := loseSidesOf c) (fun t y => othersKept_loseSidesOf (s := t) (z := y) c) s z
  intro n mem
  rw [loseSides, last, loseSidesOf_out (by rw [own]; exact out), loseAll_pending, own] at mem
  rw [← openOn_false, ← Bool.not_eq_true]
  exact List.filter_eq_nil_iff.1 (loseInList_clears _ _ distinct rfl) n mem

/-- R114: a zone in service is as it was. -/
theorem loseSides_in {c : Fin 32} (inService : ¬ s.zones[z].state.outOfService = true) :
    (loseSides c s).zones[z] = s.zones[z] := by
  obtain ⟨before, after, -, own, last⟩ := foldl_zones (f := loseSidesOf c) (fun t y => othersKept_loseSidesOf (s := t) (z := y) c) s z
  rw [loseSides, last, loseSidesOf_in (by rw [own]; exact inService), own]

/-! ### The marks of lost closures (R115) -/

theorem works_loseAll (c : Fin 32) (l : List Snapshot) (s : State) : Works [.target, .shortfall] s (loseAll z c l s) := by
  refine works_foldl (fun t n => ?_) l s
  split
  · exact works_closeSide ..
  · exact .refl _ t

theorem marked_loseAll {c : Fin 32} (l : List Snapshot) {s : State} (distinct : (s.table.live.map Record.index).Nodup) :
    ∀ n ∈ l, ∀ d, n.openSideOn c = some d → d.aZ ≠ 0 → ∀ e ∈ d.entries, (loseAll z c l s).Marked .lost e := by
  induction l generalizing s with
  | nil => exact fun n mem => absurd mem List.not_mem_nil
  | cons m l ih =>
    intro n mem d found carriers e inSide
    cases onC : m.openSideOn c with
    | none =>
      rw [loseAll_cons_none onC]
      rcases List.mem_cons.1 mem with rfl | mem
      · cases onC.symm.trans found
      · exact ih distinct n mem d found carriers e inSide
    | some k =>
      rw [loseAll_cons_open onC]
      have first := works_closeSide (s := s) (z := z) m.seq k 0 0 .lost
      rcases List.mem_cons.1 mem with rfl | mem
      · cases onC.symm.trans found
        exact (works_loseAll c l _).marked (marked_closeSide n.seq 0 0 .lost carriers distinct e inSide)
      · exact ih (first.distinct distinct) n mem d found carriers e inSide

theorem marked_loseSides {c : Fin 32} (out : s.zones[z].state.outOfService = true)
    (distinct : (s.table.live.map Record.index).Nodup) : ∀ n ∈ s.zones[z].pending, ∀ d, n.openSideOn c = some d →
      d.aZ ≠ 0 → ∀ e ∈ d.entries, (loseSides c s).Marked .lost e := by
  intro n mem d found carriers e inSide
  obtain ⟨before, after, split, own, -⟩ := foldl_zones (f := loseSidesOf c) (fun t y => othersKept_loseSidesOf (s := t) (z := y) c) s z
  have reached : Works [.target, .shortfall] s (before.foldl (loseSidesOf c) s) := works_foldl (fun t y => works_loseSidesOf (s := t) y c) before s
  rw [loseSides, split, List.foldl_append, List.foldl_cons]
  refine (works_foldl (fun t y => works_loseSidesOf (s := t) y c) after _).marked ?_
  rw [loseSidesOf_out (by rw [own]; exact out), own]
  exact marked_loseAll _ (reached.distinct distinct) n mem d found carriers e inSide

end Sys2Proof.Machine

/-! The four ends of an ORDER or STOP transaction (R132 to R136, R114, R115). -/

namespace Sys2Proof.Machine

variable {s t : State} {z : Fin 16}

/-! ### The failed ends (R135) -/

/-- R135, R114: what stands when a failed end has been counted and its lost closures taken. -/
def State.failed (s : State) (item : DriveItem) (c : Fin 32) (how : TransactionEnd) : State :=
  let u := s.modifyChannel c fun k => { k with misses := min 3 (k.misses + 1), lastEnd := some how }
  if item.closes then loseSides c u else u

theorem badEnd_eq (item : DriveItem) (c : Fin 32) (how : TransactionEnd) (s : State) : badEnd item c how s
    = endTransaction (if s.drive.channels[c].misses = 2 then channelFault c item.poster (s.failed item c how)
      else s.failed item c how) := rfl

section
variable {item : DriveItem} {c : Fin 32}

theorem pendingFrom_badEnd (how : TransactionEnd) : PendingFrom z (s.failed item c how) (badEnd item c how s) := by
  rw [badEnd_eq]
  refine .trans ?_ (.of_zones (endTransaction_keeps _).2.2.2.2.1)
  split
  · exact pendingFrom_raiseMajor ..
  · exact .of_zones rfl

theorem works_afterFailed (how : TransactionEnd) : Works endEvents (s.failed item c how) (badEnd item c how s) := by
  rw [badEnd_eq]
  refine .trans ?_ ((works_endTransaction _).mono (by simp))
  split
  · exact (works_channelFault ..).mono (by simp [endEvents])
  · exact .refl _ _

theorem accountsSame_badEnd (how : TransactionEnd) (within : s.AccountsIn) : AccountsSame s (badEnd item c how s) := by
  have counted : AccountsSame s (s.modifyChannel c fun k => { k with misses := min 3 (k.misses + 1), lastEnd := some how }) := rfl
  have lost : AccountsSame s (s.failed item c how) :=
    counted.trans (accountsSame_closing (counted.within within) item.closes c)
  rw [badEnd_eq]
  refine lost.trans (.trans ?_ (.of_table (endTransaction_keeps _).2.2.2.1))
  split
  · exact accountsSame_raiseMajor ..
  · exact .refl _

/-- R144: no channel fault is handed on. -/
theorem badEnd_quiet (how : TransactionEnd) (few : s.drive.channels[c].misses ≠ 2) :
    badEnd item c how s = endTransaction (s.failed item c how) := by
  rw [badEnd_eq, if_neg few]

theorem failed_closes (closes : item.closes = true) (how : TransactionEnd) : s.failed item c how
    = loseSides c (s.modifyChannel c fun k => { k with misses := min 3 (k.misses + 1), lastEnd := some how }) := by
  rw [State.failed, closes]
  rfl

theorem failed_closes_not (closes : item.closes = false) (how : TransactionEnd) : s.failed item c how
    = s.modifyChannel c fun k => { k with misses := min 3 (k.misses + 1), lastEnd := some how } := by
  rw [State.failed, closes]
  rfl

/-- R114: after a failed end that closes, no zone out of service keeps a side open on the channel. -/
theorem badEnd_clears (how : TransactionEnd) (closes : item.closes = true) (out : s.zones[z].state.outOfService = true)
    (distinct : ∀ n ∈ s.zones[z].pending, (n.sides.map Side.channel).Nodup) :
    ∀ n ∈ (badEnd item c how s).zones[z].pending, n.openSideOn c = none := fun n mem => by
  obtain ⟨m, inLost, older⟩ := (pendingFrom_badEnd how).each n mem
  rw [failed_closes closes] at inLost
  exact older.closed c (loseSides_clears (s := s.modifyChannel c _) out distinct m inLost)

/-- R115: the lost closures leave the GAP mark. -/
theorem badEnd_gap (how : TransactionEnd) (closes : item.closes = true) (out : s.zones[z].state.outOfService = true)
    (distinct : (s.table.live.map Record.index).Nodup) {n : Snapshot} (mem : n ∈ s.zones[z].pending) {d : Side}
    (found : n.openSideOn c = some d) (carriers : d.aZ ≠ 0) : ∀ e ∈ d.entries, (badEnd item c how s).Marked .lost e := by
  intro e inSide
  refine (works_afterFailed how).marked ?_
  rw [failed_closes closes]
  exact marked_loseSides (s := s.modifyChannel c _) out distinct n mem d found carriers e inSide

theorem badEnd_inService (how : TransactionEnd) (few : s.drive.channels[c].misses ≠ 2)
    (inService : ¬ s.zones[z].state.outOfService = true) : (badEnd item c how s).zones[z] = s.zones[z] := by
  rw [badEnd_quiet how few, (endTransaction_keeps _).2.2.2.2.1]
  cases closes : item.closes with
  | false => rw [failed_closes_not closes]; rfl
  | true => rw [failed_closes closes]; exact loseSides_in (s := s.modifyChannel c _) inService

theorem badEnd_leaves (how : TransactionEnd) (few : s.drive.channels[c].misses ≠ 2) (closes : item.closes = false) :
    (badEnd item c how s).zones = s.zones ∧ (badEnd item c how s).table = s.table := by
  obtain ⟨-, -, -, table, zones, -, -, -, -, -, -⟩ := endTransaction_keeps (s.failed item c how)
  rw [badEnd_quiet how few, zones, table, failed_closes_not closes]
  exact ⟨rfl, rfl⟩

theorem badEnd_monitor (how : TransactionEnd) (few : s.drive.channels[c].misses ≠ 2) :
    (badEnd item c how s).monitor = s.monitor := by
  rw [badEnd_quiet how few, (unfaulted_endTransaction _).monitor]
  exact (unfaulted_closing item.closes c _).monitor

/-! ### The GOOD end (R134) -/

/-- R134: what stands when a GOOD end's readbacks have been taken. -/
def State.read (s : State) (c : Fin 32) (st : ReplyStatus) (rbs : List Readback) : State :=
  rbs.foldl (takeReadback c) (s.modifyChannel c fun k => { k with misses := 0, lastStatus := some st, lastEnd := some .good })

theorem pendingFrom_read (st : ReplyStatus) (rbs : List Readback) : PendingFrom z s (s.read c st rbs) := by
  have each (l : List Readback) (t : State) : PendingFrom z t (l.foldl (takeReadback c) t) := by
    induction l generalizing t with
    | nil => exact .of_zones rfl
    | cons b l ih => exact (pendingFrom_takeReadback c b).trans (ih _)
  have start : PendingFrom z s (s.modifyChannel c fun k => { k with misses := 0, lastStatus := some st, lastEnd := some .good }) :=
    .of_zones rfl
  exact start.trans (each rbs _)

theorem outOfService_read (st : ReplyStatus) (rbs : List Readback) (out : s.zones[z].state.outOfService = true) :
    (s.read c st rbs).zones[z].state.outOfService = true := by
  have start : ZonesFault s (s.modifyChannel c fun k => { k with misses := 0, lastStatus := some st, lastEnd := some .good }) :=
    .of_kept (.of_zones rfl)
  rcases (start.trans (zonesFault_foldl (f := takeReadback c) (fun u b => zonesFault_takeReadback u c b) rbs _)).each z with
    same | ⟨-, faulted⟩
  · rw [State.read, stand_state same]
    exact out
  · have st : (s.read c st rbs).zones[z].state = .faulted := congrArg Prod.fst faulted
    rw [st]
    rfl

/-- R114: after a GOOD end that closes, no zone out of service keeps a side open on the channel. -/
theorem goodEnd_clears (st : ReplyStatus) (rbs : List Readback) (closes : item.closes = true)
    (out : s.zones[z].state.outOfService = true)
    (distinct : ∀ n ∈ s.zones[z].pending, (n.sides.map Side.channel).Nodup) :
    ∀ n ∈ (goodEnd item c st rbs s).zones[z].pending, n.openSideOn c = none := fun n mem => by
  have eq : s.readBack item c st rbs = loseSides c (s.read c st rbs) := by
    rw [State.readBack, closes]
    rfl
  have after : PendingFrom z (loseSides c (s.read c st rbs)) (goodEnd item c st rbs s) := by
    rw [goodEnd_eq, eq]
    exact (pendingFrom_judgeStatus ..).trans (.of_zones (endTransaction_keeps _).2.2.2.2.1)
  obtain ⟨m, inLost, older⟩ := after.each n mem
  refine older.closed c (loseSides_clears (outOfService_read st rbs out) (fun o inRead => ?_) m inLost)
  obtain ⟨p, inS, from'⟩ := (pendingFrom_read st rbs).each o inRead
  rw [from'.channels]
  exact distinct p inS

end

theorem openSideOn_of_open {n : Snapshot} {d : Side} {c : Fin 32} (distinct : (n.sides.map Side.channel).Nodup)
    (mem : d ∈ n.sides) (channel : d.channel = c) (stillOpen : d.closed = false) : n.openSideOn c = some d := by
  have found : (n.openSideOn c).isSome := List.find?_isSome.2 ⟨d, mem, by simp [channel, stillOpen]⟩
  obtain ⟨e, is⟩ := Option.isSome_iff_exists.1 found
  obtain ⟨inSides, onC, -⟩ := openSideOn_some is
  rw [is, List.inj_on_of_nodup_map distinct inSides mem (onC.trans channel.symm)]

/-- Settles O44: the ends of an ORDER or STOP transaction, its readbacks and its lost closures. -/
theorem transactionEnds : Obligations.TransactionEnds := by
  refine ⟨fun item c w p s awake bus addressee sent => ?_, fun c b s => ?_, fun item c st rbs how s => ?_⟩
  · have h : Awaits s item c p := ⟨awake, ⟨w, bus⟩, addressee, sent⟩
    intro failed
    have fails {i : Instr} {how : TransactionEnd} (ended : exec i s = .next (badEnd item c how s)) : failed i how :=
      ⟨ended, badEnd_channel item c how s⟩
    have garbles {data : List Byte} (bad : judgeReply data (evenParity data) c = .garbled) :
        failed (.replyFrameEnd data (evenParity data)) .garbled := fails (h.garbles bad)
    refine ⟨fun st rbs few small => ?_, fun data parity odd => fails (h.garbles (judgeReply_garbled _ _ _ (.inl odd))),
      ⟨fun data bad => garbles (judgeReply_garbled _ _ _ (.inr (.inl bad))),
        fun start rest other => garbles (judgeReply_garbled _ _ _ (.inr (.inr (.inl fun tail is => other (List.cons.inj is).1)))),
        fun body short => garbles (judgeReply_garbled _ _ _ (.inr (.inr (.inr (.inl (by rw [length_driveFrame]; omega)))))),
        fun kind channel status count rest bad => garbles (judgeReply_badBody kind channel status count rest c bad)⟩,
      fails h.brokenOff, fun waiting => fails (by subst waiting; exact h.windowEnd)⟩
    have carried : rbs.map Readback.carried = rbs := by
      rw [List.map_congr_left fun b mem => carried_of_small (small b mem), List.map_id']
    have replies := h.reply st few
    rw [carried] at replies
    exact ⟨replies, (goodEnd_channel item c st rbs s).1, (goodEnd_channel item c st rbs s).2.1,
      (goodEnd_channel item c st rbs s).2.2, fun d other => fails (h.wrongChannel other st few)⟩
  · exact ⟨takeReadback_unmatched, fun y z m n d e first second apart => takeReadback_ambiguous first second apart,
      fun z n d found only => takeReadback_closes found only⟩
  · refine ⟨rfl, fun closes z out distinct => ?_, fun within => ?_, fun few => ⟨badEnd_monitor how few, fun z inService => ?_,
      badEnd_leaves how few⟩⟩
    · have out := outOfService_iff.2 out
      refine ⟨fun n mem => openSideOn_none.1 (goodEnd_clears st rbs closes out distinct n mem),
        fun n mem => openSideOn_none.1 (badEnd_clears how closes out distinct n mem), ?_⟩
      intro lawful n mem d inSides onC stillOpen carriers e inSide
      exact badEnd_gap how closes out lawful.indexes mem (openSideOn_of_open (distinct n mem) inSides onC stillOpen) carriers
        e inSide
    · refine accountsSame_badEnd how fun a mem d f => ?_
      obtain ⟨r, live, rfl⟩ := List.mem_map.1 mem
      obtain ⟨fwdA, revA, fwdB, revB⟩ := within r live
      cases d <;> cases f
      · exact fwdA
      · exact fwdB
      · exact revA
      · exact revB
    · exact badEnd_inService how few fun out => inService (outOfService_iff.1 out)

end Sys2Proof.Machine

/-! What a computation depends on, and what building a snapshot does (R79, R82, R66, R100). -/

namespace Sys2Proof.Machine

variable {s t u : State} {z : Fin 16}

/-! ### What a computation depends on (sec. 5.10) -/

/-- The states agree in all that a setpoint computation reads: the map, the programs, the position, the Carrier Table, and
which zones count in the dwell sums. -/
structure Alike (s t : State) : Prop where
  map : t.map = s.map
  programs : t.programs = s.programs
  pos : t.pos = s.pos
  table : t.table = s.table
  live : ∀ z, t.zoneIsLive z = s.zoneIsLive z

theorem Alike.refl (s : State) : Alike s s := ⟨rfl, rfl, rfl, rfl, fun _ => rfl⟩

theorem Alike.trans (h : Alike s t) (k : Alike t u) : Alike s u :=
  ⟨k.map.trans h.map, k.programs.trans h.programs, k.pos.trans h.pos, k.table.trans h.table, fun z => (k.live z).trans (h.live z)⟩

/-- R95: the state counts in the dwell sums. -/
def ZoneState.counts : ZoneState → Bool
  | .running => true
  | .protect => true
  | .parked => true
  | _ => false

theorem zoneIsLive_eq (s : State) (z : Fin 16) : s.zoneIsLive z
    = (decide (0 < s.map.zoneLength z) && s.map.zones[z].kind.powered && s.zones[z].state.counts) := by
  unfold State.zoneIsLive ZoneState.counts
  rfl

theorem live_of_counts (map : t.map = s.map) (z : Fin 16) (counts : t.zones[z].state.counts = s.zones[z].state.counts) :
    t.zoneIsLive z = s.zoneIsLive z := by
  rw [zoneIsLive_eq, zoneIsLive_eq, map, counts]

theorem Alike.of_zones (map : t.map = s.map) (programs : t.programs = s.programs) (pos : t.pos = s.pos)
    (table : t.table = s.table) (counts : ∀ z : Fin 16, t.zones[z].state.counts = s.zones[z].state.counts) : Alike s t :=
  ⟨map, programs, pos, table, fun z => live_of_counts map z (counts z)⟩

theorem Alike.lead (h : Alike s t) : t.lead = s.lead := funext fun r => by
  rw [State.lead, State.lead, h.map, h.pos]

theorem Alike.trail (h : Alike s t) : t.trail = s.trail := funext fun r => by
  rw [State.trail, State.trail, h.lead]

theorem Alike.liveAhead (h : Alike s t) (centre : Int) : t.liveAhead centre = s.liveAhead centre := by
  simp only [State.liveAhead, h.live, h.map]

theorem Alike.demand (h : Alike s t) (jLo : Nat) (p : Profile) (e : Entry) : t.demand jLo p e = s.demand jLo p e := by
  have centre (r : Record) : t.centre r = s.centre r := by rw [State.centre, State.centre, h.lead]
  simp only [State.demand, State.demandOf, h.table, h.programs, h.pos, centre, h.liveAhead]

theorem Alike.setpoint (h : Alike s t) : t.setpoint = s.setpoint := by
  funext mode z side c entries
  cases mode with
  | run => simp only [State.setpoint, State.runSetpoint, h.map, h.demand]
  | protect => simp only [State.setpoint, State.protectSetpoint, h.map]

theorem Alike.entriesOf (h : Alike s t) : t.entriesOf = s.entriesOf := by
  funext z side
  have overlap (r : Record) : t.overlap z r = s.overlap z r := by
    rw [State.overlap, State.overlap, h.lead, h.trail, h.map]
  have entry : t.entryOf z = s.entryOf z := by
    funext f r
    rw [State.entryOf, State.entryOf, State.overlappedArea, State.overlappedArea, overlap]
  rw [State.entriesOf, State.entriesOf, h.table, h.map, entry]

theorem Alike.clampActs (h : Alike s t) : t.clampActs = s.clampActs := by
  funext z n
  rw [State.clampActs, State.clampActs, h.setpoint]

/-- R79: the snapshot that a zone builds depends on its state and its last sequence number besides. -/
theorem Alike.newSnapshot (h : Alike s t) (state : t.zones[z].state = s.zones[z].state)
    (lastSeq : t.zones[z].lastSeq = s.zones[z].lastSeq) : t.newSnapshot z = s.newSnapshot z := by
  simp only [State.newSnapshot, State.newSide, State.profileOf, state, lastSeq, h.map, h.setpoint, h.entriesOf]

theorem snapshotOf_newSnapshot (s : State) (z : Fin 16) : SnapshotOf s z (s.newSnapshot z) where
  number := rfl
  phase := rfl
  mode := by
    change s.zones[z].state.mode = _
    cases s.zones[z].state <;> rfl
  profile := rfl
  sides := rfl

theorem SnapshotOf.congr {n : Snapshot} (h : SnapshotOf s z n) (alike : Alike s t) (state : t.zones[z].state = s.zones[z].state)
    (lastSeq : t.zones[z].lastSeq = s.zones[z].lastSeq) : SnapshotOf t z n where
  number := by rw [h.number, lastSeq]
  phase := h.phase
  mode := by rw [h.mode, state]
  profile := h.profile.trans (congrArg (fun m : LineMap => m.profiles[m.zones[z].profile]) alike.map.symm)
  sides := by rw [h.sides, alike.map, alike.entriesOf, alike.setpoint]

/-! ### ORDERs posted (R100) -/

theorem postItem_attn {item : DriveItem} (notMark : item.isMark = false) (s : State) : (postItem item s).attn = s.attn := by
  obtain ⟨raised, none, eq⟩ := (works_postItem_of_notMark notMark s).attn
  rw [eq, List.eq_nil_of_subset_nil none]
  rfl

theorem postOrders_attn (n : Snapshot) (s : State) : (postOrders z n s).attn = s.attn := by
  unfold postOrders
  induction n.sides generalizing s with
  | nil => rfl
  | cons d l ih => exact (ih _).trans (postItem_attn rfl s)

/-- R127: an item for no channel of the snapshot's sides goes on being sent. -/
theorem sends_postOrders_other {i : DriveItem} (n : Snapshot) (sent : s.sends i)
    (other : ∀ d ∈ n.sides, i.place ≠ .order d.channel) : (postOrders z n s).sends i := by
  unfold postOrders
  revert other
  generalize n.sides = l
  induction l generalizing s with
  | nil => exact fun _ => sent
  | cons d l ih =>
    intro other
    exact ih (sends_postItem_other sent (other d List.mem_cons_self)) fun e mem => other e (List.mem_cons_of_mem _ mem)

theorem sends_postOrders (n : Snapshot) (distinct : (n.sides.map Side.channel).Nodup) (s : State) :
    (postOrders z n s).sendsOrders z n := by
  have each (l : List Side) (v : State) (distinct : (l.map Side.channel).Nodup) : ∀ d ∈ l, ∃ flush,
      (l.foldl (fun t d => postItem (orderItem z n d) t) v).sends
        (.order { channel := d.channel, seq := n.seq, values := d.order, mode := n.mode } flush z) := by
    induction l generalizing v with
    | nil => exact fun d mem => absurd mem List.not_mem_nil
    | cons e l ih =>
      rw [List.map_cons, List.nodup_cons] at distinct
      obtain ⟨fresh, distinct⟩ := distinct
      intro d mem
      rcases List.mem_cons.1 mem with rfl | mem
      · obtain ⟨flush, sent⟩ := sends_order { channel := d.channel, seq := n.seq, values := d.order, mode := n.mode } false z v
        have others : ∀ e ∈ l, (DriveItem.order { channel := d.channel, seq := n.seq, values := d.order, mode := n.mode } flush z).place
            ≠ .order e.channel := fun e mem same => by
          have one : d.channel = e.channel := QueuePlace.order.inj same
          exact fresh (one ▸ List.mem_map_of_mem mem)
        exact ⟨flush, sends_postOrders_other { n with sides := l } sent others⟩
      · exact ih _ distinct d mem
  exact each n.sides s distinct

theorem State.sendsOrders.of_drive {n : Snapshot} (h : s.sendsOrders z n) (same : t.drive = s.drive) : t.sendsOrders z n :=
  fun d mem => (h d mem).imp fun _ sent => sent.of_drive same

/-! ### A snapshot built -/

theorem raiseLimited_eq (mode : Mode) (sides : List Side) (at' s : State) : raiseLimited z mode sides at' s
    = raiseIf (sides.any fun d => (at'.setpoint mode z d.face d.channel d.entries).limited) .limited s := rfl

theorem isSet_raiseIf (b : Bool) (e : Event) (s : State) : (raiseIf b e s).attn.isSet e = (s.attn.isSet e || b) := by
  cases b with
  | false => exact (Bool.or_false _).symm
  | true => exact (raiseFlag_isSet ..).trans (Bool.or_true _).symm

theorem holdEntries_eq (distinct : (s.table.live.map Record.index).Nodup) (n : Snapshot) :
    holdEntries n s = s.withTable (s.holding n) := holdAll_eq distinct _

theorem buildSnapshot_table (distinct : (s.table.live.map Record.index).Nodup) :
    (buildSnapshot z s).table = s.holding (s.newSnapshot z) := by
  rw [buildSnapshot, (postOrders_keeps ..).2.2.2.1, (raiseLimited_keeps ..).2.2.2.1, holdEntries_eq (by exact distinct)]
  rfl

theorem snapshotPosted_buildSnapshot (s : State) (z : Fin 16) :
    SnapshotPosted s (buildSnapshot z s) z (s.newSnapshot z) where
  orders distinct := sends_postOrders _ distinct _
  limited := by
    rw [buildSnapshot, postOrders_attn, raiseLimited_eq, isSet_raiseIf, (holdEntries_keeps ..).2.2.2.2.2.2.2.2.1]
    rfl

/-! ### Entering service (R82) -/

/-- R82: a zone enters service. -/
theorem entersService_enterService (x : ZoneState) (s : State) (z : Fin 16) : EntersService s (enterService z x s) z x := by
  refine ⟨(entered z s x).newSnapshot z, snapshotOf_newSnapshot _ z, ⟨fun distinct => ?_, ?_⟩, fun law => ?_, ?_⟩
  · exact ((snapshotPosted_buildSnapshot (entered z s x) z).orders distinct).of_drive rfl
  · exact (snapshotPosted_buildSnapshot (entered z s x) z).limited
  · exact buildSnapshot_table (s := entered z s x) law.indexes
  · exact zone_of_bankSet (enterService_zones z s x)

theorem EntersService.state {x : ZoneState} (h : EntersService s t z x) : t.zones[z].state = x := by
  obtain ⟨n, -, -, -, zone⟩ := h
  rw [zone]

/-- R84: a zone enters service from a state that differs in what the drive bus holds alone. -/
theorem EntersService.of_drive {v : State} {x : ZoneState} (h : EntersService v t z x) (drive : ∃ d, v = s.withDrive d) :
    EntersService s t z x := by
  obtain ⟨d, rfl⟩ := drive
  obtain ⟨n, built, posted, table, zone⟩ := h
  have alike : Alike ({ s.withDrive d with zones := bankSet s.zones z { s.zones[z] with state := x, restartTimer := none } } : State)
      { s with zones := bankSet s.zones z { s.zones[z] with state := x, restartTimer := none } } :=
    ⟨rfl, rfl, rfl, rfl, fun _ => rfl⟩
  refine ⟨n, built.congr alike rfl rfl, ⟨posted.orders, ?_⟩, fun law => table (law.of_table rfl), zone⟩
  rw [posted.limited, alike.clampActs]
  rfl

end Sys2Proof.Machine

/-! ENABLE ZONE (R84) and the restart timer of a zone (R88, R91, R116). -/

namespace Sys2Proof.Machine

variable {s t u : State} {z : Fin 16}

/-! ### ENABLE ZONE (R84) -/

theorem clearMisses_drive (l : List (Fin 32)) (s : State) :
    clearMisses l s = s.withDrive { s.drive with channels := (clearMisses l s).drive.channels } := by
  induction l generalizing s with
  | nil => rfl
  | cons c l ih =>
    have step : clearMisses (c :: l) s = clearMisses l (s.modifyChannel c fun k => { k with misses := 0 }) := rfl
    rw [step, ih]
    rfl

theorem clearMisses_channel {l : List (Fin 32)} {ch : Fin 32} (cleared : ch ∈ l ∨ s.drive.channels[ch].misses = 0) :
    (clearMisses l s).drive.channels[ch].misses = 0 := by
  induction l generalizing s with
  | nil => exact cleared.resolve_left List.not_mem_nil
  | cons c l ih =>
    have step : clearMisses (c :: l) s = clearMisses l (s.modifyChannel c fun k => { k with misses := 0 }) := rfl
    rw [step]
    refine ih ?_
    by_cases here : ch = c
    · exact .inr (by rw [modifyChannel_get, if_pos here])
    · rcases cleared with mem | zero
      · exact .inl ((List.mem_cons.1 mem).resolve_left here)
      · exact .inr (by rw [modifyChannel_get, if_neg here]; exact zero)

theorem enterState_channels (z : Fin 16) (x : ZoneState) (s : State) (ch : Fin 32) :
    (enterState z x s).drive.channels[ch].misses = s.drive.channels[ch].misses := by
  obtain ⟨n, channel, -⟩ := (works_enterState z x s).drive.channels ch
  rw [channel]

theorem enterState_enters {x : ZoneState} (h : x = .running ∨ x = .protect) (z : Fin 16) (s : State) :
    enterState z x s = enterService z x s := by
  rcases h with rfl | rfl <;> rfl

theorem enterState_waits {x : ZoneState} (h : x = .halted ∨ x = .parked) (z : Fin 16) (s : State) :
    enterState z x s = s.modifyZone z fun q => { q with state := x } := by
  rcases h with rfl | rfl <;> rfl

theorem ownEnableZone_byteOf (z : Fin 16) (s : State) : ownEnableZone (byteOf z) s
    = if s.zones[z].state.refusesEnable then refuse s .wrongState
      else if !s.map.enableable z then refuse s .mapInvalid
      else accept (enterState z s.enabledInto (clearMisses s.map.zones[z].channels s)) (nat1 s.enabledInto.code) := by
  rw [ownEnableZone, indexOf_byteOf (by decide)]

theorem ownEnableZone_above {zone : Byte} (above : 15 < zone.toNat) (s : State) :
    ownEnableZone zone s = refuse s .badValue := by
  rw [ownEnableZone, indexOf_eq_none_iff.2 above]

theorem refusesEnable_false {x : ZoneState} (h : x = .disabled ∨ x = .faulted) : x.refusesEnable = false := by
  rcases h with rfl | rfl <;> rfl

theorem refusesEnable_true {x : ZoneState} (enabled : x ≠ .disabled) (well : x ≠ .faulted) : x.refusesEnable = true := by
  cases x with
  | disabled => exact absurd rfl enabled
  | faulted => exact absurd rfl well
  | running => rfl
  | protect => rfl
  | parked => rfl
  | halted => rfl

theorem enabledInto_cases (s : State) : (s.enabledInto = .halted ∨ s.enabledInto = .parked)
    ∨ (s.enabledInto = .running ∨ s.enabledInto = .protect) := by
  unfold State.enabledInto
  split
  · exact .inl (.inl rfl)
  · cases s.pos.motion with
    | moving => exact .inr (.inl rfl)
    | stopped => exact .inr (.inr rfl)
    | parked => exact .inl (.inr rfl)

theorem enterState_state (z : Fin 16) (s v : State) : (enterState z s.enabledInto v).zones[z].state = s.enabledInto := by
  rcases enabledInto_cases s with waits | enters
  · rw [enterState_waits waits, modifyZone_get, if_pos rfl]
  · rw [enterState_enters enters]
    exact (entersService_enterService s.enabledInto v z).state

/-- Settles O27: ENABLE ZONE. -/
theorem enableZoneRequest : Obligations.EnableZoneRequest := by
  intro addr z s h q command into
  have isInto : into = s.enabledInto := rfl
  refine ⟨fun b above => exec_refused (r := .enableZone b) h (ownEnableZone_above above s),
    fun enabled well => exec_refused (r := .enableZone (byteOf z)) h ?_,
    fun out invalid => exec_refused (r := .enableZone (byteOf z)) h ?_, fun out valid => ?_⟩
  · exact (ownEnableZone_byteOf z s).trans (if_pos (refusesEnable_true enabled well))
  · refine (ownEnableZone_byteOf z s).trans ((if_neg ?_).trans (if_pos ?_))
    · rw [refusesEnable_false out]; exact Bool.false_ne_true
    · rw [invalid]; rfl
  · have taken : ownEnableZone (byteOf z) s
        = accept (enterState z into (clearMisses s.map.zones[z].channels s)) (nat1 into.code) := by
      refine (ownEnableZone_byteOf z s).trans ((if_neg ?_).trans (if_neg ?_))
      · rw [refusesEnable_false out]; exact Bool.false_ne_true
      · rw [valid]; exact Bool.false_ne_true
    obtain ⟨map, programs, pos, monitor, sup, link, -, -⟩ :=
      enterState_keeps z into (clearMisses s.map.zones[z].channels s)
    have cleared := clearMisses_drive s.map.zones[z].channels s
    obtain ⟨map', programs', pos', table', zones', monitor', sup', link', attn', -, -⟩ :=
      clearMisses_keeps s.map.zones[z].channels s
    refine ⟨_, exec_accepted (r := .enableZone (byteOf z)) h taken, enterState_state z s _, fun ch mem => ?_, fun y other => ?_,
      map.trans map', programs.trans programs', pos.trans pos', monitor.trans monitor', sup.trans sup', link.trans link',
      fun waits => ?_, fun enters => ?_⟩
    · rw [enterState_channels]
      exact clearMisses_channel (.inl mem)
    · rw [(othersKept_enterState z _ into).kept y other, zones']
    · rw [enterState_waits waits]
      refine ⟨?_, table', attn', ?_, ?_⟩
      · rw [modifyZone_get, if_pos rfl, zones']
      · rw [cleared]; rfl
      · rw [cleared]; rfl
    · rw [enterState_enters enters]
      exact (entersService_enterService into _ z).of_drive ⟨_, cleared⟩

/-! ### The restart timer (R88, R91, R116) -/

theorem restartTimerExpires_running (running : s.zones[z].restartTimer ≠ none) (free : s.sup.halted = false) :
    restartTimerExpires z s = restartExpires z s := by
  obtain ⟨k, timer⟩ := Option.ne_none_iff_exists'.1 running
  rw [restartTimerExpires, timer]
  exact if_neg (by rw [free]; exact Bool.false_ne_true)

/-- R88, R91: the state that the motion state gives a zone. -/
def Motion.brings : Motion → ZoneState
  | .moving => .running
  | .stopped => .protect
  | .parked => .parked

theorem restartExpires_enters (back : s.zones[z].state = .halted ∨ (s.zones[z].state = .parked ∧ s.pos.motion = .moving))
    (enters : s.pos.motion.brings ≠ .parked) : restartExpires z s = enterService z s.pos.motion.brings s := by
  unfold restartExpires
  rcases back with halted | ⟨parked, moving⟩
  · rw [halted]
    cases motion : s.pos.motion with
    | moving => rfl
    | stopped => rfl
    | parked => rw [motion] at enters; exact absurd rfl enters
  · rw [parked, moving]
    rfl

theorem restartExpires_parks (back : s.zones[z].state = .halted ∨ (s.zones[z].state = .parked ∧ s.pos.motion = .moving))
    (parks : s.pos.motion.brings = .parked) : restartExpires z s = leaveService z .parked s := by
  have motion : s.pos.motion = .parked := by
    cases motion : s.pos.motion with
    | moving => rw [motion] at parks; cases parks
    | stopped => rw [motion] at parks; cases parks
    | parked => rfl
  have halted : s.zones[z].state = .halted := back.resolve_right fun both => by
    rw [motion] at both
    cases both.2
  rw [restartExpires, halted, motion]

theorem EntersService.restartTimer {x : ZoneState} (h : EntersService s t z x) : t.zones[z].restartTimer = none := by
  obtain ⟨n, -, -, -, zone⟩ := h
  rw [zone]

/-- Settles O42: a restart timer expires. -/
theorem restartTimerExpires_settled : Obligations.RestartTimerExpires := by
  intro z s awake q command
  have expires : exec command s = .next (restartTimerExpires z s) := next_awake awake _
  refine ⟨fun idle => ?_, fun running free back => ?_⟩
  · rw [expires, restartTimerExpires, idle]
  · intro into
    have isInto : into = s.pos.motion.brings := rfl
    obtain ⟨map, programs, pos, monitor, sup, link, -, -⟩ := restartTimerExpires_keeps z s
    have others := othersKept_restartTimerExpires z s
    by_cases parks : s.pos.motion.brings = .parked
    · have taken := (restartTimerExpires_running running free).trans (restartExpires_parks back parks)
      have zone := leaveService_zone z s .parked
      refine ⟨_, expires, ?_, ?_, fun enters => absurd (isInto.trans parks) enters, fun _ => ⟨fun law => ?_, fun _ ch mem => ?_⟩,
        others.kept, map, programs, pos, monitor, sup, link⟩ <;> rw [taken]
      · rw [zone, isInto, parks]
      · rw [zone]
      · exact ⟨leavesService_leaveService .parked law.pends, fun table => releases_leaveService .parked table.indexes law.pends⟩
      · exact sends_leaveService (x := .parked) (by decide) mem
    · have taken := (restartTimerExpires_running running free).trans (restartExpires_enters back parks)
      have enters := entersService_enterService s.pos.motion.brings s z
      refine ⟨_, expires, ?_, ?_, fun _ => ?_, fun is => absurd (isInto.symm.trans is) parks, others.kept, map, programs, pos,
        monitor, sup, link⟩ <;> rw [taken]
      · exact enters.state
      · exact enters.restartTimer
      · exact enters

end Sys2Proof.Machine

/-! What the zones make of a change of motion state (R86 to R89): snapshots recomputed, and zones that park. -/

namespace Sys2Proof.Machine

variable {s t u : State} {z : Fin 16}

/-! ### One zone's turn -/

/-- R86, R89: the state that a zone takes with its UNSTARTED snapshot recomputed. -/
def Motion.recomputes : Motion → ZoneState → Option ZoneState
  | .stopped, .running => some .protect
  | .moving, .protect => some .running
  | _, _ => none

theorem tellMotion_recomputes {m : Motion} {x : ZoneState} (h : m.recomputes s.zones[z].state = some x) :
    tellMotion m s z = recompute z (s.modifyZone z fun q => { q with state := x }) := by
  unfold tellMotion
  generalize s.zones[z].state = st at h
  cases m <;> cases st <;> cases h <;> rfl

theorem recomputes_only {m : Motion} {x : ZoneState} (h : m.recomputes x ≠ none) {y : ZoneState}
    (k : m.recomputes y ≠ none) : x = y := by
  cases m <;> cases x <;> cases y <;> simp_all [Motion.recomputes]

theorem recomputes_tells (m : Motion) (delay : Nat) (q : ZoneState × Option Nat) :
    m.recomputes (m.tells delay q).1 = none := by
  obtain ⟨x, timer⟩ := q
  cases m <;> cases x <;> rfl

theorem counts_tells (m : Motion) (delay : Nat) (q : ZoneState × Option Nat) :
    (m.tells delay q).1.counts = q.1.counts := by
  obtain ⟨x, timer⟩ := q
  cases m <;> cases x <;> rfl

theorem state_tellMotion (m : Motion) (s : State) (z : Fin 16) :
    (tellMotion m s z).zones[z].state = (m.tells s.map.line.restartDelay s.zones[z].stand).1 :=
  congrArg Prod.fst (stand_tellMotion z s m)

/-- A zone that recomputes nothing, on a line that does not park, leaves the drive bus, the Carrier Table and the flags. -/
theorem tellMotion_still {m : Motion} (line : m ≠ .parked) (none : m.recomputes s.zones[z].state = none) :
    (tellMotion m s z).drive = s.drive ∧ (tellMotion m s z).table = s.table ∧ (tellMotion m s z).attn = s.attn := by
  unfold tellMotion
  generalize s.zones[z].state = st at none
  cases m
  case parked => exact absurd rfl line
  all_goals cases st <;> first | exact ⟨rfl, rfl, rfl⟩ | cases none

theorem tellMotion_table {m : Motion} (line : m ≠ .parked) : (tellMotion m s z).table = s.table := by
  by_cases none : m.recomputes s.zones[z].state = none
  · exact (tellMotion_still line none).2.1
  · obtain ⟨x, is⟩ := Option.ne_none_iff_exists'.1 none
    rw [tellMotion_recomputes is, (recompute_keeps ..).2.2.2.1]
    rfl

theorem alike_tellMotion {m : Motion} (line : m ≠ .parked) (s : State) (y : Fin 16) : Alike s (tellMotion m s y) := by
  obtain ⟨map, programs, pos, -, -, -, -, -⟩ := tellMotion_keeps m s y
  refine .of_zones map programs pos (tellMotion_table line) fun w => ?_
  by_cases here : w = y
  · subst here
    rw [state_tellMotion, counts_tells]
    rfl
  · rw [(othersKept_tellMotion y s m).kept w here]

/-! ### A snapshot recomputed (R79) -/

section
variable {older : List Snapshot} {n : Snapshot}

theorem recompute_last (pending : s.zones[z].pending = older ++ [n]) (un : n.phase = .unstarted)
    (others : ∀ o ∈ older, o.phase ≠ .unstarted) :
    let m := s.recomputedSnapshot z n
    (recompute z s).zones[z] = { s.zones[z] with
        pending := older ++ [m], lastA := m.lastOrder .A, lastB := m.lastOrder .B }
      ∧ (s.clampActs z m = true → (recompute z s).attn.isSet .limited = true)
      ∧ ((n.sides.map Side.channel).Nodup → (recompute z s).sendsOrders z m) := by
  intro m
  have passed : ∀ o ∈ older, o.isUnstarted = false := fun o mem => by
    rw [← Bool.not_eq_true, isUnstarted_iff]
    exact others o mem
  have found : s.zones[z].pending.find? Snapshot.isUnstarted = some n := by
    rw [pending]
    exact find?_append_cons passed (isUnstarted_iff.2 un)
  have again : recompute z s = postOrders z m (raiseLimited z m.mode n.sides s (s.modifyZone z fun q =>
      { q with pending := modifyFirst Snapshot.isUnstarted (fun _ => m) q.pending }.noteOrders m)) := by
    rw [recompute, found]
  have channels : m.sides.map Side.channel = n.sides.map Side.channel := by
    simp only [m, State.recomputedSnapshot, State.recomputedSide, List.map_map]
    exact List.map_congr_left fun d _ => rfl
  refine ⟨?_, fun acts => ?_, fun distinct => ?_⟩
  · rw [zone_of_bankSet (recompute_zones z s found), pending, modifyFirst_append passed (isUnstarted_iff.2 un)]
  · have clamped : (n.sides.any fun d => (s.setpoint m.mode z d.face d.channel d.entries).limited) = true := by
      rw [State.clampActs, show m.sides = n.sides.map fun d => s.recomputedSide z m.mode d from rfl, List.any_map] at acts
      exact acts
    rw [again, postOrders_attn, raiseLimited_eq, clamped]
    exact raiseFlag_isSet ..
  · rw [again]
    exact sends_postOrders m (channels ▸ distinct) _

end

/-! ### All zones told that the line stops or moves (R86, R88, R89) -/

/-- The zones that have a snapshot to recompute yet are as they were. -/
def FreshZones (m : Motion) (s u : State) : Prop := ∀ y : Fin 16, m.recomputes u.zones[y].state ≠ none → u.zones[y] = s.zones[y]

theorem FreshZones.tell {m : Motion} (h : FreshZones m s u) (y : Fin 16) : FreshZones m s (tellMotion m u y) := fun w some => by
  by_cases here : w = y
  · subst here
    rw [state_tellMotion, recomputes_tells] at some
    exact absurd rfl some
  · have kept := (othersKept_tellMotion y u m).kept w here
    rw [kept] at some ⊢
    exact h w some

/-- R79: no snapshot that is recomputed with this one has a side on a channel of its sides. -/
def Alone (s : State) (z : Fin 16) (n : Snapshot) : Prop :=
  ∀ y : Fin 16, y ≠ z → s.zones[y].state = s.zones[z].state → ∀ o ∈ s.zones[y].pending, o.phase = .unstarted →
    ∀ d ∈ n.sides, ∀ e ∈ o.sides, d.channel ≠ e.channel

/-- R79: the ORDERs of a recomputed snapshot stand while the other zones recompute theirs. -/
theorem sendsOrders_tellMotion {m : Motion} (line : m ≠ .parked) {n k : Snapshot} (alone : Alone s z n)
    (sides : k.sides.map Side.channel = n.sides.map Side.channel) (recomputed : m.recomputes s.zones[z].state ≠ none)
    (fresh : FreshZones m s u) {y : Fin 16} (other : y ≠ z) (sent : u.sendsOrders z k) :
    (tellMotion m u y).sendsOrders z k := by
  by_cases none : m.recomputes u.zones[y].state = none
  · exact sent.of_drive (tellMotion_still line none).1
  · obtain ⟨x, is⟩ := Option.ne_none_iff_exists'.1 none
    rw [tellMotion_recomputes is]
    cases found : (u.modifyZone y fun q => { q with state := x }).zones[y].pending.find? Snapshot.isUnstarted with
    | none =>
      rw [recompute_of_none y _ found]
      exact sent.of_drive rfl
    | some o =>
      have same := fresh y none
      have inS : o ∈ s.zones[y].pending := by
        have mem := List.mem_of_find?_eq_some found
        rw [modifyZone_get, if_pos rfl] at mem
        rw [← same]
        exact mem
      have un : o.phase = .unstarted := isUnstarted_iff.1 (List.find?_some found)
      have state : s.zones[y].state = s.zones[z].state :=
        recomputes_only (m := m) (by rw [← same]; exact none) recomputed
      intro d mem
      obtain ⟨flush, sent⟩ := sent d mem
      obtain ⟨e, inN, onE⟩ := List.mem_map.1 (sides ▸ List.mem_map_of_mem mem : d.channel ∈ n.sides.map Side.channel)
      refine ⟨flush, ?_⟩
      rw [recompute, found]
      refine sends_postOrders_other _ (sent.of_drive (raiseLimited_keeps ..).2.2.2.2.2.1) fun f inF same => ?_
      obtain ⟨g, inO, rfl⟩ := List.mem_map.1 inF
      have clash : d.channel = g.channel := QueuePlace.order.inj same
      exact alone y other state o inS un e inN g inO (onE.trans clash)

/-- R79, R86, R89: a zone recomputes its UNSTARTED snapshot while all zones are told, and what follows leaves its
sequencer, the flags set and the drive bus. -/
theorem recomputed_told {m : Motion} (line : m ≠ .parked) {v : State} {x : ZoneState}
    (some : m.recomputes s.zones[z].state = some x) (map : v.map = s.map) (programs : v.programs = s.programs)
    (table : v.table = s.table) (zones : v.zones = s.zones) (pos : t.pos = v.pos)
    (zone : t.zones[z] = (zoneNumbers.foldl (tellMotion m) v).zones[z])
    (drive : t.drive = (zoneNumbers.foldl (tellMotion m) v).drive)
    (limited : (zoneNumbers.foldl (tellMotion m) v).attn.isSet .limited = true → t.attn.isSet .limited = true) :
    Recomputed s t z x := by
  intro older n pending un others a k
  have state : a.zones[z].state = x := by
    simp only [a, bankSet_get, if_pos]
  have alike {w : State} (h : Alike v w) (own : w.zones[z] = s.zones[z]) :
      Alike a (w.modifyZone z fun q => { q with state := x }) := by
    refine ⟨h.map.trans map, h.programs.trans programs, h.pos.trans pos.symm, h.table.trans table, fun y => ?_⟩
    rw [zoneIsLive_eq, zoneIsLive_eq, modifyZone_get]
    by_cases here : y = z
    · subst here
      rw [if_pos rfl, state]
      simp only [a, State.modifyZone, State.withZones, h.map, map]
    · rw [if_neg here]
      have live := h.live y
      rw [zoneIsLive_eq, zoneIsLive_eq] at live
      simp only [a, bankSet_get, if_neg here, ← zones, ← map]
      exact live
  have isK {w : State} (h : Alike v w) (own : w.zones[z] = s.zones[z]) :
      (w.modifyZone z fun q => { q with state := x }).recomputedSnapshot z n = k := by
    have same := alike h own
    have stateW : (w.modifyZone z fun q => { q with state := x }).zones[z].state = x := by rw [modifyZone_get, if_pos rfl]
    simp only [State.recomputedSnapshot, State.recomputedSide, State.profileOf, same.setpoint, same.map, stateW]
    rfl
  have sides : k.sides.map Side.channel = n.sides.map Side.channel := by
    simp only [k, List.map_map]
    exact List.map_congr_left fun d _ => rfl
  have recomputed : m.recomputes s.zones[z].state ≠ none := by rw [some]; exact Option.some_ne_none _
  obtain ⟨zoneEnd, acts, sends, -⟩ := foldl_visit (f := tellMotion m) (s := v) z
    (Ready := fun w => Alike v w ∧ w.zones[z] = s.zones[z] ∧ FreshZones m s w)
    (Done := fun w => w.zones[z] = { s.zones[z] with
        state := x, pending := older ++ [k], lastA := k.lastOrder .A, lastB := k.lastOrder .B }
      ∧ (a.clampActs z k = true → w.attn.isSet .limited = true)
      ∧ ((n.sides.map Side.channel).Nodup → Alone s z n → w.sendsOrders z k)
      ∧ FreshZones m s w)
    (fun w y other ⟨like, own, fresh⟩ => ⟨like.trans (alike_tellMotion line w y),
      ((othersKept_tellMotion y w m).kept z other.symm).trans own, fresh.tell y⟩)
    (fun w ⟨like, own, fresh⟩ => by
      have turn := tellMotion_recomputes (s := w) (z := z) (m := m) (x := x) (by rw [own]; exact some)
      obtain ⟨zone, clamps, orders⟩ := recompute_last (s := w.modifyZone z fun q => { q with state := x }) (z := z) (n := n)
        (older := older) (by rw [modifyZone_get, if_pos rfl, own]; exact pending) un others
      rw [isK like own] at zone clamps orders
      rw [(alike like own).clampActs] at clamps
      rw [modifyZone_get, if_pos rfl, own] at zone
      refine ⟨by rw [turn]; exact zone, by rw [turn]; exact clamps, fun distinct _ => by rw [turn]; exact orders distinct,
        fresh.tell z⟩)
    (fun w y other ⟨own, clamps, orders, fresh⟩ => ⟨((othersKept_tellMotion y w m).kept z other.symm).trans own,
      fun act => (works_tellMotion y w m).attn.isSet_stays (clamps act),
      fun distinct alone => sendsOrders_tellMotion line alone sides recomputed fresh other (orders distinct alone), fresh.tell y⟩)
    ⟨.refl v, by rw [zones], fun y _ => by rw [zones]⟩
  exact ⟨zone.trans zoneEnd, fun act => limited (acts act), fun distinct alone => (sends distinct alone).of_drive drive⟩

end Sys2Proof.Machine

/-! The expiries of the stop and park timers (R38, R40, R86, R87). -/

namespace Sys2Proof.Machine

variable {s t u : State} {z : Fin 16}

/-! ### A line that parks (R87) -/

theorem tellParked_protect (h : s.zones[z].state = .protect) : tellMotion .parked s z = leaveService z .parked s := by
  unfold tellMotion
  rw [h]

theorem tellParked_other (h : s.zones[z].state ≠ .protect) : tellMotion .parked s z = s := by
  unfold tellMotion
  generalize s.zones[z].state = x at h
  cases x with
  | protect => exact absurd rfl h
  | running => rfl
  | parked => rfl
  | halted => rfl
  | disabled => rfl
  | faulted => rfl

theorem aside_tellParked {y : Fin 16} (other : y ≠ z) (s : State) : Aside z s (tellMotion .parked s y) := by
  by_cases protect : s.zones[y].state = .protect
  · rw [tellParked_protect protect]
    exact aside_leaveService other _ s
  · rw [tellParked_other protect]
    exact .of_same rfl rfl

/-- R87: the entries that a zone releases when the line parks. -/
def State.parkEntries (s : State) (z : Fin 16) : List Entry :=
  if s.zones[z].state = .protect then s.discardedEntries z else []

theorem Aside.parkEntries (h : Aside z s t) : t.parkEntries z = s.parkEntries z := by
  rw [State.parkEntries, State.parkEntries, h.zone, h.discardedEntries]

theorem releases_tellParked (law : (s.table.live.map Record.index).Nodup) (h : ServiceLaw s.zones[z]) :
    Releases s (tellMotion .parked s z) (s.parkEntries z) := by
  unfold State.parkEntries
  split
  case isTrue protect =>
    rw [tellParked_protect protect]
    exact releases_leaveService .parked law h.pends
  case isFalse other =>
    rw [tellParked_other other]
    exact .of_same rfl rfl

theorem serviceLaws_tellMotion (m : Motion) (h : ∀ z : Fin 16, ServiceLaw s.zones[z]) (y : Fin 16) :
    ∀ z : Fin 16, ServiceLaw (tellMotion m s y).zones[z] := fun z => by
  by_cases same : z = y
  · subst same
    exact serviceLaw_tellMotion z s m (h z)
  · rw [(othersKept_tellMotion y s m).kept z same]
    exact h z

/-- R41: the state on which the zones are told of a change of motion state. -/
def State.moved (s : State) (p : Position) : State := raise .motion (s.withPos p)

theorem changeMotion_eq (m : Motion) (p : Position) (s : State) :
    changeMotion m (s.withPos p) = zoneNumbers.foldl (tellMotion m) (s.moved p) := rfl

theorem aside_moved (z : Fin 16) (p : Position) (s : State) : Aside z s (s.moved p) := .of_same rfl rfl

theorem works_moved (p : Position) (s : State) : Works [.motion] s (s.moved p) := by
  have placed : Works [.motion] s (s.withPos p) := .of_same rfl rfl rfl rfl
  exact placed.trans (works_raise (List.mem_singleton_self .motion) (s.withPos p))

theorem motion_raised (m : Motion) (p : Position) (s : State) :
    (changeMotion m (s.withPos p)).attn.isSet .motion = true := by
  rw [changeMotion_eq]
  exact (works_foldl (f := tellMotion m) (fun t y => works_tellMotion y t m) zoneNumbers (s.moved p)).attn.isSet_stays
    (raiseFlag_isSet ..)

theorem withPos_pos {p : Position} : (s.withPos p).pos = p := rfl

/-- R87: what a parking line makes of each zone. -/
theorem parked_zone (p : Position) (awake : s.inReset = false) (z : Fin 16) :
    ∃ u, ((QueueLaw s → QueueLaw u) ∧ u.map = s.map) ∧ Aside z s u
      ∧ Aside z (tellMotion .parked u z) (changeMotion .parked (s.withPos p)) := by
  obtain ⟨u, ⟨-, law⟩, before, after⟩ := foldl_aside (s := s.moved p) (f := tellMotion .parked)
    (Law := fun u => u.inReset = false ∧ ((QueueLaw s → QueueLaw u) ∧ u.map = s.map)) z
    (fun u y other => aside_tellParked other u)
    (fun u y ⟨still, lawful, map⟩ => ⟨by simpa using still,
      fun law => (works_tellMotion y u .parked).queueLaw still (by simp) (lawful law), by simpa using map⟩)
    ⟨awake, (works_moved p s).queueLaw awake rfl, rfl⟩
  exact ⟨u, law, (aside_moved z p s).trans before, after⟩

/-- R66, R87: what a parking line releases. -/
theorem releases_parked (p : Position) (table : TableLaw s) (zones : ∀ z : Fin 16, ServiceLaw s.zones[z]) :
    Releases s (changeMotion .parked (s.withPos p)) (zoneNumbers.flatMap s.parkEntries) := by
  have told := foldl_releases (s := s.moved p) (f := tellMotion .parked) (E := State.parkEntries)
    (Law := fun u => TableLaw u ∧ ∀ z : Fin 16, ServiceLaw u.zones[z])
    (fun u y h => ⟨(works_tellMotion y u .parked).tableLaw h.1, serviceLaws_tellMotion .parked h.2 y⟩)
    (fun u y h => releases_tellParked h.1.indexes (h.2 y))
    (fun u y z other => (aside_tellParked other u).parkEntries)
    ⟨table.of_table rfl, zones⟩
  have entries : (s.moved p).parkEntries = s.parkEntries := funext fun z => (aside_moved z p s).parkEntries
  rw [entries] at told
  rw [changeMotion_eq]
  exact ⟨told.table, told.shortfall.trans
    (congrArg (· || _) (isSet_raiseFlag_other (a := s.attn) (e := .motion) (f := .shortfall) (by decide)))⟩

theorem channels_apart {m : LineMap} (distinct : m.channelUses.Nodup) {y z : Fin 16} (other : y ≠ z) {c : Fin 32}
    (onY : c ∈ m.zones[y].channels) (onZ : c ∈ m.zones[z].channels) : False := by
  have apart := (List.nodup_flatMap.1 distinct).2
  have symm : Std.Symm (Function.onFun List.Disjoint fun z : Fin 16 => m.zones[z].channels) := ⟨fun _ _ h => h.symm⟩
  exact apart.forall (List.mem_finRange y) (List.mem_finRange z) other onY onZ

/-- R83, R87: the STOPs of a zone that parks. -/
theorem sends_parked (p : Position) (distinct : s.map.channelUses.Nodup) (protect : s.zones[z].state = .protect)
    {c : Fin 32} (mem : c ∈ s.map.zones[z].channels) :
    (changeMotion .parked (s.withPos p)).sends (.stop c (some z)) := by
  have own (u : State) (map : u.map = s.map) (zone : u.zones[z] = s.zones[z]) :
      (tellMotion .parked u z).sends (.stop c (some z)) := by
    rw [tellParked_protect (by rw [zone]; exact protect)]
    exact sends_leaveService (x := .parked) (by decide) (by rw [map]; exact mem)
  have others (u : State) (y : Fin 16) (other : y ≠ z) (map : u.map = s.map) (sent : u.sends (.stop c (some z))) :
      (tellMotion .parked u y).sends (.stop c (some z)) := by
    by_cases leaves : u.zones[y].state = .protect
    · rw [tellParked_protect leaves]
      refine sends_leaveService_kept .parked sent (fun _ _ => rfl) (fun _ => rfl) fun d onY same => ?_
      have clash : c = d := QueuePlace.order.inj same
      rw [map] at onY
      exact channels_apart distinct other (clash ▸ onY) mem
    · rw [tellParked_other leaves]
      exact sent
  have told := foldl_visit (f := tellMotion .parked) (s := s.moved p) z
    (Ready := fun u => u.map = s.map ∧ u.zones[z] = s.zones[z])
    (Done := fun u => u.map = s.map ∧ u.sends (.stop c (some z)))
    (fun u y other ⟨map, zone⟩ => ⟨by simpa using map, (aside_tellParked other u).zone.trans zone⟩)
    (fun u ⟨map, zone⟩ => ⟨by simpa using map, own u map zone⟩)
    (fun u y other ⟨map, sent⟩ => ⟨by simpa using map, others u y other map sent⟩)
    ⟨rfl, rfl⟩
  exact told.2

/-! ### The expiries -/

theorem stopTimerExpires_moving (moving : s.pos.motion = .moving) (running : s.pos.stopTimer ≠ none) :
    stopTimerExpires s = changeMotion .stopped (s.withPos { s.pos with
      motion := .stopped, stopMark := some s.pos.count, stopTimer := none, parkTimer := some s.map.line.parkTime }) := by
  obtain ⟨k, timer⟩ := Option.ne_none_iff_exists'.1 running
  rw [stopTimerExpires, moving, timer]

theorem parkTimerExpires_stopped (stopped : s.pos.motion = .stopped) (running : s.pos.parkTimer ≠ none) :
    parkTimerExpires s = changeMotion .parked (s.withPos { s.pos with motion := .parked, parkTimer := none }) := by
  obtain ⟨k, timer⟩ := Option.ne_none_iff_exists'.1 running
  rw [parkTimerExpires, stopped, timer]

theorem stopTimerExpires_idle (idle : s.pos.motion ≠ .moving ∨ s.pos.stopTimer = none) : stopTimerExpires s = s := by
  unfold stopTimerExpires
  split
  case h_1 moving timer => exact absurd idle (by simp [moving, timer])
  case h_2 => rfl

theorem parkTimerExpires_idle (idle : s.pos.motion ≠ .stopped ∨ s.pos.parkTimer = none) : parkTimerExpires s = s := by
  unfold parkTimerExpires
  split
  case h_1 stopped timer => exact absurd idle (by simp [stopped, timer])
  case h_2 => rfl

theorem changeMotion_table {m : Motion} (line : m ≠ .parked) (p : Position) (s : State) :
    (changeMotion m (s.withPos p)).table = s.table := by
  rw [changeMotion_eq]
  exact foldl_keeps (tellMotion m) State.table (fun u y => tellMotion_table line) zoneNumbers (s.moved p)

theorem stand_fst (q : Sequencer) : q.stand.1 = q.state := rfl

theorem stand_snd (q : Sequencer) : q.stand.2 = q.restartTimer := rfl

theorem changeMotion_state (m : Motion) (p : Position) (s : State) (z : Fin 16) :
    (changeMotion m (s.withPos p)).zones[z].state = (m.tells s.map.line.restartDelay s.zones[z].stand).1 := by
  rw [← stand_fst, stand_changeMotion]
  rfl

theorem tells_stopped (delay : Nat) (q : Sequencer) :
    (Motion.tells delay .stopped q.stand).1 = if q.state = .running then .protect else q.state := by
  rw [Sequencer.stand]
  cases q.state <;> rfl

theorem tells_parked (delay : Nat) (q : Sequencer) :
    (Motion.tells delay .parked q.stand).1 = if q.state = .protect then .parked else q.state := by
  rw [Sequencer.stand]
  cases q.state <;> rfl

/-- Settles O38: the stop timer's expiry and the park timer's. -/
theorem motionTimersExpire : Obligations.MotionTimersExpire := by
  intro s awake
  have stops : exec .stopTimerExpiry s = .next (stopTimerExpires s) := next_awake awake _
  have parks : exec .parkTimerExpiry s = .next (parkTimerExpires s) := next_awake awake _
  refine ⟨fun moving running => ?_, fun stopped running => ?_, fun idle => by rw [stops, stopTimerExpires_idle idle],
    fun idle => by rw [parks, parkTimerExpires_idle idle]⟩
  · rw [stopTimerExpires_moving moving running] at stops
    generalize ({ s.pos with motion := .stopped, stopMark := some s.pos.count, stopTimer := none,
                                   parkTimer := some s.map.line.parkTime } : Position) = p at stops ⊢
    obtain ⟨map, programs, pos, monitor, sup, link, -, -⟩ := changeMotion_keeps .stopped (s.withPos p)
    refine ⟨_, stops, pos.trans withPos_pos, motion_raised .stopped p s, fun z => ?_, fun z run => ?_, fun z parked => ?_, map,
      programs, changeMotion_table (by decide) p s, monitor, sup, link⟩
    · rw [changeMotion_state, tells_stopped]
    · exact recomputed_told (m := .stopped) (v := s.moved p) (by decide) (by rw [run]; rfl) rfl rfl rfl rfl pos rfl rfl id
    · rw [← stand_snd, stand_changeMotion, show (s.withPos p).zones[z].stand = _ from stand_of_state parked]
      rfl
  · rw [parkTimerExpires_stopped stopped running] at parks
    generalize ({ s.pos with motion := .parked, parkTimer := none } : Position) = p at parks ⊢
    obtain ⟨map, programs, pos, monitor, sup, link, -, -⟩ := changeMotion_keeps .parked (s.withPos p)
    refine ⟨_, parks, pos.trans withPos_pos, motion_raised .parked p s, fun z => ?_, fun z protect => ?_,
      fun table zones => releases_parked p table zones, map, programs, monitor, sup, link⟩
    · rw [changeMotion_state, tells_parked]
    · obtain ⟨u, ⟨law, -⟩, before, after⟩ := parked_zone p awake z
      rw [tellParked_protect (by rw [before.zone]; exact protect)] at after
      have zone := after.zone.trans (leaveService_zone z u .parked)
      rw [before.zone] at zone
      refine ⟨by rw [zone], by rw [zone], fun n mem => ?_, fun service => ?_, fun distinct c mem => sends_parked p distinct protect mem⟩
      · rw [zone] at mem
        have old := (leftPending_sublist z u).subset mem
        rw [before.zone] at old
        exact old
      · exact (leavesService_leaveService .parked (before.zone ▸ service.pends)).within before law after

end Sys2Proof.Machine

/-! A quadrature step (R35 to R39, R50 to R52). -/

namespace Sys2Proof.Machine

variable {s t u : State} {z : Fin 16}

/-! ### Both watches (R50 to R52) -/

/-- R50 to R52: both watches, the plating-end watch first. -/
def watchBoth (s : State) : State := exitWindowWatchAll (platingEndWatchAll s)

theorem watchBoth_eq (s : State) : watchBoth s = testWatches true true s := rfl

theorem watchBoth_keeps (s : State) : (watchBoth s).map = s.map ∧ (watchBoth s).programs = s.programs
    ∧ (watchBoth s).pos = s.pos ∧ (watchBoth s).zones = s.zones ∧ (watchBoth s).drive = s.drive
    ∧ (watchBoth s).monitor = s.monitor ∧ (watchBoth s).sup = s.sup ∧ (watchBoth s).link = s.link := by
  simp [watchBoth]

theorem works_watchBoth (s : State) : Works [.shortfall, .missedExit] s (watchBoth s) :=
  ((works_platingEndWatchAll s).mono (by simp)).trans ((works_exitWindowWatchAll _).mono (by simp))

theorem watchedBy_true (s : State) : s.watchedBy true true = s.watched := rfl

/-- What both watches make of the Carrier Table and of their two flags. -/
theorem watchBoth_table (distinct : (s.table.live.map Record.index).Nodup) :
    (watchBoth s).table = { s.table with live := s.table.live.map s.watched }
      ∧ (watchBoth s).attn.isSet .missedExit = (s.attn.isSet .missedExit || s.table.live.any s.losesSight)
      ∧ (watchBoth s).attn.isSet .shortfall = (s.attn.isSet .shortfall || s.table.live.any fun r =>
          s.plates r && ({ r with platingClosed := true } : Record).fallsShort) := by
  rw [watchBoth_eq, testWatches_eq distinct, watchedBy_true]
  refine ⟨?_, ?_, ?_⟩
  · rw [(raiseIf_keeps ..).2.2.2.1, (raiseIf_keeps ..).2.2.2.1]
    rfl
  · rw [isSet_raiseIf, raiseIf_attn, isSet_raised]
    simp [State.withLive, State.withTable]
  · rw [raiseIf_attn, isSet_raised, isSet_raiseIf]
    simp [State.withLive, State.withTable, State.shortened]

theorem watched_of_same (map : t.map = s.map) (pos : t.pos = s.pos) : t.watched = s.watched := by
  funext r
  rw [State.watched, State.watched, losesSight_of_same map pos, plated_of_same map pos]

/-! ### What a pulse does to the motion state (R38, R39) -/

theorem pulseMotion_moving (moving : s.pos.motion = .moving) :
    pulseMotion s = s.withPos { s.pos with stopTimer := some s.map.line.stopTime } := by
  unfold pulseMotion
  split
  case h_1 => rfl
  case h_2 other => exact absurd moving other
  case h_3 other => exact absurd moving other

theorem pulseMotion_halted (still : s.pos.motion ≠ .moving) {mark : Count} (stopMark : s.pos.stopMark = some mark) :
    pulseMotion s = if resumes s.map.line s.pos.count mark then resumeMotion s else s := by
  unfold pulseMotion
  split
  case h_1 moving => exact absurd moving still
  case h_2 k is _ =>
    rw [Option.some.inj (is.symm.trans stopMark)]
  case h_3 is _ => cases stopMark.symm.trans is

theorem pulseMotion_table (s : State) : (pulseMotion s).table = s.table := by
  unfold pulseMotion
  split
  · rfl
  · split
    · exact changeMotion_table (by decide) _ s
    · rfl
  · rfl

theorem pulseMotion_idle (still : s.pos.motion ≠ .moving) (none : s.pos.stopMark = none) : pulseMotion s = s := by
  unfold pulseMotion
  split
  case h_1 moving => exact absurd moving still
  case h_2 k is _ => cases none.symm.trans is
  case h_3 => rfl

/-- The count, the direction, the levels, the sensors and the speed are the step's own. -/
theorem pulseMotion_pos (s : State) : (pulseMotion s).pos = { s.pos with
    motion := (pulseMotion s).pos.motion, stopMark := (pulseMotion s).pos.stopMark
    stopTimer := (pulseMotion s).pos.stopTimer, parkTimer := (pulseMotion s).pos.parkTimer } := by
  by_cases moving : s.pos.motion = .moving
  · rw [pulseMotion_moving moving]
    rfl
  · cases stopMark : s.pos.stopMark with
    | none => rw [pulseMotion_idle moving stopMark]
    | some mark =>
      rw [pulseMotion_halted moving stopMark]
      split
      · rw [resumeMotion, (changeMotion_keeps ..).2.2.1]
        rfl
      · rfl

/-! ### The zones of a line that resumes (R88, R89) -/

theorem tellMoving_parked (h : s.zones[z].state = .parked) : tellMotion .moving s z
    = s.modifyZone z fun q => { q with restartTimer := some s.map.line.restartDelay } := by
  unfold tellMotion
  rw [h]

theorem tellMoving_other (notParked : s.zones[z].state ≠ .parked) (notProtect : s.zones[z].state ≠ .protect) :
    tellMotion .moving s z = s := by
  unfold tellMotion
  generalize s.zones[z].state = x at notParked notProtect
  cases x with
  | protect => exact absurd rfl notProtect
  | parked => exact absurd rfl notParked
  | running => rfl
  | halted => rfl
  | disabled => rfl
  | faulted => rfl

theorem resumed_zone (p : Position) (s : State) (z : Fin 16) :
    (s.zones[z].state = .parked → (changeMotion .moving (s.withPos p)).zones[z]
        = { s.zones[z] with restartTimer := some s.map.line.restartDelay })
      ∧ (s.zones[z].state ≠ .parked → s.zones[z].state ≠ .protect →
        (changeMotion .moving (s.withPos p)).zones[z] = s.zones[z]) := by
  obtain ⟨before, after, -, own, last⟩ := foldl_zones (f := tellMotion .moving)
    (fun u y => othersKept_tellMotion y u .moving) (s.moved p) z
  have same : (before.foldl (tellMotion .moving) (s.moved p)).zones[z] = s.zones[z] := own
  have map : (before.foldl (tellMotion .moving) (s.moved p)).map = s.map :=
    foldl_keeps (tellMotion .moving) State.map (fun u y => (tellMotion_keeps .moving u y).1) before (s.moved p)
  rw [changeMotion_eq, last]
  refine ⟨fun parked => ?_, fun notParked notProtect => ?_⟩
  · rw [tellMoving_parked (by rw [same]; exact parked), modifyZone_get, if_pos rfl, same, map]
  · rw [tellMoving_other (by rw [same]; exact notParked) (by rw [same]; exact notProtect), same]

/-- R39: the position of a line that has resumed. -/
def State.resumed (s : State) : Position := { s.pos with
  motion := .moving, stopMark := none, parkTimer := none, stopTimer := some s.map.line.stopTime }

theorem resumeMotion_eq (s : State) : resumeMotion s = changeMotion .moving (s.withPos s.resumed) := rfl

theorem stepsForward_eq (swapped : Bool) (sense : QuadSense) : stepsForward swapped sense = ((sense == .aLeads) != swapped) := by
  cases sense <;> cases swapped <;> rfl

/-- R35: a step in a sense moves one of the two levels. -/
theorem nextPair_moves (sense : QuadSense) (a b : Bool) :
    (((nextPair sense a b).1 ≠ a ∧ (nextPair sense a b).2 = b) ∨ ((nextPair sense a b).1 = a ∧ (nextPair sense a b).2 ≠ b))
      ∧ ((sense = .aLeads ↔ a = b) ↔ (nextPair sense a b).1 ≠ a) := by
  cases sense <;> cases a <;> cases b <;> decide

/-- Settles O36: a quadrature step. -/
theorem encoderPulseCounts : Obligations.EncoderPulseCounts := by
  intro sense s awake forward count
  have steps : exec (.encoderPulse sense) s = .next (watchBoth (pulseMotion (s.withPos (s.pos.stepped s.map.line.swapped sense)))) :=
    next_awake awake _
  generalize isP : s.pos.stepped s.map.line.swapped sense = p at steps
  have isForward : forward = stepsForward s.map.line.swapped sense := (stepsForward_eq ..).symm
  have pCount : p.count = count := by rw [← isP]; simp only [Position.stepped, ← isForward]; rfl
  have pDirection : p.direction = if forward then .forward else .reverse := by
    rw [← isP]; simp only [Position.stepped, ← isForward]
  have pair : (p.encA, p.encB) = nextPair sense s.pos.encA s.pos.encB := by rw [← isP]; rfl
  have moves := nextPair_moves sense s.pos.encA s.pos.encB
  rw [← pair] at moves
  have pMotion : p.motion = s.pos.motion ∧ p.stopMark = s.pos.stopMark ∧ p.stopTimer = s.pos.stopTimer
      ∧ p.parkTimer = s.pos.parkTimer ∧ p.entry = s.pos.entry ∧ p.exit = s.pos.exit ∧ p.speed = s.pos.speed := by
    rw [← isP]; exact ⟨rfl, rfl, rfl, rfl, rfl, rfl, rfl⟩
  obtain ⟨motionP, markP, stopP, parkP, entryP, exitP, speedP⟩ := pMotion
  have table := pulseMotion_table (s.withPos p)
  have works := works_pulseMotion (s.withPos p)
  have pos := pulseMotion_pos (s.withPos p)
  obtain ⟨mapW, programsW, monitorW, supW, linkW, -, -⟩ := pulseMotion_keeps (s.withPos p)
  obtain ⟨map, programs, posT, zones, drive, monitor, sup, link⟩ := watchBoth_keeps (pulseMotion (s.withPos p))
  have posP := posT.trans pos
  refine ⟨_, steps, by rw [posP]; exact pCount, by rw [posP]; exact pDirection, by rw [posP]; exact moves.1,
    by rw [posP]; exact moves.2, by rw [posP]; exact entryP, by rw [posP]; exact exitP, by rw [posP]; exact speedP,
    map.trans mapW, programs.trans programsW, monitor.trans monitorW, sup.trans supW, link.trans linkW, fun law => ?_,
    fun moving => ?_, fun still mark stopMark => ⟨fun reached => ?_, fun short => ?_⟩⟩
  · have distinct : ((pulseMotion (s.withPos p)).table.live.map Record.index).Nodup := by rw [table]; exact law.indexes
    have watched := watchBoth_table distinct
    rw [table, works.attn.isSet_other (by decide), works.attn.isSet_other (by decide), ← watched_of_same map posT,
      ← losesSight_of_same map posT, ← plates_of_same map posT] at watched
    exact watched
  · have moved := pulseMotion_moving (s := s.withPos p) (motionP.trans moving)
    rw [posT, zones, drive, moved]
    exact ⟨motionP.trans moving, markP, rfl, rfl, rfl⟩
  · have halted := pulseMotion_halted (s := s.withPos p) (by rw [withPos_pos, motionP]; exact still) (markP.trans stopMark)
    have resume : resumes s.map.line p.count mark = true := by rw [resumes, pCount]; exact decide_eq_true reached
    have eq : pulseMotion (s.withPos p) = changeMotion .moving (s.withPos (s.withPos p).resumed) :=
      (halted.trans (if_pos resume)).trans (resumeMotion_eq _)
    rw [eq] at posT zones drive ⊢
    have posR : (watchBoth (changeMotion .moving (s.withPos (s.withPos p).resumed))).pos = (s.withPos p).resumed :=
      posT.trans ((changeMotion_keeps ..).2.2.1.trans withPos_pos)
    generalize isR : (s.withPos p).resumed = r at posT zones drive posR ⊢
    have watched := works_watchBoth (changeMotion .moving (s.withPos r))
    refine ⟨by rw [posR, ← isR]; rfl, by rw [posR, ← isR]; rfl, by rw [posR, ← isR]; rfl, by rw [posR, ← isR]; rfl,
      watched.attn.isSet_stays (motion_raised .moving r s), fun z => ?_⟩
    obtain ⟨parked, others⟩ := resumed_zone r s z
    have limited (set : (changeMotion .moving (s.withPos r)).attn.isSet .limited = true) :
        (watchBoth (changeMotion .moving (s.withPos r))).attn.isSet .limited = true := watched.attn.isSet_stays set
    split
    case h_1 st => rw [zones]; exact parked st
    case h_2 st =>
      exact recomputed_told (m := .moving) (v := s.moved r) (by decide) (by rw [st]; rfl) rfl rfl rfl rfl posR
        (by rw [zones, changeMotion_eq]) (by rw [drive, changeMotion_eq]) limited
    case h_3 notParked notProtect => rw [zones]; exact others notParked notProtect
  · have halted := pulseMotion_halted (s := s.withPos p) (by rw [withPos_pos, motionP]; exact still) (markP.trans stopMark)
    have stays : ¬ resumes s.map.line p.count mark = true := by
      rw [resumes, pCount, decide_eq_true_eq]
      exact Nat.not_le_of_lt short
    have eq : pulseMotion (s.withPos p) = s.withPos p := halted.trans (if_neg stays)
    rw [posT, zones, drive, eq]
    exact ⟨motionP, markP.trans stopMark, parkP, stopP, rfl, rfl⟩

end Sys2Proof.Machine

/-! The late sides of a snapshot that is started (R81, step 3). -/

namespace Sys2Proof.Machine

variable {s t u : State} {z : Fin 16}

/-! ### ORDERs that wait -/

theorem waits_isOrder_iff {c : Fin 32} {seq : BitVec 8} : waits (isOrder c seq) s = true
    ↔ ∃ i ∈ s.drive.queue, isOrder c seq i = true := by
  rw [waits, List.any_eq_true]

/-- R129: a MARK posted leaves the ORDERs that wait. -/
theorem waits_postMark (n : Snapshot) (c : Fin 32) (seq : BitVec 8) :
    waits (isOrder c seq) (postItem (markItem z n) s) = waits (isOrder c seq) s := by
  rw [Bool.eq_iff_iff, waits_isOrder_iff, waits_isOrder_iff]
  constructor
  · rintro ⟨i, mem, is⟩
    rcases mem_postItem mem with old | rfl | ⟨old, -, -, rfl⟩
    · exact ⟨i, old, is⟩
    · cases is
    · cases is
  · rintro ⟨i, mem, is⟩
    exact ⟨i, mem_postItem_other mem (by rw [place_of_isOrder is]; exact nofun), is⟩

/-- R130: the withdrawal of an ORDER leaves those of the other channels. -/
theorem waits_withdraw_other {c d : Fin 32} (other : d ≠ c) (seq : BitVec 8) :
    waits (isOrder d seq) (withdraw (isOrder c seq) s) = waits (isOrder d seq) s := by
  rw [Bool.eq_iff_iff, waits_isOrder_iff, waits_isOrder_iff]
  constructor
  · rintro ⟨i, mem, is⟩
    exact ⟨i, (queueShrinks_withdraw _ s).sub.subset mem, is⟩
  · rintro ⟨i, mem, is⟩
    refine ⟨i, mem_removeFirst_other mem ?_, is⟩
    rw [← Bool.not_eq_true]
    intro both
    have places := (place_of_isOrder is).symm.trans (place_of_isOrder both)
    exact other (QueuePlace.order.inj places)

/-! ### One side's turn -/

theorem lateSide_waiting {n : Snapshot} {d : Side} (waiting : waits (isOrder d.channel n.seq) s = true) :
    (lateSide z n s d).attn.isSet .late = true := by
  rw [lateSide, if_pos waiting]
  exact raiseFlag_isSet ..

theorem lateSide_sent {n : Snapshot} {d : Side} (sent : waits (isOrder d.channel n.seq) s = false) : lateSide z n s d = s := by
  rw [lateSide, if_neg (by rw [sent]; exact Bool.false_ne_true)]

theorem lateSide_drive (n : Snapshot) (d : Side) : (lateSide z n s d).drive = (withdraw (isOrder d.channel n.seq) s).drive := by
  cases waiting : waits (isOrder d.channel n.seq) s with
  | true =>
    rw [lateSide, if_pos waiting]
    rfl
  | false =>
    have none : removeFirst (isOrder d.channel n.seq) s.drive.queue = s.drive.queue :=
      removeFirst_none fun i mem => by simpa using List.any_eq_false.1 waiting i mem
    rw [lateSide_sent waiting, withdraw, none]
    rfl

theorem waits_lateSide {n : Snapshot} {d e : Side} (other : e.channel ≠ d.channel) :
    waits (isOrder e.channel n.seq) (lateSide z n s d) = waits (isOrder e.channel n.seq) s := by
  rw [waits, lateSide_drive]
  exact waits_withdraw_other other n.seq

theorem lateSides_drive (n : Snapshot) (l : List Side) (s : State) : (l.foldl (lateSide z n) s).drive
    = (withdrawOrders { n with sides := l } s).drive := by
  have same {a b : State} (h : a.drive = b.drive) (test : DriveItem → Bool) : (withdraw test a).drive = (withdraw test b).drive := by
    rw [withdraw, withdraw, h]
    rfl
  have congr (l : List Side) {a b : State} (h : a.drive = b.drive) :
      (withdrawOrders { n with sides := l } a).drive = (withdrawOrders { n with sides := l } b).drive := by
    unfold withdrawOrders
    induction l generalizing a b with
    | nil => exact h
    | cons d l ih => exact ih (same h _)
  induction l generalizing s with
  | nil => rfl
  | cons d l ih => exact (ih _).trans (congr l (lateSide_drive n d))

/-- R81: LATE is raised where an ORDER still waits. -/
theorem late_raised {n : Snapshot} {l : List Side} (some : 0 < l.countP fun d => waits (isOrder d.channel n.seq) s) :
    (l.foldl (lateSide z n) s).attn.isSet .late = true := by
  induction l generalizing s with
  | nil => cases some
  | cons d l ih =>
    rw [List.foldl_cons]
    cases waiting : waits (isOrder d.channel n.seq) s with
    | true =>
      exact (works_foldl (f := lateSide z n) (fun t e => works_lateSide z t n e) l _).attn.isSet_stays (lateSide_waiting waiting)
    | false =>
      rw [lateSide_sent waiting]
      refine ih ?_
      rw [List.countP_cons, waiting] at some
      exact some

/-! ### The zone with its late sides -/

/-- R81: a side marked LATE. -/
def Side.lateIf (w : Side → Bool) (d : Side) : Side := if w d then { d with late := true } else d

/-- R77, R81: the late counter moved on. -/
def lateAfter (late missed : Nat) : Nat := if missed = 0 then late else min 65535 (late + missed)

theorem lateAfter_add (late m n : Nat) : lateAfter (lateAfter late m) n = lateAfter late (m + n) := by
  unfold lateAfter
  split <;> split <;> split <;> omega

/-- The sequencer with the STARTED snapshot's sides as given, behind the ended ones. -/
def Sequencer.withStarted (q : Sequencer) (ended : List Snapshot) (m : Snapshot) (sides : List Side) (late : Nat) : Sequencer :=
  { q with late := late, pending := ended ++ [{ m with sides := sides }] }

theorem lateSides_zone {n m : Snapshot} {ended : List Snapshot} (notStarted : ∀ o ∈ ended, o.isStarted = false)
    (isStarted : m.phase = .started) (w : Side → Bool) (l before : List Side) (late : Nat) (q : Sequencer) {s : State}
    (distinct : ((before ++ l).map Side.channel).Nodup) (waiting : ∀ d ∈ l, waits (isOrder d.channel n.seq) s = w d)
    (zone : s.zones[z] = q.withStarted ended m (before ++ l) late) :
    (l.foldl (lateSide z n) s).zones[z]
      = q.withStarted ended m (before ++ l.map (Side.lateIf w)) (lateAfter late (l.countP w)) := by
  induction l generalizing before late s with
  | nil => exact zone
  | cons d l ih =>
    have apart : ∀ e ∈ before, (e.channel == d.channel) = false := fun e mem => by
      rw [List.map_append, List.nodup_append] at distinct
      obtain ⟨-, -, away⟩ := distinct
      simpa using away _ (List.mem_map_of_mem mem) _ List.mem_cons_self
    have others : ∀ e ∈ l, e.channel ≠ d.channel := fun e mem same => by
      rw [List.map_append, List.nodup_append, List.map_cons, List.nodup_cons] at distinct
      obtain ⟨-, ⟨fresh, -⟩, -⟩ := distinct
      exact fresh (same ▸ List.mem_map_of_mem mem)
    have own := waiting d List.mem_cons_self
    have turn : (lateSide z n s d).zones[z]
        = q.withStarted ended m ((before ++ [d.lateIf w]) ++ l) (lateAfter late (if w d then 1 else 0)) := by
      rw [lateSide_zone, own, zone]
      cases marked : w d with
      | false =>
        rw [if_neg Bool.false_ne_true, if_neg Bool.false_ne_true, Side.lateIf, marked, if_neg Bool.false_ne_true,
          List.append_assoc]
        rfl
      | true =>
        have first := modifyFirst_append (test := fun e : Side => e.channel == d.channel)
          (f := fun e => { e with late := true }) (l := before) (r := l) (x := d) apart (by simp)
        have there := modifyFirst_append (test := Snapshot.isStarted) (f := Snapshot.markLate d.channel) (l := ended) (r := [])
          (x := { m with sides := before ++ d :: l }) notStarted (isStarted_iff.2 isStarted)
        rw [if_pos rfl, if_pos rfl, Side.lateIf, marked, if_pos rfl, List.append_assoc]
        simp only [Sequencer.withStarted, there, Snapshot.markLate, first]
        rfl
    have rest := ih (before ++ [d.lateIf w]) (lateAfter late (if w d then 1 else 0)) (s := lateSide z n s d)
      (by
        rw [List.append_assoc]
        have same : (d.lateIf w).channel = d.channel := by
          rw [Side.lateIf]
          split <;> rfl
        simpa [same] using distinct)
      (fun e mem => (waits_lateSide (others e mem)).trans (waiting e (List.mem_cons_of_mem _ mem))) turn
    rw [List.foldl_cons, rest, lateAfter_add, List.map_cons, List.append_assoc, List.countP_cons, Nat.add_comm]
    rfl

end Sys2Proof.Machine

/-! The period boundary of a zone (R81). -/

namespace Sys2Proof.Machine

variable {s t u v : State} {z : Fin 16}

/-! ### Forced closures (R112) -/

theorem marked_forceClose {n : Snapshot} (distinct : (s.table.live.map Record.index).Nodup) {d : Side} (side : d ∈ n.sides)
    (stillOpen : d.closed = false) (carriers : d.aZ ≠ 0) : ∀ e ∈ d.entries, (forceClose z n s).Marked .forced e := by
  have each (l : List Side) (v : State) (distinct : (v.table.live.map Record.index).Nodup) (mem : d ∈ l) :
      ∀ e ∈ d.entries, (l.foldl (fun t (d : Side) => closeSide z n.seq d d.qfOrd d.qrOrd .forced t) v).Marked .forced e := by
    induction l generalizing v with
    | nil => cases mem
    | cons k l ih =>
      intro e inSide
      have first := works_closeSide (s := v) (z := z) n.seq k k.qfOrd k.qrOrd .forced
      rcases List.mem_cons.1 mem with rfl | mem
      · have rest : Works [.target, .shortfall] (closeSide z n.seq d d.qfOrd d.qrOrd .forced v) _ :=
          works_foldl (f := fun t (d : Side) => closeSide z n.seq d d.qfOrd d.qrOrd .forced t) (fun _ _ => works_closeSide ..) l _
        exact rest.marked (marked_closeSide n.seq d.qfOrd d.qrOrd .forced carriers distinct e inSide)
      · exact ih _ (first.distinct distinct) mem e inSide
  exact each _ s distinct (List.mem_filter.2 ⟨side, by rw [stillOpen]; rfl⟩)

/-! ### The UNSTARTED snapshot started -/

/-- R81, step 2: the snapshot ended. -/
def Snapshot.atEnd (n : Snapshot) : Snapshot := { n with phase := .ended }

/-- R81, step 2: the snapshot started. -/
def Snapshot.atStart (n : Snapshot) : Snapshot := { n with phase := .started }

section
variable {front : List Snapshot} {un : Snapshot}

theorem advancePhases_split (unstarted : un.phase = .unstarted) (others : ∀ o ∈ front, o.phase ≠ .unstarted) :
    advancePhases (front ++ [un]) = front.map Snapshot.atEnd ++ [un.atStart] := by
  rw [advancePhases, List.map_append, List.map_singleton, unstarted]
  congr 1
  refine List.map_congr_left fun o mem => ?_
  have never := others o mem
  cases phase : o.phase with
  | unstarted => exact absurd phase never
  | started => rfl
  | ended =>
    obtain ⟨seq, p, mode, profile, sides⟩ := o
    cases phase
    rfl

theorem notStarted_atEnd (l : List Snapshot) : ∀ o ∈ l.map Snapshot.atEnd, o.isStarted = false := fun o mem => by
  obtain ⟨n, -, rfl⟩ := List.mem_map.1 mem
  rfl

theorem boundaryStart_eq (found : v.zones[z].pending.find? Snapshot.isUnstarted = some un) : boundaryStart z v
    = un.sides.foldl (lateSide z un)
      (postItem (markItem z un) (v.modifyZone z fun q => { q with pending := advancePhases q.pending })) := by
  rw [boundaryStart, found]

/-- R81: the zone with its snapshot started, and its late sides. -/
theorem boundaryStart_zone (pending : v.zones[z].pending = front ++ [un]) (unstarted : un.phase = .unstarted)
    (others : ∀ o ∈ front, o.phase ≠ .unstarted) (distinct : (un.sides.map Side.channel).Nodup) :
    let w : Side → Bool := fun d => waits (isOrder d.channel un.seq) v
    (boundaryStart z v).zones[z] = v.zones[z].withStarted (front.map Snapshot.atEnd) un.atStart (un.sides.map (Side.lateIf w))
      (lateAfter v.zones[z].late (un.sides.countP w)) := by
  intro w
  have passed : ∀ o ∈ front, o.isUnstarted = false := fun o mem => by
    rw [← Bool.not_eq_true, isUnstarted_iff]
    exact others o mem
  have found : v.zones[z].pending.find? Snapshot.isUnstarted = some un := by
    rw [pending]
    exact find?_append_cons passed (isUnstarted_iff.2 unstarted)
  rw [boundaryStart_eq found]
  refine lateSides_zone (m := un.atStart) (notStarted_atEnd front) rfl w un.sides [] v.zones[z].late v.zones[z] distinct
    (fun d _ => waits_postMark un d.channel un.seq) ?_
  rw [(postItem_keeps ..).2.2.2.2.1, modifyZone_get, if_pos rfl, pending, advancePhases_split unstarted others]
  rfl

end

theorem lateSides_lastSeq (n : Snapshot) (l : List Side) (s : State) :
    (l.foldl (lateSide z n) s).zones[z].lastSeq = s.zones[z].lastSeq := by
  induction l generalizing s with
  | nil => rfl
  | cons d l ih =>
    rw [List.foldl_cons, ih, lateSide_zone]
    split <;> rfl

theorem boundaryStart_lastSeq (v : State) (z : Fin 16) : (boundaryStart z v).zones[z].lastSeq = v.zones[z].lastSeq := by
  cases found : v.zones[z].pending.find? Snapshot.isUnstarted with
  | none =>
    rw [boundaryStart, found]
    dsimp only
    rw [modifyZone_get, if_pos rfl]
  | some un =>
    rw [boundaryStart_eq found, lateSides_lastSeq, (postItem_keeps ..).2.2.2.2.1, modifyZone_get, if_pos rfl]

theorem alike_boundaryStart (v : State) (z : Fin 16) : Alike v (boundaryStart z v) := by
  obtain ⟨map, programs, pos, table, -, -, -, -, -⟩ := boundaryStart_keeps z v
  refine .of_zones map programs pos table fun y => ?_
  by_cases here : y = z
  · subst here
    rw [(boundaryStart_onlyLate y v).state]
  · rw [(othersKept_boundaryStart z v).kept y here]

/-! ### The drive queue -/

theorem boundaryStart_drive {un : Snapshot} (found : v.zones[z].pending.find? Snapshot.isUnstarted = some un) :
    (boundaryStart z v).drive = (withdrawOrders un
      (postItem (markItem z un) (v.modifyZone z fun q => { q with pending := advancePhases q.pending }))).drive := by
  rw [boundaryStart_eq found, lateSides_drive]

theorem buildSnapshot_posts (s : State) (z : Fin 16) :
    ∃ w : State, w.drive = s.drive ∧ buildSnapshot z s = postOrders z (s.newSnapshot z) w := by
  refine ⟨_, ?_, rfl⟩
  rw [(raiseLimited_keeps ..).2.2.2.2.2.1, (holdEntries_keeps ..).2.2.2.2.1]
  rfl

theorem mem_postOrders {n : Snapshot} {i : DriveItem} (mem : i ∈ (postOrders z n s).drive.queue) :
    i ∈ s.drive.queue ∨ ∃ f flush, i = .order f flush z ∧ f.seq = n.seq := by
  unfold postOrders at mem
  revert mem
  generalize n.sides = l
  induction l generalizing s with
  | nil => exact .inl
  | cons d l ih =>
    intro mem
    rcases ih mem with queued | new
    · rcases mem_postItem queued with old | rfl | ⟨old, -, -, rfl⟩
      · exact .inl old
      · exact .inr ⟨_, _, rfl, rfl⟩
      · exact .inr ⟨_, _, rfl, rfl⟩
    · exact .inr new

theorem State.sends.withdrawn {i : DriveItem} (sent : s.sends i) (n : Snapshot) (other : ∀ c seq, isOrder c seq i = false) :
    (withdrawOrders n s).sends i :=
  sent.imp (fun queued => mem_withdrawOrders n queued fun d _ => other d.channel n.seq)
    fun ⟨b, bus, same⟩ => ⟨b, (queueShrinks_withdrawOrders n s).bus.trans bus, same⟩

/-- R81: the MARK of the snapshot started is sent. -/
theorem sends_boundaryMark {un : Snapshot} (found : v.zones[z].pending.find? Snapshot.isUnstarted = some un) :
    (buildSnapshot z (boundaryStart z v)).sends (markItem z un) := by
  obtain ⟨w, drive, built⟩ := buildSnapshot_posts (boundaryStart z v) z
  have sent : (boundaryStart z v).sends (markItem z un) :=
    ((sends_mark ..).withdrawn un fun _ _ => rfl).of_drive (boundaryStart_drive found)
  rw [built]
  exact sends_postOrders_other _ (sent.of_drive drive) fun _ _ => nofun

/-- R81: no ORDER of the snapshot started waits any longer. -/
theorem boundary_withdraws {un : Snapshot} (found : v.zones[z].pending.find? Snapshot.isUnstarted = some un)
    (lawful : v.drive.Lawful) (fresh : un.seq ≠ v.zones[z].lastSeq + 1) :
    ∀ d ∈ un.sides, ∀ i ∈ (buildSnapshot z (boundaryStart z v)).drive.queue, isOrder d.channel un.seq i = false := by
  intro d side i mem
  obtain ⟨w, drive, built⟩ := buildSnapshot_posts (boundaryStart z v) z
  rw [built] at mem
  rcases mem_postOrders mem with queued | ⟨f, flush, rfl, seq⟩
  · rw [drive, boundaryStart_drive found] at queued
    have marked := (works_postItem (markItem z un) (v.modifyZone z fun q => { q with pending := advancePhases q.pending })).drive
    exact withdrawOrders_clears un side (marked.lawful lawful).places i queued
  · have other : f.seq ≠ un.seq := by
      rw [seq, show ((boundaryStart z v).newSnapshot z).seq = (boundaryStart z v).zones[z].lastSeq + 1 from rfl,
        boundaryStart_lastSeq]
      exact fresh.symm
    simp [isOrder, other]

end Sys2Proof.Machine

/-! The period boundary, taken whole (R81). -/

namespace Sys2Proof.Machine

variable {s t u v : State} {z : Fin 16}

theorem periodTimerExpires_run (run : s.zones[z].InRun) (running : s.zones[z].periodTimer ≠ none) :
    periodTimerExpires z s = takeBoundary z s := by
  obtain ⟨k, timer⟩ := Option.ne_none_iff_exists'.1 running
  rcases run with st | st <;> rw [periodTimerExpires, st, timer]

theorem periodTimerExpires_idle
    (idle : (s.zones[z].state ≠ .running ∧ s.zones[z].state ≠ .protect) ∨ s.zones[z].periodTimer = none) :
    periodTimerExpires z s = s := by
  unfold periodTimerExpires
  split
  case h_1 st timer => exact idle.elim (fun out => absurd st out.1) fun none => nomatch timer.symm.trans none
  case h_2 st timer => exact idle.elim (fun out => absurd st out.2) fun none => nomatch timer.symm.trans none
  case h_3 => rfl

/-- R81: the snapshot started, with its late marks. -/
def Snapshot.startedLate (un : Snapshot) (w : Side → Bool) : Snapshot :=
  { un with phase := .started, sides := un.sides.map (Side.lateIf w) }

/-- The state before the last step of a boundary, with the next snapshot built. -/
def boundaryBuilt (z : Fin 16) (v : State) : State := buildSnapshot z (boundaryStart z v)

theorem works_boundaryBuilt (v : State) : Works [.late, .limited] v (boundaryBuilt z v) :=
  ((works_boundaryStart z v).mono (by simp)).trans ((works_buildSnapshot z _).mono (by simp))

section
variable {front : List Snapshot} {un : Snapshot}

/-- R81: what a boundary makes of its zone, behind the forced closure. -/
theorem takeBoundary_built (isForced : boundaryForce z s = v) (pending : v.zones[z].pending = front ++ [un])
    (unstarted : un.phase = .unstarted) (others : ∀ o ∈ front, o.phase ≠ .unstarted)
    (distinct : (un.sides.map Side.channel).Nodup) :
    (takeBoundary z s).zones[z] = { v.zones[z] with
      lastSeq := v.zones[z].lastSeq + 1
      pending := front.map Snapshot.atEnd
        ++ [un.startedLate fun d => waits (isOrder d.channel un.seq) v, v.newSnapshot z]
      periodTimer := some un.period
      late := lateAfter v.zones[z].late (un.sides.countP fun d => waits (isOrder d.channel un.seq) v)
      lastA := (v.newSnapshot z).lastOrder .A, lastB := (v.newSnapshot z).lastOrder .B } := by
  have zone := takeBoundary_zone z s (u := boundaryStart z v) (by rw [isForced])
  have started := boundaryStart_zone pending unstarted others distinct
  have new : (boundaryStart z v).newSnapshot z = v.newSnapshot z :=
    (alike_boundaryStart v z).newSnapshot (boundaryStart_onlyLate z v).state (boundaryStart_lastSeq v z)
  have found : ((boundaryStart z v).zones[z].pending ++ [v.newSnapshot z]).find? Snapshot.isStarted
      = some (un.startedLate fun d => waits (isOrder d.channel un.seq) v) := by
    rw [started, Sequencer.withStarted, List.append_assoc]
    exact find?_append_cons (notStarted_atEnd front) rfl
  rw [new, found] at zone
  rw [zone, started, Sequencer.withStarted, List.append_assoc]
  rfl

end

/-- R79, R81: the snapshot that a boundary builds. -/
theorem snapshotPosted_boundary (v : State) (z : Fin 16) :
    SnapshotPosted v (boundaryBuilt z v) z (v.newSnapshot z) := by
  have alike := alike_boundaryStart v z
  have new : (boundaryStart z v).newSnapshot z = v.newSnapshot z :=
    alike.newSnapshot (boundaryStart_onlyLate z v).state (boundaryStart_lastSeq v z)
  have built := snapshotPosted_buildSnapshot (boundaryStart z v) z
  rw [new] at built
  refine ⟨built.orders, ?_⟩
  rw [boundaryBuilt, built.limited, alike.clampActs, (works_boundaryStart z v).attn.isSet_other (by decide)]

theorem boundaryBuilt_table (distinct : (v.table.live.map Record.index).Nodup) :
    (boundaryBuilt z v).table = v.holding (v.newSnapshot z) := by
  have alike := alike_boundaryStart v z
  have new : (boundaryStart z v).newSnapshot z = v.newSnapshot z :=
    alike.newSnapshot (boundaryStart_onlyLate z v).state (boundaryStart_lastSeq v z)
  rw [boundaryBuilt, buildSnapshot_table (by rw [alike.table]; exact distinct), new, State.holding, State.holding, alike.table]

/-- Settles O41: a period boundary. -/
theorem periodBoundaryIsTaken : Obligations.PeriodBoundaryIsTaken := by
  intro z s awake q command
  have taken : exec command s = .next (periodTimerExpires z s) := next_awake awake _
  refine ⟨fun run running law => ?_, fun idle => by rw [taken, periodTimerExpires_idle idle]⟩
  rw [periodTimerExpires_run run running] at taken
  obtain ⟨front, un, pending, unstarted, none⟩ := law.pends.unstarted_last (law.inRun_iff.1 run)
  have capacity := law.capacity
  rw [pending, List.length_append, List.length_singleton] at capacity
  have short : front.length ≤ 2 := by omega
  have others : ∀ o ∈ front, o.phase ≠ .unstarted := fun o mem is => by
    have started := isUnstarted_of_front none o mem
    rw [isUnstarted_iff.2 is] at started
    cases started
  refine ⟨takeBoundary z s, front, un, taken, pending, unstarted, short, ?_⟩
  intro forced waiting missed started new
  have isForced : boundaryForce z s = forced := by
    have whole : s.zones[z].pending = front ++ [un] := pending
    rw [boundaryForce, whole]
    rcases front with - | ⟨a, - | ⟨b, - | ⟨c, l⟩⟩⟩
    · rfl
    · rfl
    · rfl
    · simp at short
  have forces := works_boundaryForce z s
  have drive : forced.drive = s.drive := by rw [← isForced, (boundaryForce_keeps z s).2.2.2.1]
  have zone : ∃ fwd rev, forced.zones[z] = { s.zones[z] with
      orphanFwd := fwd, orphanRev := rev, pending := (if front.length = 2 then front.tail else front) ++ [un] } := by
    obtain ⟨fwd, rev, forcedZone⟩ := boundaryForce_zone z s run law
    have left : (if s.zones[z].pending.length = 3 then s.zones[z].pending.tail else s.zones[z].pending)
        = (if front.length = 2 then front.tail else front) ++ [un] := by
      rw [show s.zones[z].pending = front ++ [un] from pending]
      rcases front with - | ⟨a, - | ⟨b, - | ⟨c, l⟩⟩⟩
      · rfl
      · rfl
      · rfl
      · simp at short
    rw [isForced, left] at forcedZone
    exact ⟨fwd, rev, forcedZone⟩
  have marks (oldest middle : Snapshot) (two : front = [oldest, middle]) : forced = forceClose z oldest s := by
    simp only [forced, two]
    rfl
  rw [isForced] at forces
  clear_value forced
  obtain ⟨fwd, rev, zone⟩ := zone
  have final : takeBoundary z s = (boundaryBuilt z forced).modifyZone z fun q => { q with
      periodTimer := (q.pending.find? Snapshot.isStarted).map Snapshot.period } := by rw [takeBoundary, isForced]; rfl
  have works : Works [.late, .limited] forced (takeBoundary z s) := by
    rw [final]
    exact (works_boundaryBuilt forced).trans (works_adjustZone z _)
  have forcedPending : forced.zones[z].pending = (if front.length = 2 then front.tail else front) ++ [un] := by rw [zone]
  have stillOthers : ∀ o ∈ (if front.length = 2 then front.tail else front), o.phase ≠ .unstarted := fun o mem => by
    refine others o ?_
    split at mem
    · exact List.mem_of_mem_tail mem
    · exact mem
  have found : forced.zones[z].pending.find? Snapshot.isUnstarted = some un := by
    rw [forcedPending]
    refine find?_append_cons (fun o mem => ?_) (isUnstarted_iff.2 unstarted)
    rw [← Bool.not_eq_true, isUnstarted_iff]
    exact stillOthers o mem
  have waits_eq (d : Side) : waits (isOrder d.channel un.seq) forced = waiting d := by rw [waits, drive]
  obtain ⟨map, programs, pos, monitor, sup, link, -, -⟩ := takeBoundary_keeps z s
  refine ⟨fun distinct => ?_, ?_, fun some => ?_, fun queue fresh => ?_, snapshotOf_newSnapshot forced z, ?_, ?_, fun table => ?_,
    fun oldest middle table two d side stillOpen carriers e inSide => ?_, (othersKept_takeBoundary z s).kept, map, programs,
    pos, monitor, sup, link⟩
  · rw [takeBoundary_built isForced forcedPending unstarted stillOthers distinct]
    simp only [waits_eq]
    rw [zone]
    rfl
  · rw [final]
    exact (sends_boundaryMark found).of_drive rfl
  · have raised : (boundaryStart z forced).attn.isSet .late = true := by
      rw [boundaryStart_eq found]
      refine late_raised ?_
      simp only [waits_postMark]
      have same : (fun d : Side => waits (isOrder d.channel un.seq)
          (forced.modifyZone z fun q => { q with pending := advancePhases q.pending })) = waiting := funext waits_eq
      rw [same]
      exact some
    rw [final]
    exact (works_buildSnapshot z (boundaryStart z forced)).attn.isSet_stays raised
  · rw [final]
    refine boundary_withdraws found ?_ (by rw [zone]; exact fresh)
    rw [drive]
    exact (queueLaw_iff_lawful awake).1 queue
  · have posted := snapshotPosted_boundary forced z
    rw [final]
    exact ⟨fun distinct => (posted.orders distinct).of_drive rfl, posted.limited⟩
  · exact forces.attn.isSet_other (by decide)
  · have distinct := forces.distinct table.indexes
    have rest := forces.table.rest
    rw [final]
    refine (boundaryBuilt_table distinct).trans ?_
    rw [State.holding, rest]
  · refine works.marked (kind := .forced) ?_
    rw [marks oldest middle two]
    refine marked_forceClose table.indexes side stillOpen carriers e inSide

end Sys2Proof.Machine

/-! The setpoint computation by its formulas (R93 to R100). -/

namespace Sys2Proof.Machine

variable {s : State} {z : Fin 16}

/-! ### Entries (R93) -/

theorem filterMap_ite {α β : Type} (l : List α) (a : α → Nat) (e : α → β) :
    l.filterMap (fun x => if 0 < a x then some (e x) else none) = l.flatMap fun x => if 0 < a x then [e x] else [] := by
  induction l with
  | nil => rfl
  | cons x l ih =>
    rw [List.flatMap_cons, ← ih]
    by_cases some : 0 < a x
    · simp [some]
    · simp [some]

theorem facesOn_eq (kind : ZoneKind) (side : Face) : facesOn kind side = if kind = .common then [.A, .B] else [side] := by
  cases kind <;> rfl

theorem entriesOf_eq (s : State) (z : Fin 16) (side : Face) : s.entriesOf z side = s.table.live.flatMap fun r =>
    (if s.map.zones[z].kind = .common then [Face.A, Face.B] else [side]).flatMap fun f =>
      if 0 < s.overlappedArea z r f then
        [{ index := r.index, generation := r.generation, face := f, area := s.overlappedArea z r f }] else [] := by
  refine List.flatMap_congr fun r _ => ?_
  rw [facesOn_eq]
  exact filterMap_ite _ (s.overlappedArea z r) _

/-! ### The demand of an entry (R94 to R96) -/

theorem demand_gone {jLo : Nat} {p : Profile} {e : Entry} (gone : findRecord s.table.live e.index e.generation = none) :
    s.demand jLo p e = jLo := by
  rw [State.demand, gone]

theorem demand_live {jLo : Nat} {p : Profile} {e : Entry} {r : Record}
    (live : findRecord s.table.live e.index e.generation = some r) : s.demand jLo p e = s.demandOf jLo p r e.face := by
  rw [State.demand, live]

theorem demandOf_unprogrammed {jLo : Nat} {p : Profile} {r : Record} {f : Face} (none : r.slot = none) :
    s.demandOf jLo p r f = jLo := by
  rw [State.demandOf, none]

/-- R96: the demand of a face on a program, before its limits. -/
def State.rawDemand (s : State) (p : Profile) (slot : Slot) (r : Record) (f : Face) : Nat :=
  if remainingCharge slot r f = 0 then slot.jMin
  else if s.liveAhead (s.centre r) = 0 then slot.jMax
  else ceilDiv (1000000 * remainingCharge slot r f * p.period)
    (r.area f * remainingDwell (s.liveAhead (s.centre r)) s.pos.speed p.period * p.net.toNat)

theorem demandOf_programmed {jLo : Nat} {p : Profile} {r : Record} {f : Face} {k : Fin 16} (slot : r.slot = some k) :
    s.demandOf jLo p r f = clamp s.programs[k].jMin s.programs[k].jMax (s.rawDemand p s.programs[k] r f) := by
  rw [State.demandOf, slot]
  rfl

theorem remainingCharge_eq (slot : Slot) (r : Record) (f : Face) : (remainingCharge slot r f : Int)
    = min (targetCharge slot (r.area f) : Int) (max 0 ((targetCharge slot (r.area f) : Int) - r.netCharge f)) := by
  rw [remainingCharge]
  omega

theorem ceilDiv_bounds {a b : Nat} (pos : 0 < b) : a ≤ ceilDiv a b * b ∧ ceilDiv a b * b < a + b := by
  have whole := Nat.div_add_mod (a + b - 1) b
  have rest := Nat.mod_lt (a + b - 1) pos
  rw [ceilDiv, Nat.mul_comm]
  omega

theorem zoneIsLive_iff (s : State) (y : Fin 16) : s.zoneIsLive y = true ↔ s.map.zoneStart y < s.map.zoneEnd y
    ∧ s.map.zones[y].kind ≠ .unpowered
    ∧ (s.zones[y].state = .running ∨ s.zones[y].state = .protect ∨ s.zones[y].state = .parked) := by
  have length : 0 < s.map.zoneLength y ↔ s.map.zoneStart y < s.map.zoneEnd y := by
    rw [LineMap.zoneLength]
    omega
  have powered (k : ZoneKind) : k.powered = true ↔ k ≠ .unpowered := by cases k <;> decide
  have counts (x : ZoneState) : x.counts = true ↔ x = .running ∨ x = .protect ∨ x = .parked := by cases x <;> decide
  rw [zoneIsLive_eq, Bool.and_eq_true, Bool.and_eq_true, decide_eq_true_eq, length, powered, counts, and_assoc]

/-! ### The currents (R97 to R100) -/

theorem phiOf_eq (kind : ZoneKind) (side : Face) (p : Profile) :
    phiOf kind side p = if kind = .paired ∧ side = .B then p.phi else 0 := by
  cases kind <;> cases side <;> rfl

theorem zipWith_demands (entries : List Entry) (f : Entry → Nat) :
    (entries.map f).zipWith (fun d e => d * e.area) entries = entries.map fun e => f e * e.area := by
  induction entries with
  | nil => rfl
  | cons e l ih => exact congrArg (_ :: ·) ih

theorem densityOf_eq (zone : ZoneEntry) (entries : List Entry) (f : Entry → Nat) :
    densityOf zone entries (entries.map f) = if totalArea entries = 0 then 0 else min zone.jHi (max zone.jLo
      (((entries.map fun e => f e * e.area).sum + totalArea entries / 2) / totalArea entries)) := by
  rw [densityOf, zipWith_demands]
  rfl

theorem rawForward_nothing (j : Nat) : rawForward j 0 = 0 := by
  rw [rawForward, Nat.mul_zero]

/-- R98, R99: the clamps of a computation. -/
theorem runSetpoint_limited (s : State) (z : Fin 16) (side : Face) (c : Fin 32) (entries : List Entry) :
    let o := s.runSetpoint z side c entries
    let p := s.map.profiles[s.map.zones[z].profile]
    o.limited = true ↔ s.map.channels[c].iFmax < rawForward o.jZ (totalArea entries)
      ∨ (p.tR ≠ 0 ∧ s.map.channels[c].iRmax < (o.order.iF * p.rho + 50) / 100) := by
  intro o p
  have limited : o.limited = (decide (s.map.channels[c].iFmax < rawForward o.jZ (totalArea entries))
      || decide (s.map.channels[c].iRmax < if p.tR = 0 then 0 else (o.order.iF * p.rho + 50) / 100)) := rfl
  rw [limited, Bool.or_eq_true, decide_eq_true_eq, decide_eq_true_eq]
  by_cases none : p.tR = 0
  · simp [none]
  · simp [none]

theorem runSetpoint_reverse (s : State) (z : Fin 16) (side : Face) (c : Fin 32) (entries : List Entry) :
    let o := s.runSetpoint z side c entries
    let p := s.map.profiles[s.map.zones[z].profile]
    o.order.iR = if p.tR = 0 then 0 else min ((o.order.iF * p.rho + 50) / 100) s.map.channels[c].iRmax := by
  intro o p
  have reverse : o.order.iR = min (if p.tR = 0 then 0 else (o.order.iF * p.rho + 50) / 100) s.map.channels[c].iRmax := rfl
  rw [reverse]
  by_cases none : p.tR = 0
  · rw [if_pos none, if_pos none, Nat.zero_min]
  · rw [if_neg none, if_neg none]

theorem runSetpoint_density (s : State) (z : Fin 16) (side : Face) (c : Fin 32) (entries : List Entry) :
    let zone := s.map.zones[z]
    (s.runSetpoint z side c entries).jZ = if totalArea entries = 0 then 0 else min zone.jHi (max zone.jLo
      (((entries.map fun e => s.demand zone.jLo s.map.profiles[zone.profile] e * e.area).sum + totalArea entries / 2)
        / totalArea entries)) := densityOf_eq ..

/-- R97: with no carriers in front of it a side is ordered at zero. -/
theorem setpoint_empty {entries : List Entry} (empty : totalArea entries = 0) (m : Mode) (side : Face) (c : Fin 32) :
    let o := s.setpoint m z side c entries
    o.order.iF = 0 ∧ o.order.iR = 0 ∧ o.jZ = 0 ∧ o.limited = false := by
  cases m with
  | run =>
    have density : (s.runSetpoint z side c entries).jZ = 0 := (runSetpoint_density s z side c entries).trans (if_pos empty)
    have forward : (s.runSetpoint z side c entries).order.iF = 0 := by
      have eq : (s.runSetpoint z side c entries).order.iF
          = min (rawForward (s.runSetpoint z side c entries).jZ (totalArea entries)) s.map.channels[c].iFmax := rfl
      rw [eq, empty, rawForward_nothing, Nat.zero_min]
    refine ⟨forward, ?_, density, ?_⟩
    · refine (runSetpoint_reverse s z side c entries).trans ?_
      rw [forward, Nat.zero_mul]
      simp
    · have limited := runSetpoint_limited s z side c entries
      dsimp only at limited
      rw [empty, rawForward_nothing, forward, Nat.zero_mul] at limited
      rw [← Bool.not_eq_true]
      exact fun set => (limited.1 set).elim (Nat.not_lt_zero _) fun both => Nat.not_lt_zero _ both.2
  | protect =>
    refine ⟨?_, rfl, if_pos empty, ?_⟩
    · change min (rawForward s.map.line.jP (totalArea entries)) _ = 0
      rw [empty, rawForward_nothing, Nat.zero_min]
    · change decide (_ < rawForward s.map.line.jP (totalArea entries)) = false
      rw [empty, rawForward_nothing]
      exact decide_eq_false (Nat.not_lt_zero _)

/-- Settles O45: the setpoint computation. -/
theorem setpointIsComputed : Obligations.SetpointIsComputed := by
  intro s z side zone p period
  refine ⟨entriesOf_eq s z side, fun e gone => demand_gone gone, fun e r live => ?_, fun m c entries => ?_⟩
  · refine ⟨fun none => (demand_live live).trans (demandOf_unprogrammed none), fun k slot => ?_⟩
    intro q area target left centre counts ahead dwell above below held
    have charge : left = (remainingCharge q r e.face : Int) := (remainingCharge_eq q r e.face).symm
    have isAhead : ahead = s.liveAhead (s.centre r) :=
      congrArg List.sum (List.map_congr_left fun y _ => if_congr (zoneIsLive_iff s y).symm rfl rfl)
    have holds {d : Nat} (raw : s.rawDemand p q r e.face = d) : held d := by
      rw [← raw]
      exact (demand_live live).trans (demandOf_programmed slot)
    refine ⟨fun zero => holds ?_, fun some none => holds ?_, fun some ahead' pos => ⟨_, holds ?_, ceilDiv_bounds pos⟩⟩
    · rw [State.rawDemand, if_pos (by omega)]
    · rw [State.rawDemand, if_neg (by omega), if_pos (by rw [← isAhead]; exact none)]
    · rw [State.rawDemand, if_neg (by omega), if_neg (by rw [← isAhead]; exact ahead'), ← isAhead]
      simp only [above, charge, Int.toNat_natCast]
      rfl
  · intro o aZ iFmax iRmax phi
    have isPhi : phiOf zone.kind side p = phi := phiOf_eq ..
    refine ⟨fun run => ?_, fun protect => ?_, ?_, ?_, fun empty => setpoint_empty empty m side c, fun run some ordered => ?_,
      fun none => ?_, ?_, ?_⟩
    · subst run
      intro mean raw rawR
      refine ⟨rfl, runSetpoint_density s z side c entries, ?_, rfl, rfl, runSetpoint_limited s z side c entries⟩
      have reverse := runSetpoint_reverse s z side c entries
      rw [← isPhi]
      exact congrArg (fun iR => ({ o.order with iR := iR } : OrderValues)) reverse
    · subst protect
      exact ⟨rfl, rfl, by rw [← isPhi]; rfl, rfl, rfl, decide_eq_true_iff⟩
    · cases m <;> exact Nat.min_le_right ..
    · cases m with
      | run => exact Nat.min_le_right ..
      | protect => exact Nat.zero_le _
    · subst run
      have carriers : totalArea entries ≠ 0 := Nat.pos_iff_ne_zero.1 some
      have density : o.jZ = _ := (runSetpoint_density s z side c entries).trans (if_neg carriers)
      rw [density]
      exact ⟨le_min ordered (Nat.le_max_left ..), Nat.min_le_left ..⟩
    · cases m with
      | run =>
        have zero : p.tR = 0 := none.resolve_left nofun
        have reverse : o.order.iR = 0 := (runSetpoint_reverse s z side c entries).trans (if_pos zero)
        refine ⟨reverse, ?_⟩
        change o.order.iR * p.tR / 100 = 0
        rw [reverse, Nat.zero_mul]
      | protect => exact ⟨rfl, rfl⟩
    · cases m <;> rfl
    · cases m <;> rfl

end Sys2Proof.Machine

/-! The law of line order (R57, R10 condition 5). -/

namespace Sys2Proof.Machine

/-! ### Separations as differences of distances from the count (R37, R57) -/

/-- R37: the mark stands within half of the half range from the count. -/
def Near (c m : Count) : Prop := (pulsesBetween c m).natAbs < 2 ^ 30

/-- R37: the signed difference of two marks near the count. -/
theorem pulsesBetween_of_near {c a b : Count} (ha : Near c a) (hb : Near c b) :
    pulsesBetween b a = pulsesBetween c a - pulsesBetween c b := by
  have split : b - a = (c - a) - (c - b) := by bv_omega
  unfold Near pulsesBetween at *
  rw [split, BitVec.toInt_sub, Int.bmod_eq_of_le] <;> omega

theorem near_self (c : Count) : Near c c := by simp [Near, pulsesBetween]

/-- The mark and the length of a record, of which alone the law speaks. -/
def Record.span (r : Record) : Count × Nat := (r.entryMark, r.length)

/-- R57: the first span reaches back no further than the second mark. -/
def Spaced (scale : Nat) (front behind : Count × Nat) : Prop := (front.2 : Int) ≤ separation scale front.1 behind.1

/-- The same, measured from the count. -/
def SpacedFrom (c : Count) (scale : Nat) (front behind : Count × Nat) : Prop :=
  (front.2 : Int) ≤ (pulsesBetween c front.1 - pulsesBetween c behind.1) * 1000 / (scale : Int)

section
variable {c : Count} {scale lMin : Nat}

theorem spaced_iff_from {f b : Count × Nat} (hf : Near c f.1) (hb : Near c b.1) :
    Spaced scale f b ↔ SpacedFrom c scale f b := by
  rw [Spaced, separation, positionDifference, pulsesBetween_of_near hf hb, SpacedFrom]

theorem spacedFrom_of_records {f b : Record} (hf : Near c f.entryMark) (hb : Near c b.entryMark)
    (h : Spaced scale f.span b.span) : SpacedFrom c scale f.span b.span :=
  (spaced_iff_from (f := f.span) (b := b.span) hf hb).1 h

theorem SpacedFrom.behind (positive : 0 < scale) {f b : Count × Nat} (h : SpacedFrom c scale f b) :
    pulsesBetween c b.1 ≤ pulsesBetween c f.1 := by
  have distance : 0 ≤ (pulsesBetween c f.1 - pulsesBetween c b.1) * 1000 / (scale : Int) := by
    unfold SpacedFrom at h
    omega
  rw [Int.ediv_nonneg_iff_of_pos (by omega)] at distance
  omega

/-- A distance from the count that is no smaller gives no smaller position. -/
theorem ediv_scale_mono (positive : 0 < scale) {m n : Int} (h : m ≤ n) :
    m * 1000 / (scale : Int) ≤ n * 1000 / (scale : Int) :=
  Int.ediv_le_ediv (by omega) (by omega)

theorem SpacedFrom.trans (positive : 0 < scale) {f m b : Count × Nat} (h : SpacedFrom c scale f m)
    (k : SpacedFrom c scale m b) : SpacedFrom c scale f b :=
  le_trans h (ediv_scale_mono positive (sub_le_sub_left (k.behind positive) _))

/-- R57, R10: the law, of the spans of the line. -/
structure InLine (scale lMin : Nat) (line : List (Count × Nat)) : Prop where
  order : line.Pairwise (Spaced scale)
  lengths : ∀ x ∈ line, lMin ≤ x.2

theorem InLine.sublist {l m : List (Count × Nat)} (h : InLine scale lMin m) (sub : l.Sublist m) : InLine scale lMin l :=
  ⟨h.order.sublist sub, fun x mem => h.lengths x (sub.subset mem)⟩

/-- R57: the law relates neighbours, where every record stands near the count. -/
theorem inLine_iff_chain (positive : 0 < scale) {l : List (Count × Nat)} (near : ∀ x ∈ l, Near c x.1) :
    InLine scale lMin l ↔ l.IsChain (SpacedFrom c scale) ∧ ∀ x ∈ l, lMin ≤ x.2 := by
  have transitive : Trans (SpacedFrom c scale) (SpacedFrom c scale) (SpacedFrom c scale) := ⟨.trans positive⟩
  rw [List.isChain_iff_pairwise]
  have same : l.Pairwise (Spaced scale) ↔ l.Pairwise (SpacedFrom c scale) :=
    List.Pairwise.iff_of_mem fun mem mem' => spaced_iff_from (near _ mem) (near _ mem')
  exact ⟨fun ⟨order, lengths⟩ => ⟨same.1 order, lengths⟩, fun ⟨order, lengths⟩ => ⟨same.2 order, lengths⟩⟩

end

variable {s t : State}

theorem lineOrderLaw_iff : LineOrderLaw s ↔ InLine s.map.line.scale s.map.line.lMin (s.table.live.map Record.span) := by
  constructor
  · rintro ⟨order, lengths⟩
    exact ⟨List.pairwise_map.2 order, List.forall_mem_map.2 lengths⟩
  · rintro ⟨order, lengths⟩
    exact ⟨List.pairwise_map.1 order, fun r live => lengths _ (List.mem_map_of_mem live)⟩

/-- The law speaks of the spans of the records, the scale and L_min. -/
theorem LineOrderLaw.of_line (h : LineOrderLaw s) (line : (t.table.live.map Record.span).Sublist (s.table.live.map Record.span))
    (map : t.map.line.scale = s.map.line.scale ∧ t.map.line.lMin = s.map.line.lMin) : LineOrderLaw t := by
  rw [lineOrderLaw_iff, map.1, map.2]
  exact (lineOrderLaw_iff.1 h).sublist line

theorem LineOrderLaw.of_same (h : LineOrderLaw s) (table : t.table = s.table) (map : t.map = s.map) : LineOrderLaw t :=
  h.of_line (table ▸ List.Sublist.refl _) (map ▸ ⟨rfl, rfl⟩)

theorem Works.spans {E : List Event} (w : Works E s t) : t.table.live.map Record.span = s.table.live.map Record.span :=
  map_eq_of_forall₂ (R := Record.Worked) (fun _ _ k => Prod.ext k.entryMark k.length) w.table.live

theorem Works.lineOrder {E : List Event} (w : Works E s t) (map : t.map = s.map) (h : LineOrderLaw s) : LineOrderLaw t :=
  h.of_line (w.spans ▸ List.Sublist.refl _) (map ▸ ⟨rfl, rfl⟩)

theorem lineOrder_empty (empty : t.table.live = []) : LineOrderLaw t := by
  constructor <;> simp [empty]

/-! ### A line whose records stand near the count -/

/-- R57 with the range of its premise: the part keeps its records in line, near the count, under a scale that is not 0. -/
structure Lined (s : State) : Prop where
  scale : 0 < s.map.line.scale
  near : ∀ r ∈ s.table.live, Near s.pos.count r.entryMark
  law : LineOrderLaw s

theorem Lined.of_same (h : Lined s) (table : t.table = s.table) (map : t.map = s.map) (count : t.pos.count = s.pos.count) :
    Lined t := ⟨map ▸ h.scale, by rw [table, count]; exact h.near, h.law.of_same table map⟩

theorem near_spans {c : Count} {l : List Record} (near : ∀ r ∈ l, Near c r.entryMark) :
    ∀ x ∈ l.map Record.span, Near c x.1 := List.forall_mem_map.2 near

/-- R57: neighbours are spaced, and every length is lawful. -/
theorem lineOrder_iff_chain (scale : 0 < s.map.line.scale) (near : ∀ r ∈ s.table.live, Near s.pos.count r.entryMark) :
    LineOrderLaw s ↔ (s.table.live.map Record.span).IsChain (SpacedFrom s.pos.count s.map.line.scale)
      ∧ ∀ r ∈ s.table.live, s.map.line.lMin ≤ r.length := by
  rw [lineOrderLaw_iff, inLine_iff_chain scale (near_spans near), List.forall_mem_map]
  rfl

theorem Lined.chain (h : Lined s) : (s.table.live.map Record.span).IsChain (SpacedFrom s.pos.count s.map.line.scale) :=
  ((lineOrder_iff_chain h.scale h.near).1 h.law).1

/-! ### A record put in, or changed, between its neighbours -/

/-- A chain with another middle, spaced from its two neighbours. -/
theorem chain_between {α : Type} {R : α → α → Prop} {ahead behind : List α} {x : α} (front : ahead.IsChain R)
    (back : behind.IsChain R) (after : ∀ a ∈ ahead.getLast?, R a x) (before : ∀ b ∈ behind.head?, R x b) :
    (ahead ++ x :: behind).IsChain R :=
  front.append (back.cons before) fun a last y first => by
    obtain rfl := Option.some.inj first
    exact after a last

theorem getLast?_span {l : List Record} {P : Count × Nat → Prop} (h : ∀ r ∈ l.getLast?, P r.span) :
    ∀ x ∈ (l.map Record.span).getLast?, P x := by
  rw [List.getLast?_map]
  rintro x mem
  obtain ⟨r, last, rfl⟩ := Option.map_eq_some_iff.1 mem
  exact h r last

theorem head?_span {l : List Record} {P : Count × Nat → Prop} (h : ∀ r ∈ l.head?, P r.span) :
    ∀ x ∈ (l.map Record.span).head?, P x := by
  rw [List.head?_map]
  rintro x mem
  obtain ⟨r, first, rfl⟩ := Option.map_eq_some_iff.1 mem
  exact h r first

/-- R57: the law of a line in which one record stands between two lawful parts, spaced from its neighbours. -/
theorem lineOrder_between {ahead behind : List Record} {r : Record} (line : t.table.live = ahead ++ r :: behind)
    (scale : 0 < t.map.line.scale) (near : ∀ q ∈ t.table.live, Near t.pos.count q.entryMark)
    (front : (ahead.map Record.span).IsChain (SpacedFrom t.pos.count t.map.line.scale))
    (back : (behind.map Record.span).IsChain (SpacedFrom t.pos.count t.map.line.scale))
    (after : ∀ a ∈ ahead.getLast?, Spaced t.map.line.scale a.span r.span)
    (before : ∀ b ∈ behind.head?, Spaced t.map.line.scale r.span b.span)
    (lengths : ∀ q ∈ t.table.live, t.map.line.lMin ≤ q.length) : LineOrderLaw t := by
  refine (lineOrder_iff_chain scale near).2 ⟨?_, lengths⟩
  rw [line] at near ⊢
  have here := near r (List.mem_append_right _ (List.mem_cons_self ..))
  rw [List.map_append, List.map_cons]
  refine chain_between front back (getLast?_span fun a last => ?_) (head?_span fun b first => ?_)
  · exact spacedFrom_of_records (near a (List.mem_append_left _ (List.mem_of_getLast? last))) here (after a last)
  · have mem : b ∈ behind := List.mem_of_mem_head? first
    exact spacedFrom_of_records here (near b (List.mem_append_right _ (List.mem_cons_of_mem _ mem))) (before b first)

end Sys2Proof.Machine

/-! Entry arrivals, edits and requests about records keep the line in order (R57, R61, R69, R71). -/

namespace Sys2Proof.Machine

variable {s t : State}

/-! ### Entry arrivals (R61) -/

theorem le_of_valid {m : LineMap} (h : m.valid [] = true) : m.line.lMin ≤ m.line.defaultLength := by
  simp only [LineMap.valid, Bool.and_eq_true, decide_eq_true_eq] at h
  obtain ⟨⟨-, length⟩, -⟩ := h
  exact length

/-- R61, step 1: where the arrival is not too close behind the rearmost record, it is too close behind none. -/
theorem leads_of_not_tooClose (h : Lined s) (clear : s.tooClose = false) :
    ∀ r ∈ s.table.live, (s.map.line.lMin : Int) ≤ s.lead r := by
  rcases List.eq_nil_or_concat s.table.live with empty | ⟨ahead, rear, line⟩
  · simp [empty]
  · rw [List.concat_eq_append] at line
    have last : s.table.live.getLast? = some rear := by simp [line]
    rw [tooClose_of_last last, decide_eq_false_iff_not, not_lt] at clear
    intro r live
    rw [line] at live
    rcases List.mem_append.1 live with front | mem
    · have order := h.law.order
      rw [line, List.pairwise_append] at order
      obtain ⟨-, -, order⟩ := order
      have near (q : Record) (mem : q ∈ ahead ++ [rear]) := h.near q (line ▸ mem)
      have spaced := spacedFrom_of_records (near r live) (near rear (by simp)) (order r front rear (by simp))
      exact clear.trans (ediv_scale_mono h.scale (spaced.behind h.scale))
    · obtain rfl := List.mem_singleton.1 mem
      exact clear

theorem span_plated (s : State) (r : Record) : (s.plated r).span = r.span := by
  rw [plated_writes]
  rfl

/-- R57: what stands ahead of a new record at the entry sensor, in line, near and long enough. -/
structure Heads (s : State) (front : List Record) : Prop where
  chain : (front.map Record.span).IsChain (SpacedFrom s.pos.count s.map.line.scale)
  near : ∀ r ∈ front, Near s.pos.count r.entryMark
  lengths : ∀ r ∈ front, s.map.line.lMin ≤ r.length
  reach : ∀ r ∈ front.getLast?, (r.length : Int) ≤ s.lead r

/-- R61, step 5: the clip cuts the rearmost record to its lead, and leaves the line in order. -/
theorem Clips.heads {front : List Record} {a : Attention} (clips : Clips s s.table.live front a) (h : Lined s)
    (leads : ∀ r ∈ s.table.live, (s.map.line.lMin : Int) ≤ s.lead r) : Heads s front := by
  rcases List.eq_nil_or_concat s.table.live with empty | ⟨ahead, rear, line⟩
  · rw [clips.empty empty]
    exact ⟨.nil, by simp, by simp, by simp⟩
  · rw [List.concat_eq_append] at line
    by_cases clear : 0 ≤ s.trail rear
    · rw [clips.clear ahead rear line clear]
      refine ⟨h.chain, h.near, h.law.lengths, fun r last => ?_⟩
      have same : r = rear := by simpa [line, eq_comm] using last
      rw [State.trail] at clear
      rw [same]
      omega
    · obtain ⟨-, rfl⟩ := clips.over' ahead rear line (not_le.1 clear)
      have long := leads rear (by simp [line])
      have span : (s.plated (s.clipped rear)).span = (rear.entryMark, (s.lead rear).toNat) := span_plated ..
      have mark : (s.plated (s.clipped rear)).entryMark = rear.entryMark := congrArg Prod.fst span
      have length : (s.plated (s.clipped rear)).length = (s.lead rear).toNat := congrArg Prod.snd span
      have lead : s.lead (s.plated (s.clipped rear)) = s.lead rear := by rw [State.lead, mark]; rfl
      have chain := h.chain
      rw [line, List.map_append, List.isChain_append] at chain
      obtain ⟨front, -, joint⟩ := chain
      refine ⟨?_, fun r mem => ?_, fun r mem => ?_, fun r last => ?_⟩
      · rw [List.map_append]
        refine front.append (.singleton _) fun x last y first => ?_
        obtain rfl : (s.plated (s.clipped rear)).span = y := by simpa using first
        rw [span]
        exact joint x last rear.span (by simp)
      · rcases List.mem_append.1 mem with front | here
        · exact h.near r (by simp [line, front])
        · obtain rfl := List.mem_singleton.1 here
          rw [mark]
          exact h.near rear (by simp [line])
      · rcases List.mem_append.1 mem with front | here
        · exact h.law.lengths r (by simp [line, front])
        · obtain rfl := List.mem_singleton.1 here
          rw [length]
          omega
      · obtain rfl : s.plated (s.clipped rear) = r := by simpa using last
        rw [length, lead]
        omega

theorem lineOrder_admitCarrier (h : Lined s) (law : TableLaw s) (valid : s.map.valid [] = true)
    (leads : ∀ r ∈ s.table.live, (s.map.line.lMin : Int) ≤ s.lead r) : LineOrderLaw (admitCarrier s) := by
  cases free : freeIndex s.table.live with
  | none =>
    have full : admitCarrier s = s := by rw [admitCarrier, State.nextIndex, free]; rfl
    rw [full]
    exact h.law
  | some i =>
    obtain ⟨new, front, admits, announced, unannounced⟩ := admitCarrier_entered law free
    obtain ⟨map, pos, -⟩ := admitCarrier_keeps s
    obtain ⟨chain, near, lengths, reach⟩ := admits.clips.heads h leads
    have long : s.map.line.lMin ≤ new.length := by
      cases queued : s.table.queue with
      | nil =>
        obtain ⟨slot, w, -, rfl, -⟩ := unannounced queued
        exact le_of_valid valid
      | cons a rest =>
        obtain ⟨rfl, -⟩ := announced a rest queued
        exact Nat.le_max_right ..
    have mark : (s.plated new).entryMark = s.pos.count := (congrArg Prod.fst (span_plated s new)).trans admits.makes.here
    have length : (s.plated new).length = new.length := congrArg Prod.snd (span_plated s new)
    refine lineOrder_between (ahead := front) (behind := []) admits.line ?_ ?_ ?_ .nil ?_ (by simp) ?_
    · rw [map]
      exact h.scale
    · rw [pos, admits.line]
      intro r mem
      rcases List.mem_append.1 mem with ahead | here
      · exact near r ahead
      · obtain rfl := List.mem_singleton.1 here
        rw [mark]
        exact near_self _
    · rw [map, pos]
      exact chain
    · intro r last
      rw [map, Spaced]
      change (r.length : Int) ≤ separation s.map.line.scale r.entryMark (s.plated new).entryMark
      rw [mark]
      exact reach r last
    · rw [map, admits.line]
      intro r mem
      rcases List.mem_append.1 mem with ahead | here
      · exact lengths r ahead
      · obtain rfl := List.mem_singleton.1 here
        exact length ▸ long

theorem Lined.sublist (h : Lined s) (live : t.table.live.Sublist s.table.live) (map : t.map = s.map) (pos : t.pos = s.pos) :
    Lined t where
  scale := map ▸ h.scale
  near r mem := pos ▸ h.near r (live.subset mem)
  law := h.law.of_line (live.map _) (map ▸ ⟨rfl, rfl⟩)

theorem lineOrder_entryArrival (h : Lined s) (law : TableLaw s) (valid : s.map.valid [] = true) :
    LineOrderLaw (entryArrival s) := by
  unfold entryArrival
  split
  · exact h.law.of_same rfl rfl
  · rename_i clear
    have leads := leads_of_not_tooClose h (by simpa using clear)
    split
    · exact lineOrder_admitCarrier h law valid leads
    · split
      · rename_i r _
        have live : (displaceRecord r s).table.live.Sublist s.table.live := by
          have removed : (displaceRecord r s).table.live = (removeRecord r s).table.live := rfl
          rw [removed, removeRecord_table]
          exact removeFirst_sublist ..
        obtain ⟨map, pos, -⟩ := displaceRecord_keeps r s
        refine lineOrder_admitCarrier (h.sublist live map pos) (tableLaw_displaceRecord r law) (map ▸ valid) fun q mem => ?_
        rw [map, lead_of_same map pos]
        exact leads q (live.subset mem)
      · rw [loseCarrier_eq]
        exact h.law.of_line (.refl _) ⟨rfl, rfl⟩

theorem lineOrder_takeEdge (which : Sensor) (h : Lined s) (law : TableLaw s) (valid : s.map.valid [] = true) :
    LineOrderLaw (takeEdge which s) := by
  unfold takeEdge
  dsimp only
  split
  · cases which with
    | entry => exact lineOrder_entryArrival (h.of_same rfl rfl rfl) (law.of_table rfl) valid
    | exit =>
      refine (works_exitArrival _).lineOrder ?_ (h.law.of_same rfl rfl)
      simp
  · exact h.law.of_same rfl rfl

end Sys2Proof.Machine

/-! Every step keeps the law of line order (R57). -/

namespace Sys2Proof.Machine

variable {s t : State}

/-! ### AMEND and PLACE (R69, R71) -/

theorem lengthOverlaps_some {ahead behind : List Record} {r b : Record} {l : Nat} (place : AtPlace s ahead r behind)
    (next : b ∈ behind.head?) (clear : s.lengthOverlaps r (some l) = false) :
    (l : Int) ≤ separation s.map.line.scale r.entryMark b.entryMark := by
  have successor : successorOf r.index r.generation s.table.live = some b := by
    rw [place.line, successorOf_append_cons place.notNamed]
    exact next
  simp only [State.lengthOverlaps, successor, decide_eq_false_iff_not, not_lt] at clear
  exact clear

theorem span_amendedBy (r : Record) (a : Amendment) : (r.amendedBy a).span = (r.entryMark, a.length.getD r.length) := rfl

/-- R69: a new length reaches no further than the record's successor. -/
theorem lineOrder_amended {r : Record} {a : Amendment} (h : Lined s) (law : TableLaw s) (live : r ∈ s.table.live)
    (clear : s.lengthOverlaps r a.length = false) (long : ∀ l, a.length = some l → s.map.line.lMin ≤ l) :
    LineOrderLaw (modifyRecord r.index r.generation (fun q => q.amendedBy a) s) := by
  obtain ⟨ahead, behind, place, -⟩ := law.atPlace live
  have chain := h.chain
  have order := h.law.order
  rw [place.line, List.map_append, List.map_cons] at chain
  rw [place.line, List.pairwise_append, List.pairwise_cons] at order
  obtain ⟨-, ⟨before, -⟩, after⟩ := order
  have lives (P : Record → Prop) (kept : ∀ q ∈ s.table.live, P q) (new : P (r.amendedBy a)) :
      ∀ q ∈ ahead ++ r.amendedBy a :: behind, P q := by
    rw [place.line, List.forall_mem_append, List.forall_mem_cons] at kept
    obtain ⟨front, -, back⟩ := kept
    exact List.forall_mem_append.2 ⟨front, List.forall_mem_cons.2 ⟨new, back⟩⟩
  rw [place.modify]
  refine lineOrder_between (ahead := ahead) (behind := behind) (r := r.amendedBy a) rfl h.scale ?_ chain.left_of_append
    chain.right_of_append.tail (fun q last => after q (List.mem_of_getLast? last) r (List.mem_cons_self ..)) (fun b next => ?_)
    ?_
  · exact lives _ h.near (h.near r live)
  · rw [Spaced, span_amendedBy]
    cases length : a.length with
    | none => exact before b (List.mem_of_mem_head? next)
    | some l =>
      rw [length] at clear
      have reach := lengthOverlaps_some place next clear
      exact reach
  · refine lives _ h.law.lengths ?_
    change s.map.line.lMin ≤ a.length.getD r.length
    cases length : a.length with
    | none => exact h.law.lengths r live
    | some l => exact long l length

theorem lineOrder_applyAmend {r : Record} {a : Amendment} (h : Lined s) (law : TableLaw s) (live : r ∈ s.table.live)
    (clear : s.lengthOverlaps r a.length = false) (long : ∀ l, a.length = some l → s.map.line.lMin ≤ l) :
    LineOrderLaw (applyAmend r a s) := by
  have written := lineOrder_amended h law live clear long
  rw [applyAmend_eq]
  split
  · exact written
  · exact (works_platingEndWatch ..).lineOrder (by simp) written

theorem not_overlaps {scale : Nat} {front behind : Record} (clear : overlaps scale front behind = false) :
    Spaced scale front.span behind.span := by
  rw [overlaps, decide_eq_false_iff_not, not_lt] at clear
  exact (Int.ofNat_le.2 (Nat.le_max_left ..)).trans clear

/-- R71: a placed record overlaps neither the record it stands behind nor the one it stands ahead of. -/
theorem lineOrder_applyPlace {r : Record} (h : Lined s) (clear : s.placeOverlaps r = false)
    (near : Near s.pos.count r.entryMark) (long : s.map.line.lMin ≤ r.length) : LineOrderLaw (applyPlace r s) := by
  refine (works_applyPlace r s).lineOrder (by simp [applyPlace]) ?_
  unfold State.placeOverlaps at clear
  simp only [Bool.or_eq_false_iff] at clear
  dsimp only [insertInLine]
  generalize made : (s.table.live.takeWhile fun q => decide (0 < separation s.map.line.scale q.entryMark r.entryMark))
    = ahead at clear ⊢
  have cut : s.table.live = ahead ++ s.table.live.drop ahead.length := by
    conv_lhs => rw [← List.take_append_drop ahead.length s.table.live]
    rw [← List.prefix_iff_eq_take.mp (made ▸ List.takeWhile_prefix _)]
  generalize s.table.live.drop ahead.length = behind at clear cut ⊢
  obtain ⟨clearAhead, clearBehind⟩ := clear
  have chain := h.chain
  rw [cut, List.map_append] at chain
  have lives (P : Record → Prop) (kept : ∀ q ∈ s.table.live, P q) (new : P r) : ∀ q ∈ ahead ++ r :: behind, P q := by
    rw [cut, List.forall_mem_append] at kept
    obtain ⟨front, back⟩ := kept
    exact List.forall_mem_append.2 ⟨front, List.forall_mem_cons.2 ⟨new, back⟩⟩
  refine lineOrder_between (ahead := ahead) (behind := behind) (r := r) rfl h.scale (lives _ h.near near)
    chain.left_of_append chain.right_of_append (fun a last => ?_) (fun b next => ?_) (lives _ h.law.lengths long)
  · have found : ahead.getLast? = some a := last
    rw [found] at clearAhead
    exact not_overlaps clearAhead
  · have found : behind.head? = some b := next
    rw [found] at clearBehind
    exact not_overlaps clearBehind

/-- R71: a lead of at most 65535 mm is less than 2^30 pulses. -/
theorem near_placedMark {lead : Nat} (short : lead < 65536) (scale : s.map.line.scale ≤ 100000) :
    Near s.pos.count (s.placedMark lead) := by
  have product : lead * s.map.line.scale ≤ 65535 * 100000 := Nat.mul_le_mul (by omega) scale
  have distance : s.pos.count - s.placedMark lead = BitVec.ofNat 32 (lead * s.map.line.scale / 1000) := by
    unfold State.placedMark
    generalize BitVec.ofNat 32 (lead * s.map.line.scale / 1000) = x
    bv_omega
  have small : (BitVec.ofNat 32 (lead * s.map.line.scale / 1000)).toNat = lead * s.map.line.scale / 1000 := by
    rw [BitVec.toNat_ofNat]
    omega
  rw [Near, pulsesBetween, distance, BitVec.toInt_eq_toNat_of_lt (by omega), small]
  omega

theorem amendmentOf_length {lMin : Nat} {f : AmendFields} {a : Amendment} (h : amendmentOf lMin f = some a) :
    ∀ l, a.length = some l → lMin ≤ l := by
  simp only [amendmentOf, Option.bind_eq_bind, Option.bind_eq_some_iff, Option.ite_none_left_eq_some, Option.some.injEq] at h
  obtain ⟨_, _, length, carried, _, _, _, _, _, rfl⟩ := h
  rintro l rfl
  cases part : f.length with
  | none => simp [part, optionalPart] at carried
  | some x =>
    rw [part, optionalPart, Option.map_eq_some_iff] at carried
    obtain ⟨v, read, same⟩ := carried
    obtain rfl := Option.some.inj same
    obtain ⟨⟨low, -⟩, rfl⟩ := inRange_eq_some_iff.1 read
    exact low

theorem placementOf_bounds {lMin : Nat} {f : PlaceFields} {p : Placement} (h : placementOf lMin f = some p) :
    lMin ≤ p.length ∧ p.lead < 65536 := by
  simp only [placementOf, Option.bind_eq_bind, Option.bind_eq_some_iff, Option.some.injEq] at h
  obtain ⟨length, carried, _, _, _, _, rfl⟩ := h
  obtain ⟨⟨low, -⟩, rfl⟩ := inRange_eq_some_iff.1 carried
  exact ⟨low, f.lead.isLt⟩

/-! ### A taken edit of the map (R10, R11) -/

theorem lineOrder_edited {m : LineMap} (h : LineOrderLaw s) (keeps : s.keepsRunning m = true)
    (valid : m.valid s.table.live = true) : LineOrderLaw (applyEdit m s) := by
  have mapped : LineOrderLaw (s.withMap m) := by
    simp only [State.keepsRunning, Bool.and_eq_true, Bool.or_eq_true, beq_iff_eq, List.isEmpty_iff] at keeps
    simp only [LineMap.valid, Bool.and_eq_true, List.all_eq_true, decide_eq_true_eq] at valid
    obtain ⟨⟨⟨⟨⟨-, lengths⟩, -⟩, -⟩, -⟩, -⟩ := valid
    rcases keeps.2 with empty | ⟨scale, -⟩
    · exact lineOrder_empty empty
    · refine ⟨?_, lengths⟩
      rw [State.withMap_map, scale]
      exact h.order
  refine mapped.of_line ?_ (by simp)
  rw [(works_applyEdit m s).spans]
  exact .refl _

theorem applyIdentify_spans (r : Record) (tag : Nat) (slot : Option (Fin 16)) (s : State) :
    (applyIdentify r tag slot s).table.live.map Record.span = s.table.live.map Record.span :=
  map_modifyFirst (f := fun q : Record => { q with tag := tag, slot := slot }) (fun _ => rfl) _

/-- R57: every owner's step keeps the law. -/
theorem Served.lineOrder (h : Served s t) (law : TableLaw s) (ranges : RangeLaw s) (lined : Lined s) :
    LineOrderLaw t := by
  have lineLaw := lined.law
  cases h with
  | still | profile | access | defined | redefined | slotState | erased | speed | ignoredCleared | countersCleared
  | eventsCleared | attention | staleCleared | walked => exact lineLaw.of_line (.refl _) ⟨rfl, rfl⟩
  | addressed => exact lineLaw.of_line (.refl _) ⟨rfl, rfl⟩
  | edited _ _ keeps valid => exact lineOrder_edited lineLaw keeps valid
  | announced _ _ _ taken =>
    obtain ⟨-, rfl⟩ := takeProgram_ok taken
    exact lineLaw.of_line (.refl _) ⟨rfl, rfl⟩
  | cancelled =>
    rw [releaseProgram_eq]
    exact lineLaw.of_line (.refl _) ⟨rfl, rfl⟩
  | amended carried found clear moved =>
    obtain rfl := moveProgram_eq moved
    exact lineOrder_applyAmend (lined.of_same rfl rfl rfl) (law.of_table rfl) (List.mem_of_find?_eq_some found) clear
      (amendmentOf_length carried)
  | identified _ _ _ _ moved =>
    obtain rfl := moveProgram_eq moved
    refine lineLaw.of_line ?_ ⟨rfl, rfl⟩
    rw [applyIdentify_spans]
    exact .refl _
  | placed carried _ _ _ clear taken =>
    obtain ⟨-, rfl⟩ := takeProgram_ok taken
    obtain ⟨long, short⟩ := placementOf_bounds carried
    exact lineOrder_applyPlace (lined.of_same rfl rfl rfl) clear (near_placedMark short ranges.line.encoder.2) long
  | retired =>
    refine (lined.sublist ?_ ?_ ?_).law
    · rw [removeRecord_table]
      exact removeFirst_sublist ..
    · simp
    · simp
  | enabled => exact (works_enterState ..).lineOrder (by simp) (lineLaw.of_same (by simp) (by simp))
  | disabled => exact (works_leaveService ..).lineOrder (by simp) lineLaw
  | halted => exact (works_haltLine s).lineOrder (by simp) lineLaw
  | resumed => exact lineLaw.of_same (by simp) (by simp)
  | lineReset => exact lineOrder_empty (by rw [resetLineNow_table]; rfl)

/-- R57: every event keeps the law. -/
theorem Happened.lineOrder (h : Happened s t) (law : TableLaw s) (valid : s.map.valid [] = true) (lined : Lined s) :
    LineOrderLaw t := by
  have lineLaw := lined.law
  cases h with
  | encoder sense => exact (works_encoderStep sense s).lineOrder (by simp) lineLaw
  | stopTimer => exact (works_stopTimerExpires s).lineOrder (by simp) lineLaw
  | parkTimer => exact (works_parkTimerExpires s).lineOrder (by simp) lineLaw
  | edge which => exact lineOrder_takeEdge which lined law valid
  | otherEdge | skipped | haltInactive | pulseTimer | reminderTimer => exact lineLaw.of_same rfl rfl
  | haltActive => exact (works_haltLine _).lineOrder (by simp) (lineLaw.of_same rfl rfl)
  | period z => exact (works_periodTimerExpires z s).lineOrder (by simp) lineLaw
  | restart z => exact (works_restartTimerExpires z s).lineOrder (by simp) lineLaw
  | frameSent => exact lineLaw.of_same (by simp) (by simp)
  | replyBegun => exact lineLaw.of_same (by simp) (by simp)
  | goodEnd item c st rbs => exact (works_goodEnd item c st rbs s).lineOrder (by simp) (lineLaw.of_same rfl rfl)
  | badEnd item c how => exact (works_badEnd item c how s).lineOrder (by simp) (lineLaw.of_same rfl rfl)

/-- Settles O55: near the count, separations are differences of distances from it, so that neighbours order the whole
line; a record is put between two it does not overlap, cut to its lead, or lengthened up to its successor. -/
theorem lineOrderLawIsKept : Obligations.LineOrderLawIsKept := by
  intro s t law mapLaw ranges near lineLaw h
  obtain ⟨waiting, h⟩ := stepped_of_step h
  have lined : Lined { s with pending := waiting } :=
    ⟨Nat.lt_of_lt_of_le (by decide) ranges.line.encoder.1, near, lineLaw.of_same rfl rfl⟩
  have ranges' : RangeLaw { s with pending := waiting } := ⟨ranges.line, ranges.densities, ranges.ratings,
    ranges.profiles, ranges.programs, ranges.link, ranges.ignored, ranges.channels, ranges.zones, ranges.accounts,
    ranges.records, ranges.announced, ranges.speed, ranges.station, ranges.interval⟩
  exact h.keeps lined.law (fun _ _ => lineOrder_empty rfl) (fun _ => (works_haltLine _).lineOrder (by simp) (lineOrder_empty rfl))
    (lineLaw.of_same rfl rfl) (fun _ _ k => k.lineOrder (law.of_table rfl) mapLaw.valid lined)
    (fun _ _ k => k.lineOrder (law.of_table rfl) ranges' lined) (fun _ _ k => k.of_same rfl rfl) (fun _ k => k.of_same rfl rfl)

end Sys2Proof.Machine

/-! Every step keeps the law of reference counts (R31). -/

namespace Sys2Proof.Machine

variable {s t u : State}

/-! ### Reference counts and what refers (R31, R32) -/

/-- R31: the slots count the references of a list of program choices. -/
structure Refers (p : Vector Slot 16) (l : List (Option (Fin 16))) : Prop where
  counts : ∀ k : Fin 16, p[k].refs = l.count (some k)
  empty : ∀ k : Fin 16, p[k].state = .empty → p[k].refs = 0

section
variable {p q : Vector Slot 16} {l m : List (Option (Fin 16))}

theorem Refers.perm (h : Refers p l) (same : l.Perm m) : Refers p m :=
  ⟨fun k => (h.counts k).trans (same.count_eq _), h.empty⟩

/-- R31: a taken reference, on a slot that takes it. -/
theorem Refers.take {slot : Option (Fin 16)} (h : Refers p l)
    (taken : ∀ k : Fin 16, slot = some k → p[k].state = .opened ∨ p[k].state = .frozen) :
    Refers (addRef slot p) (slot :: l) := by
  refine ⟨fun k => ?_, fun k => ?_⟩
  · rw [addRef_get, List.count_cons, h.counts]
    simp only [beq_iff_eq]
  · rw [addRef_get]
    intro state
    have state : p[k].state = .empty := state
    have other : slot ≠ some k := fun is => by
      rcases taken k is with opened | frozen
      · cases state.symm.trans opened
      · cases state.symm.trans frozen
    rw [if_neg other]
    exact h.empty k state

/-- R31: a released reference. -/
theorem Refers.drop {slot : Option (Fin 16)} (h : Refers p (slot :: l)) : Refers (dropRef slot p) l := by
  refine ⟨fun k => ?_, fun k => ?_⟩
  · rw [dropRef_get, h.counts, List.count_cons]
    simp only [beq_iff_eq, Nat.add_sub_cancel]
  · rw [dropRef_get]
    intro state
    have zero : p[k].refs = 0 := h.empty k state
    dsimp only
    rw [zero, Nat.zero_sub]

theorem Refers.move {old new : Option (Fin 16)} (h : Refers p (old :: l))
    (taken : old ≠ new → ∀ k : Fin 16, new = some k → p[k].state = .opened ∨ p[k].state = .frozen) :
    Refers (moveRef old new p) (new :: l) := by
  unfold moveRef
  split
  · rename_i same
    exact same ▸ h
  · rename_i other
    exact ((h.take (taken other)).perm (.swap ..)).drop

/-- R25: a slot changed in its state and values, with its count kept, and 0 where it is EMPTY. -/
theorem Refers.modify (h : Refers p l) {k : Fin 16} {x : Slot} (refs : x.refs = p[k].refs)
    (empty : x.state = .empty → x.refs = 0) : Refers (bankSet p k x) l := by
  refine ⟨fun j => ?_, fun j => ?_⟩
  · rw [bankSet_get]
    split
    · rename_i same
      rw [refs, same, h.counts]
    · exact h.counts j
  · rw [bankSet_get]
    split
    · exact empty
    · exact h.empty j

end

/-- The program choices of the live records and of the queued announcements. -/
def CarrierTable.slots (c : CarrierTable) : List (Option (Fin 16)) :=
  c.live.map Record.slot ++ c.queue.map Announcement.slot

theorem referenceLaw_iff : ReferenceLaw s ↔ Refers s.programs s.table.slots := by
  have naming (k : Fin 16) : s.naming k = s.table.slots.count (some k) := by
    rw [State.naming, CarrierTable.slots, List.count_append, List.count_eq_countP, List.count_eq_countP, List.countP_map,
      List.countP_map]
    rfl
  exact ⟨fun h => ⟨fun k => (h.counts k).trans (naming k), h.empty⟩,
    fun h => ⟨fun k => (h.counts k).trans (naming k).symm, h.empty⟩⟩

/-- The law speaks of the slots, of the records' and of the announcements' choices. -/
theorem ReferenceLaw.of_slots (h : ReferenceLaw s) (programs : t.programs = s.programs)
    (slots : t.table.slots.Perm s.table.slots) : ReferenceLaw t := by
  rw [referenceLaw_iff, programs]
  exact (referenceLaw_iff.1 h).perm slots.symm

theorem ReferenceLaw.of_table (h : ReferenceLaw s) (programs : t.programs = s.programs) (table : t.table = s.table) :
    ReferenceLaw t := h.of_slots programs (by rw [table])

theorem slots_of_live {a b : CarrierTable} (live : b.live.map Record.slot = a.live.map Record.slot)
    (queue : b.queue = a.queue) : b.slots = a.slots := by
  rw [CarrierTable.slots, live, queue]
  rfl

theorem Works.slots {E : List Event} (w : Works E s t) : t.table.slots = s.table.slots := by
  refine slots_of_live (map_eq_of_forall₂ (R := Record.Worked) (fun _ _ k => k.slot) w.table.live) ?_
  rw [w.table.rest]

theorem Works.references {E : List Event} (w : Works E s t) (programs : t.programs = s.programs) (h : ReferenceLaw s) :
    ReferenceLaw t := h.of_slots programs (w.slots ▸ .refl _)

theorem references_empty (programs : ∀ k : Fin 16, t.programs[k].refs = 0) (slots : t.table.slots = []) : ReferenceLaw t := by
  rw [referenceLaw_iff, slots]
  exact ⟨fun k => programs k, fun k _ => programs k⟩

/-! ### A record or an announcement removed (R61, R72) -/

theorem perm_removeFirst {α : Type} {test : α → Bool} {l : List α} {x : α} (found : l.find? test = some x) :
    l.Perm (x :: removeFirst test l) := by
  obtain ⟨is, ahead, behind, rfl, passed⟩ := List.find?_eq_some_iff_append.1 found
  rw [removeFirst_append (fun y mem => by simpa using passed y mem) is]
  exact List.perm_middle

theorem slots_live_perm {a b : CarrierTable} {l : List (Option (Fin 16))} (queue : b.queue = a.queue)
    (live : (a.live.map Record.slot).Perm (l ++ b.live.map Record.slot)) : a.slots.Perm (l ++ b.slots) := by
  rw [CarrierTable.slots, CarrierTable.slots, queue, ← List.append_assoc]
  exact live.append_right _

theorem references_removeRecord {r : Record} (law : TableLaw s) (live : r ∈ s.table.live) (h : ReferenceLaw s) :
    ReferenceLaw (removeRecord r s) := by
  obtain ⟨ahead, behind, place, -⟩ := law.atPlace live
  rw [referenceLaw_iff, removeRecord_programs, removeRecord_table]
  refine ((referenceLaw_iff.1 h).perm ?_).drop
  exact slots_live_perm (l := [r.slot]) rfl ((perm_removeFirst place.find).map Record.slot)

/-! ### Entry arrivals (R61) -/

theorem clipRearmost_slots (rear : Option Record) (s : State) : (clipRearmost rear s).table.slots = s.table.slots := by
  unfold clipRearmost
  split
  · rfl
  · split
    · rw [(works_platingEndWatch ..).slots]
      refine slots_of_live ?_ rfl
      exact map_modifyFirst (f := fun q : Record => { q with length := (s.lead q).toNat, marks := { q.marks with clipped := true } })
        (fun _ => rfl) _
    · rfl

theorem references_admitCarrier (h : ReferenceLaw s) : ReferenceLaw (admitCarrier s) := by
  have law := referenceLaw_iff.1 h
  unfold admitCarrier
  split
  · exact h
  · rename_i i g _
    dsimp only
    refine (works_exitWindowWatch ..).references (by simp) ((works_platingEndWatch ..).references (by simp) ?_)
    rw [referenceLaw_iff, clipRearmost_slots, (clipRearmost_keeps ..).2.1]
    split
    · rename_i a rest queued
      rw [bindAnnouncement_eq, (raise_keeps ..).2.1, (raise_keeps ..).2.2.2.1, (putRecord_keeps ..).2.1]
      refine law.perm ?_
      rw [CarrierTable.slots, queued, CarrierTable.slots]
      simp only [putRecord, State.withTable_table, List.map_append, List.map_cons, List.map_nil, List.append_assoc]
      exact .refl _
    · rename_i empty
      obtain ⟨slot, w, takes, made⟩ := makeUnannounced_eq i g s
      obtain ⟨-, -, table, -⟩ := takes.keeps
      rw [made, (raise_keeps ..).2.1, (raise_keeps ..).2.2.2.1, (putRecord_keeps ..).2.1, takes.programs]
      refine (law.take fun k is => ?_).perm ?_
      · rcases takes with ⟨rfl, taken⟩ | ⟨rfl, -⟩
        · exact (takeProgram_ok taken).1 k is
        · cases is
      · simp only [CarrierTable.slots, putRecord, State.withTable_table, table, empty, List.map_append, List.map_cons,
          List.map_nil, List.append_nil]
        exact (List.perm_append_singleton _ _).symm

theorem references_loseCarrier (h : ReferenceLaw s) : ReferenceLaw (loseCarrier s) := by
  rw [referenceLaw_iff, loseCarrier_eq]
  have law := referenceLaw_iff.1 h
  dsimp only
  cases queued : s.table.queue with
  | nil =>
    refine law.perm ?_
    rw [CarrierTable.slots, CarrierTable.slots, queued]
    exact .refl _
  | cons a rest =>
    refine Refers.drop (slot := a.slot) (law.perm ?_)
    rw [CarrierTable.slots, CarrierTable.slots, queued]
    exact List.perm_middle

theorem references_entryArrival (law : TableLaw s) (h : ReferenceLaw s) : ReferenceLaw (entryArrival s) := by
  unfold entryArrival
  split
  · exact h.of_table rfl rfl
  · split
    · exact references_admitCarrier h
    · split
      · rename_i r found
        have removed := references_removeRecord law (List.mem_of_find?_eq_some found) h
        exact references_admitCarrier (removed.of_slots (by simp [displaceRecord]) (.of_eq rfl))
      · exact references_loseCarrier h

theorem references_takeEdge (which : Sensor) (law : TableLaw s) (h : ReferenceLaw s) : ReferenceLaw (takeEdge which s) := by
  unfold takeEdge
  dsimp only
  split
  · cases which with
    | entry => exact references_entryArrival (law.of_table rfl) (h.of_table rfl rfl)
    | exit => exact (works_exitArrival _).references (by simp) (h.of_table rfl rfl)
  · exact h.of_table rfl rfl

/-! ### Requests -/

/-- R31, R69, R70: a record's choice changed, with the reference moved. -/
theorem references_rechosen {r : Record} {new : Option (Fin 16)} {f : Record → Record} (law : TableLaw s)
    (live : r ∈ s.table.live) (h : ReferenceLaw s) (moved : moveProgram r.slot new s = .ok u) (slot : (f r).slot = new) :
    ReferenceLaw (modifyRecord r.index r.generation f u) := by
  obtain ⟨ahead, behind, place, -⟩ := law.atPlace live
  have programs := moveProgram_eq moved
  have assignable : r.slot ≠ new → s.assignable new := fun other => by
    rcases moveProgram_ok moved with ⟨same, -⟩ | ⟨-, v, taken, -⟩
    · exact absurd same other
    · exact (takeProgram_ok taken).1
  have place : AtPlace u ahead r behind := by
    rw [programs]
    exact ⟨place.line, place.others⟩
  have sameQueue : u.table.queue = s.table.queue := by rw [programs]; rfl
  have sameLive : u.table.live = s.table.live := by rw [programs]; rfl
  rw [place.modify, referenceLaw_iff]
  have before : s.table.slots.Perm (r.slot :: (ahead.map Record.slot ++ behind.map Record.slot
      ++ s.table.queue.map Announcement.slot)) := by
    rw [CarrierTable.slots, ← sameLive, place.line, List.map_append, List.map_cons]
    exact List.perm_middle.append_right _
  have after : (u.withLive (ahead ++ f r :: behind)).table.slots.Perm (new :: (ahead.map Record.slot
      ++ behind.map Record.slot ++ s.table.queue.map Announcement.slot)) := by
    rw [CarrierTable.slots, ← slot, ← sameQueue]
    simp only [State.withLive, State.withTable, List.map_append, List.map_cons]
    exact List.perm_middle.append_right _
  have counted := (((referenceLaw_iff.1 h).perm before).move assignable).perm after.symm
  rw [programs] at counted ⊢
  exact counted

theorem references_placed {r : Record} (h : ReferenceLaw s) (taken : takeProgram r.slot s = .ok u) :
    ReferenceLaw (applyPlace r u) := by
  obtain ⟨assignable, rfl⟩ := takeProgram_ok taken
  refine (works_applyPlace r _).references (by simp [applyPlace]) ?_
  rw [referenceLaw_iff]
  obtain ⟨ahead, behind, line, inserted⟩ := insertInLine_split s.map.line.scale r s.table.live
  refine ((referenceLaw_iff.1 h).take assignable).perm ?_
  have line' : (putRecord (insertInLine s.map.line.scale r s.table.live) r
      (s.withPrograms (addRef r.slot s.programs))).table.slots
      = (insertInLine s.map.line.scale r s.table.live).map Record.slot ++ s.table.queue.map Announcement.slot := rfl
  rw [CarrierTable.slots, line]
  refine List.Perm.trans ?_ (.of_eq line'.symm)
  rw [inserted, List.map_append, List.map_append, List.map_cons]
  exact (List.perm_middle.append_right _).symm

theorem references_modifySlot {k : Fin 16} {f : Slot → Slot} (h : ReferenceLaw s)
    (refs : (f s.programs[k]).refs = s.programs[k].refs) (empty : (f s.programs[k]).state = .empty → (f s.programs[k]).refs = 0) :
    ReferenceLaw (s.modifySlot k f) := referenceLaw_iff.2 ((referenceLaw_iff.1 h).modify refs empty)

/-- R31: every owner's step keeps the law. -/
theorem Served.references (k : Served s t) (law : TableLaw s) (h : ReferenceLaw s) : ReferenceLaw t := by
  cases k with
  | still | profile | access | speed | ignoredCleared | addressed | countersCleared | eventsCleared | attention
  | staleCleared => exact h.of_table rfl rfl
  | walked => exact h.of_slots rfl (.refl _)
  | defined _ empty => exact references_modifySlot h (h.empty _ empty).symm fun _ => rfl
  | redefined _ opened => exact references_modifySlot h rfl fun empty => nomatch opened.symm.trans empty
  | slotState _ after => exact references_modifySlot h rfl fun empty => absurd empty after
  | erased free => exact references_modifySlot h rfl fun _ => free
  | edited => exact (works_applyEdit ..).references (applyEdit_keeps ..).1 h
  | announced _ _ _ taken =>
    obtain ⟨assignable, rfl⟩ := takeProgram_ok taken
    refine referenceLaw_iff.2 (((referenceLaw_iff.1 h).take assignable).perm ?_)
    simp only [CarrierTable.slots, State.withTable_table, State.withPrograms_table, List.map_append, List.map_cons,
      List.map_nil, ← List.append_assoc]
    exact (List.perm_append_singleton _ _).symm
  | cancelled found =>
    rw [releaseProgram_eq]
    refine referenceLaw_iff.2 (Refers.drop (p := s.programs) ((referenceLaw_iff.1 h).perm ?_))
    rw [CarrierTable.slots, ((perm_removeFirst found).map Announcement.slot).append_left _ |>.congr_left]
    exact List.perm_middle
  | amended _ found _ moved =>
    rw [applyAmend_eq]
    have written := references_rechosen (f := fun q => q.amendedBy _) law (List.mem_of_find?_eq_some found) h moved rfl
    split
    · exact written
    · exact (works_platingEndWatch ..).references (by simp) written
  | identified _ found _ _ moved => exact references_rechosen law (findRecord_some found).1 h moved rfl
  | placed _ _ _ _ _ taken => exact references_placed h taken
  | retired live => exact references_removeRecord law live h
  | enabled => exact (works_enterState ..).references (by simp) (h.of_table (by simp) (by simp))
  | disabled => exact (works_leaveService ..).references (by simp) h
  | halted => exact (works_haltLine s).references (by simp) h
  | resumed => exact h.of_table (by simp) (by simp)
  | lineReset => exact references_empty (fun j => by simp [resetLineNow, clearForReset]) (by rw [resetLineNow_table]; rfl)

/-- R31: every event keeps the law. -/
theorem Happened.references (k : Happened s t) (law : TableLaw s) (h : ReferenceLaw s) : ReferenceLaw t := by
  cases k with
  | encoder sense => exact (works_encoderStep sense s).references (by simp) h
  | stopTimer => exact (works_stopTimerExpires s).references (by simp) h
  | parkTimer => exact (works_parkTimerExpires s).references (by simp) h
  | edge which => exact references_takeEdge which law h
  | otherEdge | skipped | haltInactive | pulseTimer | reminderTimer => exact h.of_table rfl rfl
  | haltActive => exact (works_haltLine _).references (by simp) (h.of_table rfl rfl)
  | period z => exact (works_periodTimerExpires z s).references (by simp) h
  | restart z => exact (works_restartTimerExpires z s).references (by simp) h
  | frameSent => exact h.of_table (by simp) (by simp)
  | replyBegun => exact h.of_table (by simp) (by simp)
  | goodEnd item c st rbs => exact (works_goodEnd item c st rbs s).references (by simp) (h.of_table rfl rfl)
  | badEnd item c how => exact (works_badEnd item c how s).references (by simp) (h.of_table rfl rfl)

/-- R31: every step keeps the law of reference counts. -/
theorem references_kept (law : TableLaw s) (h : ReferenceLaw s) (k : step s = .next t) : ReferenceLaw t := by
  obtain ⟨waiting, k⟩ := stepped_of_step k
  have powerOn (pins : Pins) : ReferenceLaw (powerOnState pins waiting) :=
    references_empty (fun k => by simp [powerOnState, State.reset, Slot.powerOn]) rfl
  exact k.keeps (Law := ReferenceLaw) (h.of_table rfl rfl) (fun pins _ => powerOn pins)
    (fun pins => (works_haltLine _).references (by simp) (powerOn pins)) (h.of_table rfl rfl)
    (fun _ _ k => k.references (law.of_table rfl) (h.of_table rfl rfl))
    (fun _ _ k => k.references (law.of_table rfl) (h.of_table rfl rfl)) (fun _ _ k => k.of_table rfl rfl)
    (fun _ k => k.of_table rfl rfl)

end Sys2Proof.Machine

/-! Pending counts and pending entries (R66): how many hold calls and release entry calls each record has had, and which
entries of the pending lists are still to be released. -/

namespace Sys2Proof.Machine

variable {s t u : State} {z : Fin 16}

/-! ### Counts of a line -/

/-- The index, the generation and the pending count of a record, of which alone R66 speaks. -/
structure Tally where
  index : Fin 64
  generation : BitVec 8
  count : Nat

/-- The index, the generation and the pending count of a record. -/
def Record.tally (r : Record) : Tally := ⟨r.index, r.generation, r.pendingCount⟩

/-- The entry names the record that the tally is of. -/
def Entry.isOf (e : Entry) (x : Tally) : Bool := e.index == x.index && e.generation == x.generation

/-- R66: the tally after a release of each of these entries. -/
def Tally.lessen (E : List Entry) (x : Tally) : Tally := { x with count := x.count - E.countP fun e => e.isOf x }

/-- R66: the tally after a hold of each of these entries. -/
def Tally.hold (E : List Entry) (x : Tally) : Tally := { x with count := x.count + E.countP fun e => e.isOf x }

/-- R66: no index stands twice, and each count is the number of these entries that name its record. -/
structure Tallied (l : List Tally) (E : List Entry) : Prop where
  distinct : (l.map Tally.index).Nodup
  counts : ∀ x ∈ l, x.count = E.countP fun e => e.isOf x

section
variable {l m : List Tally} {E F : List Entry}

theorem Tallied.perm (h : Tallied l E) (same : E.Perm F) : Tallied l F :=
  ⟨h.distinct, fun x mem => (h.counts x mem).trans (same.countP_eq _)⟩

theorem Tallied.sublist (h : Tallied l E) (sub : m.Sublist l) : Tallied m E :=
  ⟨(sub.map _).nodup h.distinct, fun x mem => h.counts x (sub.subset mem)⟩

theorem map_index_lessen (E : List Entry) (l : List Tally) : (l.map (Tally.lessen E)).map Tally.index = l.map Tally.index := by
  rw [List.map_map]
  rfl

theorem map_index_hold (E : List Entry) (l : List Tally) : (l.map (Tally.hold E)).map Tally.index = l.map Tally.index := by
  rw [List.map_map]
  rfl

theorem Tallied.lessen (h : Tallied l (E ++ F)) : Tallied (l.map (Tally.lessen E)) F := by
  refine ⟨(map_index_lessen E l).symm ▸ h.distinct, fun y mem => ?_⟩
  obtain ⟨x, old, rfl⟩ := List.mem_map.1 mem
  have count := h.counts x old
  rw [List.countP_append] at count
  change x.count - E.countP (fun e => e.isOf x) = F.countP fun e => e.isOf x
  omega

theorem Tallied.hold (h : Tallied l F) (E : List Entry) : Tallied (l.map (Tally.hold E)) (E ++ F) := by
  refine ⟨(map_index_hold E l).symm ▸ h.distinct, fun y mem => ?_⟩
  obtain ⟨x, old, rfl⟩ := List.mem_map.1 mem
  have count := h.counts x old
  rw [List.countP_append]
  change x.count + E.countP (fun e => e.isOf x) = E.countP (fun e => e.isOf x) + F.countP fun e => e.isOf x
  omega

/-- R55, R66: a new record at a free index, which no pending entry names. -/
theorem Tallied.insert {x : Tally} (h : Tallied l E) (more : m.Perm (x :: l)) (free : ∀ y ∈ l, y.index ≠ x.index)
    (zero : x.count = 0) (unnamed : ∀ e ∈ E, e.isOf x = false) : Tallied m E := by
  refine ⟨(more.map Tally.index).nodup_iff.2 (List.nodup_cons.2 ⟨fun mem => ?_, h.distinct⟩), fun y mem => ?_⟩
  · obtain ⟨y, old, same⟩ := List.mem_map.1 mem
    exact free y old same
  · rcases List.mem_cons.1 (more.subset mem) with rfl | old
    · rw [zero, eq_comm, List.countP_eq_zero]
      exact fun e pending => by simp [unnamed e pending]
    · exact h.counts y old

end

theorem lessen_nil : Tally.lessen [] = id := rfl

theorem lessen_append (E F : List Entry) : Tally.lessen (E ++ F) = Tally.lessen F ∘ Tally.lessen E := by
  funext x
  change Tally.mk _ _ _ = Tally.mk _ _ _
  rw [List.countP_append, ← Nat.sub_sub]
  rfl

/-- The tallies of the live records. -/
def State.tallies (s : State) : List Tally := s.table.live.map Record.tally

theorem tallies_index (s : State) : s.tallies.map Tally.index = s.table.live.map Record.index := by
  rw [State.tallies, List.map_map]
  rfl

/-! ### Snapshots and their entries (R78, R79) -/

/-- What the law of pending counts reads of a side. -/
def Side.load (d : Side) : Fin 32 × Bool × Nat × List Entry := (d.channel, d.closed, d.aZ, d.entries)

/-- What the law of pending counts reads of a snapshot. -/
def Snapshot.load (n : Snapshot) : List (Fin 32 × Bool × Nat × List Entry) := n.sides.map Side.load

/-- R78, R79, R93: the sides are on different channels, A_z is the sum of the areas, and no area is 0. -/
structure Snapshot.Sound (n : Snapshot) : Prop where
  areas : ∀ d ∈ n.sides, d.aZ = totalArea d.entries ∧ ∀ e ∈ d.entries, 0 < e.area
  channels : (n.sides.map Side.channel).Nodup

theorem openEntries_of_load {m n : Snapshot} (same : n.load = m.load) : n.openEntries = m.openEntries := by
  have read (k : Snapshot) : k.openEntries = (k.load.filter fun x => !x.2.1).flatMap fun x => x.2.2.2 := by
    rw [Snapshot.load, List.filter_map, List.flatMap_map]
    rfl
  rw [read, read, same]

theorem Snapshot.Sound.of_load {m n : Snapshot} (h : m.Sound) (same : n.load = m.load) : n.Sound := by
  refine ⟨fun d mem => ?_, ?_⟩
  · have inLoad : d.load ∈ m.load := same ▸ List.mem_map_of_mem mem
    obtain ⟨e, old, is⟩ := List.mem_map.1 inLoad
    simp only [Side.load, Prod.mk.injEq] at is
    obtain ⟨-, -, area, entries⟩ := is
    rw [← area, ← entries]
    exact h.areas e old
  · have read (k : Snapshot) : k.sides.map Side.channel = k.load.map Prod.fst := by
      rw [Snapshot.load, List.map_map]
      rfl
    rw [read, same, ← read]
    exact h.channels

/-- R66: the entries of the zone's open sides. -/
def State.pendingOf (s : State) (z : Fin 16) : List Entry := s.zones[z].pending.flatMap Snapshot.openEntries

theorem pendingEntries_eq (s : State) : s.pendingEntries = zoneNumbers.flatMap s.pendingOf := rfl

/-- R66: one zone alone has more pending entries. -/
theorem pendingEntries_perm {E : List Entry} (others : OthersKept z s t) (own : (t.pendingOf z).Perm (E ++ s.pendingOf z)) :
    t.pendingEntries.Perm (E ++ s.pendingEntries) := by
  obtain ⟨before, after, split, notBefore, notAfter⟩ := zoneNumbers_split z
  have same (l : List (Fin 16)) (absent : z ∉ l) : l.flatMap t.pendingOf = l.flatMap s.pendingOf :=
    List.flatMap_congr fun y mem => by
      rw [State.pendingOf, others.kept y fun is => absent (is ▸ mem)]
      rfl
  rw [pendingEntries_eq, pendingEntries_eq, split, List.flatMap_append, List.flatMap_append, List.flatMap_cons,
    List.flatMap_cons, same before notBefore, same after notAfter]
  refine ((own.append_right _).append_left _).trans ?_
  rw [List.append_assoc, ← List.append_assoc, ← List.append_assoc (as := E)]
  exact List.perm_append_comm.append_right _

/-! ### The law, with the law of tags that it needs (R55, R66) -/

/-- R66 with R55: every index stands once, every pending count is the number of pending entries that name its record, and
every pending snapshot is sound. -/
structure Holds (s : State) : Prop where
  tallied : Tallied s.tallies s.pendingEntries
  sound : ∀ z : Fin 16, ∀ n ∈ s.zones[z].pending, n.Sound

theorem Holds.distinct (h : Holds s) : (s.table.live.map Record.index).Nodup := tallies_index s ▸ h.tallied.distinct

theorem holds_of_law (distinct : (s.table.live.map Record.index).Nodup) (h : HoldLaw s) : Holds s :=
  ⟨⟨(tallies_index s).symm ▸ distinct, List.forall_mem_map.2 h.counts⟩,
    fun z n mem => ⟨h.areas z n mem, h.channels z n mem⟩⟩

theorem Holds.law (h : Holds s) : HoldLaw s where
  counts r live := h.tallied.counts r.tally (List.mem_map_of_mem live)
  areas z n mem := (h.sound z n mem).areas
  channels z n mem := (h.sound z n mem).channels

/-- What the zones hold, as the law reads it. -/
structure SameLoads (s t : State) : Prop where
  each : ∀ z : Fin 16, t.zones[z].pending.map Snapshot.load = s.zones[z].pending.map Snapshot.load

theorem SameLoads.of_zones (h : t.zones = s.zones) : SameLoads s t := ⟨fun _ => by rw [h]⟩

theorem SameLoads.of_othersKept (others : OthersKept z s t)
    (own : t.zones[z].pending.map Snapshot.load = s.zones[z].pending.map Snapshot.load) : SameLoads s t := ⟨fun y => by
  by_cases here : y = z
  · exact here ▸ own
  · rw [others.kept y here]⟩

theorem SameLoads.trans (h : SameLoads s t) (k : SameLoads t u) : SameLoads s u :=
  ⟨fun z => (k.each z).trans (h.each z)⟩

theorem flatMap_openEntries {l m : List Snapshot} (same : l.map Snapshot.load = m.map Snapshot.load) :
    l.flatMap Snapshot.openEntries = m.flatMap Snapshot.openEntries := by
  induction l generalizing m with
  | nil => rw [List.map_eq_nil_iff.1 same.symm]
  | cons n l ih =>
    obtain ⟨k, rest, rfl, first, later⟩ := List.map_eq_cons_iff.1 same.symm
    rw [List.flatMap_cons, List.flatMap_cons, openEntries_of_load first, ih later.symm]

theorem sound_of_loads {l m : List Snapshot} (same : l.map Snapshot.load = m.map Snapshot.load) (h : ∀ n ∈ m, n.Sound) :
    ∀ n ∈ l, n.Sound := fun n mem => by
  obtain ⟨k, old, is⟩ := List.mem_map.1 (same ▸ List.mem_map_of_mem mem : n.load ∈ m.map Snapshot.load)
  exact (h k old).of_load is.symm

/-- Records may leave; the counts of the others and the pending lists are as they were. -/
theorem Holds.of_loads (h : Holds s) (tallies : t.tallies.Sublist s.tallies) (loads : SameLoads s t) : Holds t := by
  have pending : t.pendingEntries = s.pendingEntries := by
    rw [pendingEntries_eq, pendingEntries_eq]
    exact List.flatMap_congr fun z _ => flatMap_openEntries (loads.each z)
  exact ⟨pending ▸ h.tallied.sublist tallies, fun z => sound_of_loads (loads.each z) (h.sound z)⟩

theorem Holds.of_same (h : Holds s) (table : t.table = s.table) (zones : t.zones = s.zones) : Holds t :=
  h.of_loads (by rw [State.tallies, table]; exact .refl _) (.of_zones zones)

theorem Holds.of_tallies (h : Holds s) (tallies : t.tallies = s.tallies) (zones : t.zones = s.zones) : Holds t :=
  h.of_loads (tallies ▸ .refl _) (.of_zones zones)

theorem sound_of_othersKept (h : Holds s) (others : OthersKept z s t) (own : ∀ n ∈ t.zones[z].pending, n.Sound) :
    ∀ y : Fin 16, ∀ n ∈ t.zones[y].pending, n.Sound := fun y => by
  by_cases here : y = z
  · exact here ▸ own
  · rw [others.kept y here]
    exact h.sound y

theorem OthersKept.symm (h : OthersKept z s t) : OthersKept z t s := ⟨fun y other => (h.kept y other).symm⟩

/-- R66: a zone gives up pending entries, each released. -/
theorem Holds.lose {E : List Entry} (h : Holds s) (others : OthersKept z s t)
    (own : (s.pendingOf z).Perm (E ++ t.pendingOf z)) (sound : ∀ n ∈ t.zones[z].pending, n.Sound)
    (tallies : t.tallies = s.tallies.map (Tally.lessen E)) : Holds t :=
  ⟨tallies ▸ (h.tallied.perm (pendingEntries_perm others.symm own)).lessen, sound_of_othersKept h others sound⟩

/-- R66: a zone has new pending entries, each held. -/
theorem Holds.gain {E : List Entry} (h : Holds s) (others : OthersKept z s t)
    (own : (t.pendingOf z).Perm (E ++ s.pendingOf z)) (sound : ∀ n ∈ t.zones[z].pending, n.Sound)
    (tallies : t.tallies = s.tallies.map (Tally.hold E)) : Holds t :=
  ⟨tallies ▸ (h.tallied.hold E).perm (pendingEntries_perm others own).symm, sound_of_othersKept h others sound⟩

theorem holds_foldl {α : Type} {f : State → α → State} (each : ∀ s a, Holds s → Holds (f s a)) (l : List α) {s : State}
    (h : Holds s) : Holds (l.foldl f s) := by
  induction l generalizing s with
  | nil => exact h
  | cons a l ih => exact ih (each s a h)

theorem holds_of_empty (live : t.table.live = []) (pending : ∀ z : Fin 16, t.zones[z].pending = []) : Holds t := by
  refine ⟨⟨by simp [State.tallies, live], by simp [State.tallies, live]⟩, fun z n mem => ?_⟩
  rw [pending z] at mem
  cases mem

end Sys2Proof.Machine

/-! Closures, discards and new snapshots keep the pending counts at the pending entries (R66, R79, R80, R103, R104). -/

namespace Sys2Proof.Machine

variable {s t u : State} {z : Fin 16}

/-! ### What the calls and the watches make of the tallies -/

theorem tallies_modifyRecord (i : Fin 64) (g : BitVec 8) {f : Record → Record} (same : ∀ r, (f r).tally = r.tally)
    (s : State) : (modifyRecord i g f s).tallies = s.tallies := map_modifyFirst same _

theorem tallies_of_table (h : t.table = s.table) : t.tallies = s.tallies := by
  rw [State.tallies, h]
  rfl

theorem tallies_settleOutcome (i : Fin 64) (g : BitVec 8) (s : State) : (settleOutcome i g s).tallies = s.tallies := by
  have judged : (modifyRecord i g (fun r => { r with outcome := some r.judge }) s).tallies = s.tallies :=
    tallies_modifyRecord i g (fun _ => by rfl) s
  unfold settleOutcome
  split
  · rfl
  · split
    · dsimp only
      split
      · exact (tallies_of_table (raise_keeps ..).2.2.2.1).trans judged
      · exact judged
    · rfl

theorem tallies_testTarget (i : Fin 64) (g : BitVec 8) (f : Face) (s : State) :
    (testTarget i g f s).tallies = s.tallies := by
  unfold testTarget
  split
  · rfl
  · split
    · exact (tallies_of_table (raise_keeps ..).2.2.2.1).trans (tallies_modifyRecord i g (fun _ => by cases f <;> rfl) s)
    · rfl

theorem tallies_creditRecord (i : Fin 64) (g : BitVec 8) (f : Face) (fwd rev : Nat) (kind : ClosureKind) (s : State) :
    (creditRecord i g f fwd rev kind s).tallies = s.tallies :=
  (tallies_testTarget ..).trans (tallies_modifyRecord i g (fun _ => by cases f <;> cases kind <;> rfl) s)

theorem tallies_platingEndWatch (i : Fin 64) (g : BitVec 8) (s : State) : (platingEndWatch i g s).tallies = s.tallies := by
  unfold platingEndWatch
  split
  · rfl
  · split
    · exact (tallies_settleOutcome ..).trans (tallies_modifyRecord i g (fun _ => by rfl) s)
    · rfl

theorem tallies_exitWindowWatch (i : Fin 64) (g : BitVec 8) (s : State) : (exitWindowWatch i g s).tallies = s.tallies := by
  unfold exitWindowWatch
  split
  · rfl
  · split
    · exact (tallies_of_table (raise_keeps ..).2.2.2.1).trans (tallies_modifyRecord i g (fun _ => by rfl) s)
    · rfl

theorem tallies_foldl {α : Type} {f : State → α → State} (each : ∀ s a, (f s a).tallies = s.tallies) (l : List α)
    (s : State) : (l.foldl f s).tallies = s.tallies := by
  induction l generalizing s with
  | nil => rfl
  | cons a l ih => exact (ih _).trans (each s a)

theorem tallies_platingEndWatchAll (s : State) : (platingEndWatchAll s).tallies = s.tallies :=
  tallies_foldl (f := fun t (r : Record) => platingEndWatch r.index r.generation t)
    (fun _ _ => tallies_platingEndWatch ..) _ s

theorem tallies_exitWindowWatchAll (s : State) : (exitWindowWatchAll s).tallies = s.tallies :=
  tallies_foldl (f := fun t (r : Record) => exitWindowWatch r.index r.generation t)
    (fun _ _ => tallies_exitWindowWatch ..) _ s

theorem tally_released (k : Nat) (r : Record) : (r.released k).tally = { r.tally with count := r.pendingCount - k } := by
  rcases Nat.eq_zero_or_pos k with rfl | pos
  · rfl
  · rw [released_pos pos]
    unfold Record.settled
    split <;> rfl

theorem Releases.tallies {E : List Entry} (h : Releases s t E) : t.tallies = s.tallies.map (Tally.lessen E) := by
  rw [State.tallies, h.table, State.tallies, List.map_map, List.map_map]
  exact List.map_congr_left fun r _ => tally_released _ r

theorem tallies_holding (s : State) (n : Snapshot) :
    (s.holding n).live.map Record.tally = s.tallies.map (Tally.hold (n.sides.flatMap Side.entries)) := by
  rw [State.holding, State.tallies, List.map_map, List.map_map]
  rfl

/-! ### The charge of a side shared out (R108 to R110) -/

theorem tallies_creditEntry (distinct : (s.table.live.map Record.index).Nodup) (e : Entry) (fwd rev : Nat)
    (kind : ClosureKind) : (creditEntry z e fwd rev kind s).tallies = s.tallies.map (Tally.lessen [e]) := by
  have credited : (if s.credits e.index e.generation then creditRecord e.index e.generation e.face fwd rev kind s
      else addOrphan z fwd rev s).tallies = s.tallies := by
    split
    · exact tallies_creditRecord ..
    · exact tallies_of_table rfl
  have distinct' : ((if s.credits e.index e.generation then creditRecord e.index e.generation e.face fwd rev kind s
      else addOrphan z fwd rev s).table.live.map Record.index).Nodup := by
    rw [← tallies_index, credited, tallies_index]
    exact distinct
  exact (releases_all distinct' [e]).tallies.trans (by rw [credited])

theorem tallies_creditEntries (kind : ClosureKind) (l : List (Entry × Nat × Nat))
    (distinct : (s.table.live.map Record.index).Nodup) :
    (creditEntries z kind l s).tallies = s.tallies.map (Tally.lessen (l.map Prod.fst)) := by
  induction l generalizing s with
  | nil => exact (List.map_id s.tallies).symm
  | cons x l ih =>
    obtain ⟨e, fwd, rev⟩ := x
    have first := tallies_creditEntry (z := z) distinct e fwd rev kind
    have distinct' : ((creditEntry z e fwd rev kind s).table.live.map Record.index).Nodup :=
      (works_creditEntry z s e fwd rev kind).distinct distinct
    refine (ih distinct').trans ?_
    rw [first, List.map_map, ← lessen_append]
    rfl

/-- R109, R110: each entry of the side is released; a side with no area has none. -/
theorem tallies_shareOut {d : Side} (distinct : (s.table.live.map Record.index).Nodup)
    (areas : d.aZ = totalArea d.entries ∧ ∀ e ∈ d.entries, 0 < e.area) (qf qr : Nat) (kind : ClosureKind) :
    (shareOut z d qf qr kind s).tallies = s.tallies.map (Tally.lessen d.entries) := by
  obtain ⟨total, positive⟩ := areas
  unfold shareOut
  split
  · rename_i none
    have empty : d.entries = [] := by
      refine List.eq_nil_iff_forall_not_mem.2 fun e mem => ?_
      have zero := List.sum_eq_zero_iff.1 (total.symm.trans none) e.area (List.mem_map_of_mem mem)
      exact absurd (positive e mem) (by omega)
    rw [empty]
    exact (tallies_of_table rfl).trans (List.map_id s.tallies).symm
  · rw [tallies_creditEntries _ _ distinct, List.map_fst_zip]
    rw [List.length_zip, length_shares, length_shares, Nat.min_self]

/-! ### One side closed (R103, R104) -/

/-- The test by which a closure finds its snapshot (R104). -/
def Snapshot.answers (seq : BitVec 8) (c : Fin 32) (n : Snapshot) : Bool := n.seq == seq && openOn c n

theorem closeInList_cons (seq : BitVec 8) (c : Fin 32) (n : Snapshot) (l : List Snapshot) :
    closeInList seq c (n :: l) = if n.answers seq c
      then (if (n.closeSide c).sides.all Side.closed then l else n.closeSide c :: l)
      else n :: closeInList seq c l := rfl

theorem openEntries_closeSide {n : Snapshot} {c : Fin 32} {d : Side} (onC : n.openSideOn c = some d) :
    n.openEntries.Perm (d.entries ++ (n.closeSide c).openEntries) := by
  obtain ⟨isOpen, ahead, behind, split, passed⟩ := List.find?_eq_some_iff_append.1 onC
  have test : (d.channel == c && !d.closed) = true := isOpen
  simp only [Bool.and_eq_true, Bool.not_eq_true'] at test
  have closed : (n.closeSide c).openSides = (ahead ++ behind).filter fun e => !e.closed := by
    rw [Snapshot.openSides, Snapshot.closeSide, split,
      modifyFirst_append (test := fun e : Side => e.channel == c && !e.closed) (fun y mem => by simpa [imp_iff_not_or] using passed y mem) isOpen,
      List.filter_append, List.filter_append, List.filter_cons_of_neg (by simp)]
  have opened : n.openSides.Perm (d :: (n.closeSide c).openSides) := by
    rw [closed, Snapshot.openSides, split, ← List.filter_cons_of_pos (p := fun e : Side => !e.closed) (by simp [test.2])]
    exact List.perm_middle.filter _
  exact opened.flatMap_right Side.entries

/-- R104: a closure takes the entries of the side it closes from the pending list. -/
theorem entries_closeInList {seq : BitVec 8} {c : Fin 32} {l : List Snapshot} {n : Snapshot} {d : Side}
    (found : l.find? (Snapshot.answers seq c) = some n) (onC : n.openSideOn c = some d) :
    (l.flatMap Snapshot.openEntries).Perm (d.entries ++ (closeInList seq c l).flatMap Snapshot.openEntries) := by
  induction l with
  | nil => cases found
  | cons m l ih =>
    by_cases here : m.answers seq c = true
    · obtain rfl : m = n := Option.some.inj ((List.find?_cons_of_pos here).symm.trans found)
      have closed := openEntries_closeSide onC
      rw [closeInList_cons, if_pos here]
      split
      case isTrue all =>
        have none : (m.closeSide c).openEntries = [] := by rw [Snapshot.openEntries, all_closed_iff.1 all]; rfl
        rw [none, List.append_nil] at closed
        exact closed.append_right _
      case isFalse =>
        rw [List.flatMap_cons, List.flatMap_cons, ← List.append_assoc]
        exact closed.append_right _
    · rw [List.find?_cons_of_neg here] at found
      rw [closeInList_cons, if_neg here, List.flatMap_cons, List.flatMap_cons]
      refine ((ih found).append_left _).trans ?_
      rw [← List.append_assoc, ← List.append_assoc]
      exact List.perm_append_comm.append_right _

theorem sound_closeSide {n : Snapshot} (h : n.Sound) (c : Fin 32) : (n.closeSide c).Sound := by
  refine ⟨fun d mem => ?_, ?_⟩
  · rcases mem_modifyFirst mem with old | ⟨e, old, -, rfl⟩
    · exact h.areas d old
    · exact h.areas e old
  · have channels : (n.closeSide c).sides.map Side.channel = n.sides.map Side.channel :=
      map_modifyFirst (f := fun d : Side => { d with closed := true }) (fun _ => rfl) _
    rw [channels]
    exact h.channels

theorem sound_closeInList {l : List Snapshot} (h : ∀ n ∈ l, n.Sound) (seq : BitVec 8) (c : Fin 32) :
    ∀ n ∈ closeInList seq c l, n.Sound := by
  intro n mem
  rcases closeInList_cases seq c l with same | ⟨a, m, b, rfl, -, -, ⟨-, gone⟩ | ⟨-, kept⟩⟩
  · exact h n (same ▸ mem)
  · rw [gone] at mem
    exact h n (List.append_subset.2 ⟨by simp, by simp⟩ mem)
  · rw [kept] at mem
    rcases List.mem_append.1 mem with front | rest
    · exact h n (List.mem_append_left _ front)
    · rcases List.mem_cons.1 rest with rfl | back
      · exact sound_closeSide (h m (by simp)) c
      · exact h n (by simp [back])

/-- R103, R104: a closure of the side that it finds open. -/
theorem holds_closeSide {seq : BitVec 8} {c : Fin 32} {n : Snapshot} {d : Side} (h : Holds s)
    (found : s.zones[z].pending.find? (Snapshot.answers seq c) = some n) (onC : n.openSideOn c = some d) (qf qr : Nat)
    (kind : ClosureKind) : Holds (closeSide z seq d qf qr kind s) := by
  obtain ⟨side, rfl, -⟩ := openSideOn_some onC
  obtain ⟨fwd, rev, zone⟩ := closeSide_zone z s seq d qf qr kind
  have sound := h.sound z n (List.mem_of_find?_eq_some found)
  refine h.lose (othersKept_closeSide ..) ?_ ?_ (tallies_shareOut h.distinct (sound.areas d side) qf qr kind)
  · rw [State.pendingOf, State.pendingOf, zone]
    exact entries_closeInList found onC
  · rw [zone]
    exact sound_closeInList (h.sound z) seq d.channel

/-! ### The closures of a readback, of a forced closure, and lost closures (R105, R112, R114) -/

/-- R105: on a lawful list the snapshot that a readback matches is the one that its closure finds. -/
theorem answers_of_match {q : Sequencer} {c : Fin 32} {seq : BitVec 8} {n : Snapshot} {d : Side} (h : Pends q.pending)
    (found : matchIn q c seq = some (n, d)) : q.pending.find? (Snapshot.answers n.seq c) = some n := by
  obtain ⟨mem, rfl, notUn, onC⟩ := matchIn_some found
  obtain ⟨ahead, m, behind, split, first, passed⟩ := List.findSome?_eq_some_iff.1 found
  simp only [Option.ite_none_right_eq_some, Option.map_eq_some_iff, Prod.mk.injEq] at first
  obtain ⟨-, e, -, rfl, -⟩ := first
  rw [split]
  refine find?_append_cons (fun o front => ?_) (by simp [Snapshot.answers, openOn, onC])
  have no := passed o front
  rw [ite_eq_right_iff] at no
  have notUn' : o.phase ≠ .unstarted := fun un => by
    have phases := h.phases
    obtain ⟨a, b, rfl⟩ := List.append_of_mem front
    rw [split, List.append_assoc, List.map_append, List.cons_append, List.map_cons, un] at phases
    have last := (phasesInOrder_unstarted phases).1
    simp at last
  rw [Bool.eq_false_iff]
  intro answers
  simp only [Snapshot.answers, openOn, Bool.and_eq_true] at answers
  have none := no (by simp [answers.1, notUn'])
  rw [Option.map_eq_none_iff] at none
  rw [none] at answers
  exact Bool.false_ne_true answers.2

/-- R112: the open sides of the oldest snapshot force-closed, from the first on. -/
theorem holds_forceSides {seq : BitVec 8} {rest : List Snapshot} (todo : List Side) (m : Snapshot) (h : Holds s)
    (isSeq : m.seq = seq) (left : m.openSides = todo) (head : s.zones[z].pending = m :: rest) :
    Holds (todo.foldl (fun t (d : Side) => closeSide z seq d d.qfOrd d.qrOrd .forced t) s) := by
  induction todo generalizing m s with
  | nil => exact h
  | cons d todo ih =>
    have onC : m.openSideOn d.channel = some d := by
      obtain ⟨ahead, behind, split, closed, isOpen, -⟩ := List.filter_eq_cons_iff.1 left
      rw [Snapshot.openSideOn, split]
      refine find?_append_cons (fun y mem => ?_) (by simpa using isOpen)
      have shut := closed y mem
      simp only [Bool.not_eq_true, Bool.not_eq_false'] at shut
      simp [shut]
    have answers : m.answers seq d.channel = true := by simp [Snapshot.answers, openOn, onC, isSeq]
    have found : s.zones[z].pending.find? (Snapshot.answers seq d.channel) = some m := by
      rw [head]
      exact List.find?_cons_of_pos answers
    obtain ⟨fwd, rev, zone⟩ := closeSide_zone z s seq d d.qfOrd d.qrOrd .forced
    have shrunk := openSides_closeSide left
    rw [head, closeInList_cons, if_pos answers] at zone
    have closed := holds_closeSide h found onC d.qfOrd d.qrOrd .forced
    rw [List.foldl_cons]
    cases todo with
    | nil => exact closed
    | cons e todo =>
      have more : ¬ (m.closeSide d.channel).sides.all Side.closed = true := by
        rw [all_closed_iff, shrunk]
        exact List.cons_ne_nil e todo
      rw [if_neg more] at zone
      exact ih (m.closeSide d.channel) closed isSeq shrunk (by rw [zone])

theorem holds_boundaryForce (h : Holds s) : Holds (boundaryForce z s) := by
  unfold boundaryForce
  split
  · rename_i n rest pending
    split
    · exact holds_forceSides n.openSides n h rfl rfl pending
    · exact h
  · exact h

/-- R114: the sides of one zone on the channel, lost oldest first. -/
theorem holds_loseAll {c : Fin 32} (todo : List Snapshot) (h : Holds s)
    (same : s.zones[z].pending.filter (openOn c) = todo.filter (openOn c)) : Holds (loseAll z c todo s) := by
  induction todo generalizing s with
  | nil => exact h
  | cons n todo ih =>
    cases onC : n.openSideOn c with
    | none =>
      have shut : openOn c n = false := openOn_false.2 onC
      rw [List.filter_cons_of_neg (by simp [shut])] at same
      rw [loseAll_cons_none onC]
      exact ih h same
    | some d =>
      have isOpen : openOn c n = true := by rw [openOn, onC]; rfl
      rw [List.filter_cons_of_pos isOpen] at same
      obtain ⟨ahead, behind, split, passed, -, -⟩ := List.filter_eq_cons_iff.1 same
      have found : s.zones[z].pending.find? (Snapshot.answers n.seq c) = some n := by
        rw [split]
        exact find?_append_cons (fun o mem => by simp [Snapshot.answers, passed o mem]) (by simp [Snapshot.answers, isOpen])
      obtain ⟨fwd, rev, zone⟩ := closeSide_zone z s n.seq d 0 0 .lost
      rw [loseAll_cons_open onC]
      refine ih (holds_closeSide h found onC 0 0 .lost) ?_
      rw [zone, (openSideOn_some onC).2.1]
      exact filter_closeInList (fun o mem => (h.sound z o mem).channels) same

theorem holds_loseSides (c : Fin 32) (h : Holds s) : Holds (loseSides c s) :=
  holds_foldl (f := loseSidesOf c) (fun u y h => by
    by_cases out : u.zones[y].state.outOfService = true
    · rw [loseSidesOf_out out]
      exact holds_loseAll _ h rfl
    · rw [loseSidesOf_in out]
      exact h) _ h

/-! ### Leaving service (R80, R83) -/

theorem perm_find? {α : Type} (test : α → Bool) (l : List α) : l.Perm ((l.find? test).toList ++ removeFirst test l) := by
  cases found : l.find? test with
  | none => rw [removeFirst_none fun y mem => by simpa using List.find?_eq_none.1 found y mem]; exact .refl _
  | some x => exact perm_removeFirst found

/-- R83: the pending list is what is discarded and what is left. -/
theorem perm_goneFrom (s : State) (z : Fin 16) : s.zones[z].pending.Perm (s.goneFrom z ++ s.leftPending z) := by
  have apart : ∀ n : Snapshot, n.isStarted = true → n.isUnstarted = false := fun n started => by
    rw [Snapshot.isUnstarted, isStarted_iff.1 started]
    rfl
  have still := find?_removeFirst_other apart s.zones[z].pending
  have first := perm_find? Snapshot.isStarted s.zones[z].pending
  have whole := perm_find? Snapshot.isUnstarted s.zones[z].pending
  have rest := perm_find? Snapshot.isUnstarted (removeFirst Snapshot.isStarted s.zones[z].pending)
  rw [still] at rest
  unfold State.goneFrom State.leftPending
  cases found : s.zones[z].pending.find? Snapshot.isStarted with
  | none => exact whole
  | some n =>
    rw [found] at first
    dsimp only [Option.toList]
    rw [List.filter_singleton]
    by_cases waiting : waits (isMarkOf z n.seq) s = true
    · rw [if_pos waiting, waiting, List.append_assoc]
      exact first.trans (rest.append_left _)
    · rw [if_neg waiting, Bool.eq_false_iff.2 waiting]
      exact whole

theorem holds_leaveService (x : ZoneState) (h : Holds s) : Holds (leaveService z x s) := by
  have zone := leaveService_zone z s x
  have released := (discards_stopAndDiscard z x s).releases h.distinct
  refine h.lose (E := (s.goneFrom z).flatMap Snapshot.openEntries) (othersKept_leaveService ..) ?_ ?_ ?_
  · rw [State.pendingOf, State.pendingOf, zone, ← List.flatMap_append]
    exact (perm_goneFrom s z).flatMap_right _
  · rw [zone]
    exact fun n mem => h.sound z n ((leftPending_sublist z s).subset mem)
  · rw [tallies_of_table (leaveService_rest z x s).1]
    exact released.tallies

theorem Holds.of_table (h : Holds s) (table : t.table = s.table) (loads : SameLoads s t) : Holds t :=
  h.of_loads (tallies_of_table table ▸ .refl _) loads

/-! ### Snapshots recomputed, started and built (R79, R81) -/

theorem sameLoads_modifyZone {f : Sequencer → Sequencer} (same : (f s.zones[z]).pending = s.zones[z].pending) :
    SameLoads s (s.modifyZone z f) :=
  .of_othersKept (othersKept_modifyZone z f s) (by rw [modifyZone_get, if_pos rfl, same])

theorem holds_modifyZone {f : Sequencer → Sequencer} (same : (f s.zones[z]).pending = s.zones[z].pending) (h : Holds s) :
    Holds (s.modifyZone z f) := h.of_loads (.refl _) (sameLoads_modifyZone same)

theorem load_recomputedSnapshot (s : State) (z : Fin 16) (n : Snapshot) : (s.recomputedSnapshot z n).load = n.load := by
  rw [Snapshot.load, State.recomputedSnapshot, List.map_map]
  rfl

theorem holds_recompute (h : Holds s) : Holds (recompute z s) := by
  cases found : s.zones[z].pending.find? Snapshot.isUnstarted with
  | none =>
    rw [recompute_of_none z s found]
    exact h
  | some n =>
    obtain ⟨is, ahead, behind, split, passed⟩ := List.find?_eq_some_iff_append.1 found
    have same : SameLoads s (recompute z s) := by
      refine .of_othersKept (othersKept_recompute z s) ?_
      rw [zone_of_bankSet (recompute_zones z s found)]
      dsimp only
      rw [split, modifyFirst_append (fun y mem => by simpa using passed y mem) is, List.map_append, List.map_cons,
        List.map_append, List.map_cons, load_recomputedSnapshot]
    exact h.of_table (recompute_keeps ..).2.2.2.1 same

theorem load_markLate (c : Fin 32) (n : Snapshot) : (n.markLate c).load = n.load :=
  map_modifyFirst (f := fun e : Side => { e with late := true }) (fun _ => rfl) _

theorem sameLoads_lateSide (n : Snapshot) (s : State) (d : Side) : SameLoads s (lateSide z n s d) := by
  refine .of_othersKept (othersKept_lateSide ..) ?_
  rw [lateSide_zone]
  split
  · exact map_modifyFirst (load_markLate d.channel) _
  · rfl

theorem loads_advancePhases (l : List Snapshot) : (advancePhases l).map Snapshot.load = l.map Snapshot.load := by
  rw [advancePhases, List.map_map]
  refine List.map_congr_left fun n _ => ?_
  rw [Function.comp_apply]
  cases n.phase <;> rfl

theorem sameLoads_boundaryStart (z : Fin 16) (s : State) : SameLoads s (boundaryStart z s) := by
  have advanced : SameLoads s (s.modifyZone z fun q => { q with pending := advancePhases q.pending }) :=
    .of_othersKept (othersKept_modifyZone ..) (by rw [modifyZone_get, if_pos rfl]; exact loads_advancePhases _)
  unfold boundaryStart
  dsimp only
  split
  · exact advanced
  · rename_i n _
    have posted := advanced.trans (.of_zones (postItem_keeps (markItem z n) _).2.2.2.2.1)
    generalize postItem (markItem z n) _ = u at posted
    induction n.sides generalizing u with
    | nil => exact posted
    | cons d l ih => exact ih _ (posted.trans (sameLoads_lateSide n u d))

theorem holds_boundaryStart (h : Holds s) : Holds (boundaryStart z s) :=
  h.of_table (boundaryStart_keeps ..).2.2.2.1 (sameLoads_boundaryStart z s)

theorem openEntries_newSnapshot (s : State) (z : Fin 16) :
    (s.newSnapshot z).openEntries = (s.newSnapshot z).sides.flatMap Side.entries := by
  have allOpen : (s.newSnapshot z).openSides = (s.newSnapshot z).sides := by
    refine List.filter_eq_self.2 fun d mem => ?_
    obtain ⟨fc, -, rfl⟩ := List.mem_map.1 mem
    rfl
  rw [Snapshot.openEntries, allOpen]

/-- R93: no entry has area 0. -/
theorem entriesOf_positive {side : Face} {e : Entry} (h : e ∈ s.entriesOf z side) : 0 < e.area := by
  obtain ⟨r, -, inR⟩ := List.mem_flatMap.1 h
  obtain ⟨f, -, entry⟩ := List.mem_filterMap.1 inR
  simp only [State.entryOf, Option.ite_none_right_eq_some, Option.some.injEq] at entry
  obtain ⟨positive, rfl⟩ := entry
  exact positive

theorem sound_newSnapshot (distinct : s.map.channelUses.Nodup) : (s.newSnapshot z).Sound := by
  refine ⟨fun d mem => ?_, ?_⟩
  · obtain ⟨fc, -, rfl⟩ := List.mem_map.1 mem
    exact ⟨rfl, fun e entry => entriesOf_positive entry⟩
  · have channels : (s.newSnapshot z).sides.map Side.channel = s.map.zones[z].channels := by
      rw [State.newSnapshot, List.map_map]
      rfl
    rw [channels]
    exact (List.nodup_flatMap.1 distinct).1 z (List.mem_finRange z)

theorem holds_buildSnapshot (distinct : s.map.channelUses.Nodup) (h : Holds s) : Holds (buildSnapshot z s) := by
  have zone := zone_of_bankSet (buildSnapshot_zones z s)
  refine h.gain (E := (s.newSnapshot z).openEntries) (.of_bankSet (buildSnapshot_zones z s)) ?_ ?_ ?_
  · rw [State.pendingOf, State.pendingOf, zone]
    dsimp only
    rw [List.flatMap_append, List.flatMap_singleton]
    exact List.perm_append_comm
  · rw [zone]
    intro n mem
    rcases List.mem_append.1 mem with old | new
    · exact h.sound z n old
    · rw [List.mem_singleton.1 new]
      exact sound_newSnapshot distinct
  · rw [State.tallies, buildSnapshot_table h.distinct, tallies_holding, openEntries_newSnapshot]

theorem holds_timed (timer : Sequencer → Option Nat) (h : Holds s) :
    Holds (s.modifyZone z fun q => { q with periodTimer := timer q }) := holds_modifyZone rfl h

theorem holds_enterService (x : ZoneState) (distinct : s.map.channelUses.Nodup) (h : Holds s) :
    Holds (enterService z x s) := by
  have entered : Holds (entered z s x) := holds_modifyZone rfl h
  exact holds_timed (fun _ => _) (holds_buildSnapshot (s := Machine.entered z s x) distinct entered)

theorem holds_takeBoundary (distinct : s.map.channelUses.Nodup) (h : Holds s) : Holds (takeBoundary z s) := by
  have map : (boundaryStart z (boundaryForce z s)).map = s.map := by
    rw [(boundaryStart_keeps ..).1, (boundaryForce_keeps ..).1]
  exact holds_timed (fun q => (q.pending.find? Snapshot.isStarted).map Snapshot.period)
    (holds_buildSnapshot (map ▸ distinct) (holds_boundaryStart (holds_boundaryForce h)))

end Sys2Proof.Machine

/-! Every step keeps the pending counts at the pending entries (R66). -/

namespace Sys2Proof.Machine

variable {s t u : State} {z : Fin 16}

/-! ### Faults and the ends of transactions (R132 to R135, R145) -/

theorem holds_raiseMajor (x : Case) (h : Holds s) : Holds (raiseMajor x s) := by
  have noted : Holds (s.majorNoted x) := h.of_same rfl rfl
  cases zone : x.zone with
  | none =>
    rw [raiseMajor_none zone]
    exact noted
  | some y =>
    rw [raiseMajor_zone zone]
    unfold faultZone
    split
    · exact noted
    · exact noted
    · exact holds_leaveService .faulted noted

theorem holds_handOff (mode : Mode) (d : Side) (qf qr : Nat) (h : Holds s) : Holds (handOff z mode d qf qr s) := by
  unfold handOff
  split
  · exact h
  · cases s.classify z mode d qf qr with
    | major x => exact holds_raiseMajor x h
    | minor x => exact h.of_same rfl rfl
    | nothing => exact h

theorem holds_takeReadback (c : Fin 32) (b : Readback) (zones : ∀ z : Fin 16, ServiceLaw s.zones[z]) (h : Holds s) :
    Holds (takeReadback c s b) := by
  unfold takeReadback
  split
  case h_1 y n d only =>
    have found := matching_mem s (only ▸ List.mem_singleton_self (y, n, d))
    obtain ⟨-, -, -, onC⟩ := matchIn_some found
    exact holds_handOff _ _ _ _ (holds_closeSide h (answers_of_match (zones y).pends found) onC b.qf b.qr .measured)
  case h_2 => exact h.of_same rfl rfl

theorem holds_takeReadbacks (c : Fin 32) (l : List Readback) (zones : ∀ z : Fin 16, ServiceLaw s.zones[z]) (h : Holds s) :
    Holds (l.foldl (takeReadback c) s) := by
  induction l generalizing s with
  | nil => exact h
  | cons b l ih => exact ih ((serviceKept_takeReadback s c b).all zones) (holds_takeReadback c b zones h)

theorem holds_closing (closes : Bool) (c : Fin 32) (h : Holds s) : Holds (if closes then loseSides c s else s) := by
  split
  · exact holds_loseSides c h
  · exact h

theorem holds_endTransaction (h : Holds s) : Holds (endTransaction s) := by
  obtain ⟨-, -, -, table, zones, -⟩ := endTransaction_keeps s
  exact h.of_same table zones

theorem holds_goodEnd (item : DriveItem) (c : Fin 32) (st : ReplyStatus) (rbs : List Readback)
    (zones : ∀ z : Fin 16, ServiceLaw s.zones[z]) (h : Holds s) : Holds (goodEnd item c st rbs s) := by
  have rest (u : State) (zones : ∀ z : Fin 16, ServiceLaw u.zones[z]) (h : Holds u) : Holds (endTransaction
      (judgeStatus st c item.poster (if item.closes then loseSides c (rbs.foldl (takeReadback c) u)
        else rbs.foldl (takeReadback c) u))) := by
    have lost := holds_closing item.closes c (holds_takeReadbacks c rbs zones h)
    refine holds_endTransaction ?_
    cases st with
    | ok => exact lost
    | limit => exact lost.of_same rfl rfl
    | fault => exact holds_raiseMajor _ lost
  exact rest (s.modifyChannel c fun k => { k with misses := 0, lastStatus := some st, lastEnd := some .good }) zones
    (h.of_same rfl rfl)

theorem holds_badEnd (item : DriveItem) (c : Fin 32) (how : TransactionEnd) (h : Holds s) :
    Holds (badEnd item c how s) := by
  have start : Holds (s.modifyChannel c fun k => { k with misses := min 3 (k.misses + 1), lastEnd := some how }) :=
    h.of_same rfl rfl
  have lost := holds_closing item.closes c start
  refine holds_endTransaction ?_
  split
  · exact holds_raiseMajor _ lost
  · exact lost

/-! ### Motion and halt (R86 to R91) -/

theorem holds_tellMotion (m : Motion) (h : Holds s) : Holds (tellMotion m s z) := by
  unfold tellMotion
  split
  · exact holds_recompute (holds_modifyZone rfl h)
  · exact holds_recompute (holds_modifyZone rfl h)
  · exact holds_leaveService .parked h
  · exact holds_modifyZone rfl h
  · exact holds_modifyZone rfl h
  · exact h

theorem holds_changeMotion (m : Motion) (h : Holds s) : Holds (changeMotion m s) := by
  have raised : Holds (raise .motion s) := h.of_same rfl rfl
  have told := holds_foldl (f := tellMotion m) (fun _ _ k => holds_tellMotion m k) zoneNumbers raised
  exact told

theorem holds_tellHalt (h : Holds s) : Holds (tellHalt s z) := by
  unfold tellHalt
  split
  · exact holds_leaveService .halted h
  · exact holds_leaveService .halted h
  · exact holds_leaveService .halted h
  · exact holds_modifyZone rfl h
  · exact h
  · exact h

theorem holds_haltLine (h : Holds s) : Holds (haltLine s) := by
  unfold haltLine
  split
  · exact h
  · obtain ⟨-, -, -, table, zones, -⟩ := postItem_keeps .abort (s.withSup { s.sup with halted := true })
    have posted : Holds (postItem .abort (s.withSup { s.sup with halted := true })) := h.of_same table zones
    have told := holds_foldl (f := tellHalt) (fun _ _ k => holds_tellHalt k) zoneNumbers posted
    exact told.of_same (raise_keeps ..).2.2.2.1 (raise_keeps ..).2.2.2.2.1

theorem holds_tellResumes (h : Holds s) : Holds (zoneNumbers.foldl tellResume s) :=
  holds_foldl (f := tellResume) (fun u y k => by
    unfold tellResume
    split
    · exact holds_modifyZone rfl k
    · exact k) zoneNumbers h

theorem holds_pulseMotion (h : Holds s) : Holds (pulseMotion s) := by
  unfold pulseMotion
  split
  · exact h.of_same rfl rfl
  · split
    · exact holds_changeMotion .moving (h.of_same rfl rfl)
    · exact h
  · exact h

theorem holds_watchAll (h : Holds s) : Holds (exitWindowWatchAll (platingEndWatchAll s)) :=
  h.of_tallies ((tallies_exitWindowWatchAll _).trans (tallies_platingEndWatchAll s)) (by simp)

theorem holds_stopTimerExpires (h : Holds s) : Holds (stopTimerExpires s) := by
  unfold stopTimerExpires
  split
  · exact holds_changeMotion .stopped (h.of_same rfl rfl)
  · exact h

theorem holds_parkTimerExpires (h : Holds s) : Holds (parkTimerExpires s) := by
  unfold parkTimerExpires
  split
  · exact holds_changeMotion .parked (h.of_same rfl rfl)
  · exact h

/-! ### The timers of a zone (R81, R88, R91) -/

theorem holds_periodTimerExpires (distinct : s.map.channelUses.Nodup) (h : Holds s) : Holds (periodTimerExpires z s) := by
  unfold periodTimerExpires
  split
  · exact holds_takeBoundary distinct h
  · exact holds_takeBoundary distinct h
  · exact h

theorem holds_restartTimerExpires (distinct : s.map.channelUses.Nodup) (h : Holds s) :
    Holds (restartTimerExpires z s) := by
  unfold restartTimerExpires
  split
  · exact h
  · split
    · exact holds_modifyZone rfl h
    · unfold restartExpires
      split
      · exact holds_enterService .running distinct h
      · exact holds_enterService .running distinct h
      · exact holds_enterService .protect distinct h
      · exact holds_leaveService .parked h
      · exact holds_modifyZone rfl h

theorem holds_enterState (x : ZoneState) (distinct : s.map.channelUses.Nodup) (h : Holds s) :
    Holds (enterState z x s) := by
  unfold enterState
  split
  · exact holds_enterService .running distinct h
  · exact holds_enterService .protect distinct h
  · exact holds_modifyZone rfl h

/-! ### Records made (R55, R61, R71) -/

/-- R55, R66: no pending entry names the generation that its index takes next. -/
def State.Unwrapped (s : State) : Prop := ∀ e ∈ s.pendingEntries, e.generation ≠ s.table.generations[e.index] + 1

/-- R55, R66: a new record at a free index with the next generation, and nothing pending. -/
theorem holds_newRecord {r : Record} (h : Holds s) (unwrapped : s.Unwrapped) (free : ∀ q ∈ s.table.live, q.index ≠ r.index)
    (generation : r.generation = s.table.generations[r.index] + 1) (zero : r.pendingCount = 0)
    (more : t.tallies.Perm (r.tally :: s.tallies)) (zones : t.zones = s.zones) : Holds t := by
  have pending : t.pendingEntries = s.pendingEntries := by rw [State.pendingEntries, zones]; rfl
  refine ⟨pending ▸ h.tallied.insert more (List.forall_mem_map.2 free) zero fun e mem => ?_, by rw [zones]; exact h.sound⟩
  rw [Bool.eq_false_iff]
  intro isOf
  simp only [Entry.isOf, Bool.and_eq_true, beq_iff_eq] at isOf
  obtain ⟨index, same⟩ := isOf
  have index : e.index = r.index := index
  have same : e.generation = r.generation := same
  have next : s.table.generations[e.index] + 1 = s.table.generations[r.index] + 1 :=
    congrArg (fun i : Fin 64 => s.table.generations[i] + 1) index
  exact unwrapped e mem (same.trans (generation.trans next.symm))

theorem tallies_clipRearmost (rear : Option Record) (s : State) : (clipRearmost rear s).tallies = s.tallies := by
  unfold clipRearmost
  split
  · rfl
  · split
    · exact (tallies_platingEndWatch ..).trans ((tallies_of_table (raise_keeps ..).2.2.2.1).trans
        (tallies_modifyRecord _ _ (fun _ => by rfl) s))
    · rfl

theorem holds_admitCarrier (law : TableLaw s) (unwrapped : s.Unwrapped) (h : Holds s) : Holds (admitCarrier s) := by
  cases free : freeIndex s.table.live with
  | none =>
    have full : admitCarrier s = s := by rw [admitCarrier, State.nextIndex, free]; rfl
    rw [full]
    exact h
  | some i =>
    obtain ⟨new, front, admits, -⟩ := admitCarrier_entered law free
    obtain ⟨-, -, -, -, zero, -⟩ := admits.makes.accounts
    obtain ⟨index, generation⟩ : new.index = i ∧ new.generation = s.table.generations[i] + 1 :=
      ⟨admits.makes.index, admits.makes.generation⟩
    have tallies : (admitCarrier s).tallies = s.tallies ++ [new.tally] := by
      rw [admitCarrier_eq free, tallies_exitWindowWatch, tallies_platingEndWatch, tallies_clipRearmost, State.tallies,
        admits.makes.table, List.map_append]
      rfl
    refine holds_newRecord (r := new) h unwrapped ?_ ?_ zero ?_ (admitCarrier_keeps s).2.2.1
    · rw [index]
      exact freeIndex_some free
    · rw [generation, ← index]
    · rw [tallies]
      exact List.perm_append_singleton ..

theorem holds_removeRecord (r : Record) (h : Holds s) : Holds (removeRecord r s) := by
  refine h.of_loads ?_ (.of_zones (removeRecord_keeps r s).2.2.1)
  rw [State.tallies, removeRecord_table]
  exact (removeFirst_sublist ..).map _

theorem holds_entryArrival (law : TableLaw s) (unwrapped : s.Unwrapped) (h : Holds s) : Holds (entryArrival s) := by
  unfold entryArrival
  split
  · exact h.of_same rfl rfl
  · split
    · exact holds_admitCarrier law unwrapped h
    · split
      · rename_i r _
        have removed : Holds (displaceRecord r s) := (holds_removeRecord r h).of_tallies rfl rfl
        have still : (displaceRecord r s).Unwrapped := by
          have generations : (displaceRecord r s).table.generations = s.table.generations := by
            have same : (displaceRecord r s).table.generations = (removeRecord r s).table.generations := rfl
            rw [same, removeRecord_table]
          have pending : (displaceRecord r s).pendingEntries = s.pendingEntries := by
            rw [State.pendingEntries, (displaceRecord_keeps r s).2.2.1]
            rfl
          rw [State.Unwrapped, generations, pending]
          exact unwrapped
        exact holds_admitCarrier (tableLaw_displaceRecord r law) still removed
      · rw [loseCarrier_eq]
        exact h.of_tallies rfl rfl

theorem tallies_exitArrival (s : State) : (exitArrival s).tallies = s.tallies := by
  unfold exitArrival
  split
  · exact tallies_of_table rfl
  · split
    · exact (tallies_of_table (raise_keeps ..).2.2.2.1).trans (tallies_modifyRecord _ _ (fun _ => by rfl) s)
    · exact tallies_of_table rfl

theorem holds_takeEdge (which : Sensor) (law : TableLaw s) (unwrapped : s.Unwrapped) (h : Holds s) :
    Holds (takeEdge which s) := by
  unfold takeEdge
  dsimp only
  split
  · cases which with
    | entry => exact holds_entryArrival (law.of_table rfl) unwrapped (h.of_same rfl rfl)
    | exit => exact (h.of_same rfl rfl).of_tallies (tallies_exitArrival _) (exitArrival_keeps _).2.2.2.1
  · exact h.of_same rfl rfl

theorem holds_applyPlace {r : Record} (h : Holds s) (unwrapped : s.Unwrapped) (free : ∀ q ∈ s.table.live, q.index ≠ r.index)
    (generation : r.generation = s.table.generations[r.index] + 1) (zero : r.pendingCount = 0) : Holds (applyPlace r s) := by
  obtain ⟨ahead, behind, line, inserted⟩ := insertInLine_split s.map.line.scale r s.table.live
  have tallies : (applyPlace r s).tallies = (insertInLine s.map.line.scale r s.table.live).map Record.tally := by
    rw [applyPlace, tallies_exitWindowWatch, tallies_platingEndWatch, tallies_testTarget, tallies_testTarget]
    rfl
  refine holds_newRecord h unwrapped free generation zero ?_ (by simp [applyPlace])
  rw [tallies, inserted, State.tallies, line, ← List.map_cons]
  exact List.perm_middle.map _

/-! ### Steps -/

theorem tallies_applyEdit (m : LineMap) (s : State) : (applyEdit m s).tallies = s.tallies := by
  have plated : (if m.ePlate = s.map.ePlate then s.withMap m else platingEndWatchAll (s.withMap m)).tallies = s.tallies := by
    split
    · rfl
    · exact tallies_platingEndWatchAll _
  unfold applyEdit
  dsimp only
  split
  · exact plated
  · exact (tallies_exitWindowWatchAll _).trans plated

theorem tallies_applyAmend (r : Record) (a : Amendment) (s : State) : (applyAmend r a s).tallies = s.tallies := by
  have written : (modifyRecord r.index r.generation (fun q => q.amendedBy a) s).tallies = s.tallies :=
    tallies_modifyRecord _ _ (fun _ => by rfl) s
  rw [applyAmend_eq]
  split
  · exact written
  · exact (tallies_platingEndWatch ..).trans written

theorem placementOf_nextIndex {i : Fin 64} {g : BitVec 8} (h : s.nextIndex = some (i, g)) (p : Placement) (mark : Count) :
    (∀ q ∈ s.table.live, q.index ≠ (placedRecord p i g mark).index)
      ∧ (placedRecord p i g mark).generation = s.table.generations[(placedRecord p i g mark).index] + 1 :=
  nextIndex_some h

theorem Served.holds (k : Served s t) (distinct : s.map.channelUses.Nodup) (unwrapped : s.Unwrapped) (h : Holds s) :
    Holds t := by
  cases k with
  | still => exact h
  | profile | access | defined | redefined | slotState | erased | speed | ignoredCleared | addressed
  | countersCleared | eventsCleared | attention | staleCleared => exact h.of_same rfl rfl
  | walked => exact h.of_tallies rfl rfl
  | edited => exact h.of_tallies (tallies_applyEdit ..) (applyEdit_keeps ..).2.2.1
  | announced _ _ _ taken =>
    obtain ⟨-, rfl⟩ := takeProgram_ok taken
    exact h.of_tallies rfl rfl
  | cancelled =>
    rw [releaseProgram_eq]
    exact h.of_tallies rfl rfl
  | amended _ _ _ moved =>
    obtain rfl := moveProgram_eq moved
    exact h.of_tallies (tallies_applyAmend ..) (by simp)
  | identified _ _ _ _ moved =>
    obtain rfl := moveProgram_eq moved
    exact h.of_tallies (tallies_modifyRecord _ _ (fun _ => by rfl) _) rfl
  | placed _ _ index _ _ taken =>
    obtain ⟨-, rfl⟩ := takeProgram_ok taken
    obtain ⟨free, generation⟩ := placementOf_nextIndex index _ _
    exact holds_applyPlace (h.of_same rfl rfl) unwrapped free generation rfl
  | retired => exact holds_removeRecord _ h
  | enabled =>
    rename_i z _ _
    obtain ⟨map, -, -, table, zones, -⟩ := clearMisses_keeps s.map.zones[z].channels s
    have cleared : Holds (clearMisses s.map.zones[z].channels s) := h.of_same table zones
    exact holds_enterState _ (by rw [map]; exact distinct) cleared
  | disabled => exact holds_leaveService .disabled h
  | halted => exact holds_haltLine h
  | resumed =>
    have resumed : Holds (s.withSup { s.sup with halted := false }) := h.of_same rfl rfl
    exact holds_tellResumes resumed
  | lineReset =>
    refine holds_of_empty (by rw [resetLineNow_table]; rfl) fun z => ?_
    rw [resetLineNow_zones]
    rfl

theorem Happened.holds (k : Happened s t) (law : TableLaw s) (distinct : s.map.channelUses.Nodup)
    (zones : ∀ z : Fin 16, ServiceLaw s.zones[z]) (unwrapped : s.Unwrapped) (h : Holds s) : Holds t := by
  cases k with
  | encoder sense => exact holds_watchAll (holds_pulseMotion (h.of_same rfl rfl))
  | stopTimer => exact holds_stopTimerExpires h
  | parkTimer => exact holds_parkTimerExpires h
  | edge which => exact holds_takeEdge which law unwrapped h
  | otherEdge | skipped | haltInactive | pulseTimer | reminderTimer => exact h.of_same rfl rfl
  | haltActive => exact holds_haltLine (h.of_same rfl rfl)
  | period z => exact holds_periodTimerExpires distinct h
  | restart z => exact holds_restartTimerExpires distinct h
  | frameSent => exact h.of_same (by simp) (by simp)
  | replyBegun => exact h.of_same (by simp) (by simp)
  | goodEnd item c st rbs => exact holds_goodEnd item c st rbs zones h
  | badEnd item c how => exact holds_badEnd item c how h

theorem channelUses_of_valid {m : LineMap} (h : m.valid [] = true) : m.channelUses.Nodup := by
  simp only [LineMap.valid, Bool.and_eq_true, decide_eq_true_eq] at h
  obtain ⟨⟨⟨⟨⟨⟨⟨⟨-, distinct⟩, -⟩, -⟩, -⟩, -⟩, -⟩, -⟩, -⟩ := h
  exact distinct

/-- R66: every step keeps the pending counts at the pending entries. -/
theorem holds_kept (table : TableLaw s) (map : MapLaw s) (zones : ∀ z : Fin 16, ServiceLaw s.zones[z])
    (unwrapped : s.Unwrapped) (law : HoldLaw s) (k : step s = .next t) : HoldLaw t := by
  obtain ⟨waiting, k⟩ := stepped_of_step k
  have start : Holds { s with pending := waiting } := (holds_of_law table.indexes law).of_same rfl rfl
  have powerOn (pins : Pins) : Holds (powerOnState pins waiting) :=
    holds_of_empty rfl fun z => by simp [powerOnState, State.reset, Sequencer.powerOn]
  have distinct := channelUses_of_valid map.valid
  exact (k.keeps (Law := Holds) start (fun pins _ => powerOn pins) (fun pins => holds_haltLine (powerOn pins))
    (start.of_same rfl rfl) (fun _ _ k => k.holds (table.of_table rfl) distinct zones unwrapped start)
    (fun _ _ k => k.holds distinct unwrapped start) (fun _ _ k => k.of_same rfl rfl) (fun _ k => k.of_same rfl rfl)).law

/-- Settles O56: a reference is taken, moved or released with the choice that it counts; a pending count moves with the
entries of open sides that name its record. -/
theorem referenceLawIsKept : Obligations.ReferenceLawIsKept := fun _ _ table k =>
  ⟨fun law => references_kept table law k, fun map zones unwrapped law => holds_kept table map zones unwrapped law k⟩

end Sys2Proof.Machine
